-- ==== Sys2Proof/Word.lean ====
section
/-! DEFINITION. The words of the two links and of the event sets, and their plainest arithmetic. -/

namespace Sys2Proof

/-- One character of a link (R163). -/
abbrev Byte := BitVec 8

/-- A frame's check value (R163). -/
abbrev Check16 := BitVec 16

/-- The geometry digest (R183). -/
abbrev Digest := BitVec 32

/-- A set of event flags, bit by bit as in the NOTICE body (R176, Table 10-8). -/
abbrev EventBits := BitVec 12

/-- A set of placement classes, bit c standing for class c (R176). -/
abbrev ClassBits := BitVec 16

end Sys2Proof
end

