-- ==== Sys2Proof/Config.lean ====
section
/-! DEFINITION. What the data book fixes as numbers, and the free values: constants with no body where the
data book leaves a value open. -/

namespace Sys2Proof.Config

/-- Highest physical track, 2^24 - 1 (00, Physical Numbering). -/
def maxTrack : Nat := 2 ^ 24 - 1
/-- Capacity the Retired Track List shares with the Pending Retirement List (R6). -/
def retiredCap : Nat := 2048
/-- Capacity of the Pending Retirement List (R38). -/
def pendingRetireCap : Nat := 256
/-- Most bands on one parked list (R30). -/
def parkedCap : Nat := 4
/-- Capacity of the Extent Map (R43). -/
def mapCap : Nat := 262144
/-- The MAP_HIGH level (R56). -/
def mapHigh : Nat := 245760
/-- Longest Extent Map entry (R43, R44). -/
def extentCap : Nat := 2 ^ 24
/-- Capacity of the pending remap list (R57). -/
def remapCap : Nat := 64
/-- Map entries a staged remap holds in reserve (R54). -/
def remapReserve : Nat := 2
/-- Most records on the Run List (R87). -/
def runCap : Nat := 16384
/-- Longest run record (R87, R88). -/
def runLen : Nat := 8192
/-- Longest PLACE or FETCH (R152, R171). -/
def placeLen : Nat := 8192
/-- Most band pieces of a PLACE (R77). -/
def pieceCap : Nat := 8
/-- Length from which a streamed PLACE re-aims (R76). -/
def reaimLen : Nat := 256
/-- Blocks of a channel's buffer, and the longest copy (R102, R110). -/
def copyLen : Nat := 1024
/-- Orders the Order Queue holds (R136). -/
def orderCap : Nat := 64
/-- Orders of the issue window (R138). -/
def windowCap : Nat := 8
/-- Places of the Request Queue (R168). -/
def requestCap : Nat := 16
/-- Records of the Transaction Table (R170). -/
def txnCap : Nat := 24
/-- Ordinary places of the transmit queue (R166). -/
def ordinaryPlaces : Nat := 70
/-- Most READ orders a FETCH is admitted with (R153). -/
def fetchOrders : Nat := 32
/-- Most segments of a LOCATE reply (R161). -/
def locateSegs : Nat := 64
/-- Longest LOCATE (R160). -/
def locateLen : Nat := 2 ^ 24
/-- Longest DISCARD (R53). -/
def discardLen : Nat := 2 ^ 32
/-- Oldest age a band is scored at (R126). -/
def ageCap : Nat := 4095
/-- Weight of a SUSPECT candidate (R125). -/
def suspectWeight : Nat := 64
/-- Full utilization (R128). -/
def fullUse : Nat := 65536
/-- Highest score (R129). -/
def scoreCap : Nat := 65535
/-- Top of the counters of 16 bits (R146, R164, R166). -/
def count16 : Nat := 65535
/-- Top of a tally counter (R187). -/
def tallyCap : Nat := 2 ^ 48 - 1
/-- Top of H and of a compare hour (R107, R182). -/
def hourCap : Nat := 2 ^ 32 - 1
/-- Milliseconds of one hour (R182). -/
def hourMs : Nat := 3600000
/-- Longest frame body (R163). -/
def bodyCap : Nat := 6449
/-- Most reports between blocks that one event works off; what a longer event has left is dropped at its end.
DESIGN CHOICE, log 4. -/
def cascadeFuel : Nat := 65536

/-- Free value (log 6): how many of the Map Store updates in progress a cold start without PWRFAIL finds
complete, applied to State's counter. -/
opaque freeKept : Nat → Nat

/-- Free value (log 20): the scoring weight the evaluate form reports for a band of no class, by band. -/
opaque freeWeight : Nat → Nat

/-- Free value (log 10): what is sent for an item of `chars` characters whose value does not fit in them. -/
opaque freeItem : (chars value : Nat) → Nat

end Sys2Proof.Config
end

