-- ==== Sys2Proof/Syntax.lean ====
section
/-! DEFINITION. The commands of the ZW460: one constructor of Instr for each row of spec/opcode_table.json, with
its operands as the frame or the event carries them. -/

namespace Sys2Proof

/-- A zone record of the Geometry Table (R1, Table 1-1). -/
structure Zone where
  first : Nat
  pairs : Nat
  T : Nat
  S : Nat
  deriving DecidableEq, Repr

/-- The Geometry Table (R1, Table 1-1). -/
structure Geometry where
  K : Nat
  zones : List Zone
  stgFirst : Nat
  stgCount : Nat
  stgS : Nat
  L : Nat
  deriving DecidableEq, Repr

/-- A record of the Region Attribute Table (R67, Table 4-2). -/
structure Region where
  start : Nat
  len : Nat
  cls : Nat
  tail : Nat
  verify : Nat
  deriving DecidableEq, Repr

/-- What every request frame has: its tag, and how many characters its body held (R163, R165). -/
structure Req where
  tag : Nat
  bodyLen : Nat
  deriving DecidableEq, Repr

/-- Why a Command Link frame is discarded (R164). -/
inductive FrameFault where
  | stopBit
  | oversize
  | badCheck
  deriving DecidableEq, Repr

/-- Why a Media Link frame is discarded (R146, R164). -/
inductive MediaFault where
  | stopBit
  | oversize
  | badCheck
  | badKind
  | badLength
  deriving DecidableEq, Repr

/-- The status of a REPORT (R142, Table 10-9). -/
inductive ReportStatus where
  | ok
  | fault
  | cancelled
  deriving DecidableEq, Repr

/-- The owner of a media order (R135). -/
inductive Owner where
  | txn (tag : Nat)
  | chan (c : Nat)
  deriving DecidableEq, Repr

/-- The two links (R163). -/
inductive Link where
  | command
  | media
  deriving DecidableEq, Repr

/-- The fields the write form of CLASS carries (R65, Table 10-10). -/
structure ClassArgs where
  firstZone : Nat
  lastZone : Nat
  quota : Nat
  weight : Nat
  slot : Nat
  deriving DecidableEq, Repr

/-- The fields the write form of CHANNEL carries, as coded (R103, Table 10-10). -/
structure ChannelArgs where
  enable : Nat
  job : Nat
  source : Nat
  mode : Nat
  count : Nat
  destClass : Nat
  victims : ClassBits
  handle : Nat
  compareHour : Nat
  period : Nat
  freeLow : Nat
  deriving DecidableEq, Repr

/-- The eight TIMERS settings (R188). -/
structure TimerArgs where
  orderTimeout : Nat
  idleDelay : Nat
  burst : Nat
  reserve : Nat
  suspect : Nat
  highMark : Nat
  digestMinutes : Nat
  eventFreeLow : Nat
  deriving DecidableEq, Repr

/-- The fields of a PLACE (R171, Table 10-7). -/
structure PlaceArgs where
  stream : Nat
  cls : Nat
  tail : Nat
  verify : Nat
  start : Nat
  len : Nat
  handle : Nat
  deriving DecidableEq, Repr

/-- The commands: the rows of spec/opcode_table.json in the table's order. The rows of a request with several
forms carry its form character where no other row names it, so that a form the kind does not have is refused. -/
inductive Instr where
  /-- Power is applied or the RESET line released, with the strap value sampled (R178, R189). -/
  | coldStart (straps : Nat)
  | resetLineAssert
  | pwrfailAssert
  | pwrfailNegate
  | frameDiscard (cause : FrameFault)
  /-- A checked frame whose kind is no request kind (R165). -/
  | badKindRequest (tag kindCode : Nat)
  | status (q : Req)
  | cancel (q : Req) (target : Nat)
  /-- EVENTS with a form that is neither 1 nor 2; form 0 reads (R186). -/
  | eventsRead (q : Req) (form : Nat)
  | eventsClear (q : Req) (flags : EventBits)
  | eventsMask (q : Req) (mask : EventBits)
  | tally (q : Req) (slot : Nat) (clear : Bool)
  | band (q : Req) (band : Nat)
  /-- TRIGGER with an action that is not 1; action 0 is SET (R108). -/
  | triggerSet (q : Req) (channel action : Nat)
  | triggerClear (q : Req) (channel : Nat)
  | reset (q : Req)
  | format (q : Req) (g : Geometry) (retired : List Nat)
  | retire (q : Req) (track : Nat)
  /-- CLASS with a form that is not 1; form 0 reads (R65). -/
  | classRead (q : Req) (cls form : Nat)
  | classWrite (q : Req) (cls : Nat) (v : ClassArgs)
  | regionRead (q : Req) (form : Nat)
  | regionWrite (q : Req) (records : List Region)
  /-- SCORING with a form that is neither 1 nor 2; form 0 reads (R133). -/
  | scoringRead (q : Req) (form : Nat) (clear : Bool)
  | scoringWrite (q : Req) (clear : Bool) (mode : Nat)
  | scoringEvaluate (q : Req) (clear : Bool) (band : Nat)
  | channelRead (q : Req) (channel form : Nat)
  | channelWrite (q : Req) (channel : Nat) (v : ChannelArgs)
  | timersRead (q : Req) (form : Nat)
  | timersWrite (q : Req) (v : TimerArgs)
  | mount (q : Req) (hold : Bool)
  | quiesce (q : Req) (hold : Bool)
  | restore (q : Req) (g : Geometry) (retired : List Nat)
  | place (q : Req) (hold : Bool) (a : PlaceArgs)
  | fetch (q : Req) (hold : Bool) (start len handle : Nat)
  | discard (q : Req) (hold : Bool) (start len : Nat)
  | locate (q : Req) (start len : Nat)
  | streamOpen (q : Req) (stream cls tail verify idle : Nat)
  | streamClose (q : Req) (stream : Nat)
  | report (id : Nat) (status : ReportStatus) (done : Nat)
  | cancelledAll
  | ready
  | notReady
  | mediaFrameDiscard (cause : MediaFault)
  /-- The last character of the frame being sent on a link has gone (R166). -/
  | frameSent (link : Link)
  | orderTimerExpiry (id : Nat)
  | cancelRepeat (id : Nat)
  | mediaIdle
  | streamIdleExpiry (stream : Nat)
  | digestCheck
  | hourAdvance
  | mountDigestEnd
  | formatComplete
  | restoreComplete
  /-- The Map Store update of a number becomes durable (R177). -/
  | storeUpdateDurable (update : Nat)
  | placeUpdateDurable (tag : Nat)
  | discardUpdateDurable (tag : Nat)
  /-- The update of the applied remap with this destination becomes durable (R60). -/
  | remapUpdateDurable (dstBand dstOff : Nat)
  | placeAdmission
  | fetchAdmission
  | discardAdmission
  | locateAdmission
  | streamOpenAdmission
  | streamCloseAdmission
  | headRefusal
  | orderIssue
  | orderRejoin (owner : Owner)
  /-- The waiting retry of a FETCH for the run that begins at an LBA (R156). -/
  | fetchRetryJoin (tag lba : Nat)
  | remapPostRetry (channel : Nat)
  | placeMapUpdate (tag : Nat)
  | transactionCancellingEnd (tag : Nat)
  | fetchEnd (tag : Nat)
  | quiesceDrainEnd
  | channelStopComplete (channel : Nat)
  deriving DecidableEq, Repr

end Sys2Proof
end

