-- ==== Sys2Proof/Machine/State.lean ====
section
/-! DEFINITION. The state of the ZW460 as plain data, the reasons a step can stop, and the state after reset. -/

namespace Sys2Proof.Machine

/-- No command of this block ends in a fault: the spec names none. -/
inductive Fault where
  /-- Raised by nobody. Safe: no state and no command reaches it. -/
  | noFault
  deriving DecidableEq, Repr

/-- The reasons for which a command has no meaning. -/
inductive Refusal where
  /-- Raised by exec's arm of a command that has no meaning yet. Safe: the step stops. -/
  | notModelled (mnemonic : String)
  deriving DecidableEq, Repr

/-- A timer on the millisecond time base: stopped, running, or held with its elapsed time (R144). -/
inductive TimerState where
  | stopped
  | running
  | held
  deriving DecidableEq, Repr

structure Timer where
  state : TimerState
  elapsed : Nat
  limit : Nat
  deriving DecidableEq, Repr

/-! ### Bands (Chapter 2) -/

/-- The band states of Table 2-2. -/
inductive BandState where
  | free
  | opened
  | parked
  | closed
  | reclaiming
  | suspect
  | retired
  deriving DecidableEq, Repr

/-- A requester of bands (R21, R25). -/
inductive Requester where
  | stream (i : Nat)
  | chan (c : Nat)
  deriving DecidableEq, Repr

/-- A band record (R21, Table 2-1). -/
structure Band where
  state : BandState
  wp : Nat
  valid : Nat
  owner : Option Requester
  cls : Nat
  closedHour : Nat
  errors : Nat
  suspectFlag : Bool
  pins : Nat
  pendingRemaps : Nat
  inFlight : Nat
  deriving DecidableEq, Repr

/-- A tail policy (R29). -/
inductive TailPolicy where
  | pad
  | cont
  deriving DecidableEq, Repr

/-- An entry of the Pending Retirement List (R38). -/
structure PendingTrack where
  track : Nat
  band : Nat
  deriving DecidableEq, Repr

/-- The Band Manager's tables (R1, R6, R21, R30, R38). `parked` holds the list of class c at index c - 1. -/
structure BandManager where
  geom : Geometry
  retired : List Nat
  pendingRetire : List PendingTrack
  bands : List Band
  parked : List (List Nat)
  deriving DecidableEq, Repr

/-! ### The Extent Map (Chapter 3) -/

/-- A physical position: a band and a block offset in it, or a log position (00, Positions). -/
inductive Place where
  | band (b off : Nat)
  | log (pos : Nat)
  deriving DecidableEq, Repr

/-- An Extent Map entry (R43, Table 3-1). -/
structure Extent where
  start : Nat
  len : Nat
  place : Place
  deriving DecidableEq, Repr

/-- A staged remap (R56, Table 3-4), with what the model needs to follow it: whether an order of it has ever
joined, whether its map update has been taken and is not yet durable, the blocks that update applied, and the
class its blocks are tallied under (R113). -/
structure Remap where
  chan : Nat
  lba : Nat
  len : Nat
  src : Place
  dstBand : Nat
  dstOff : Nat
  failed : Bool
  closed : Bool
  orders : Nat
  joined : Bool
  applying : Bool
  applied : Nat
  cls : Nat
  deriving DecidableEq, Repr

/-- The Translation Unit (R43, R54, R57, R67). -/
structure TransUnit where
  extents : List Extent
  regions : List Region
  remaps : List Remap
  reserveTotal : Nat
  deriving DecidableEq, Repr

/-! ### The staging log (Chapter 5) -/

/-- A record of the Run List (R87, Table 5-1). -/
structure Run where
  pos : Nat
  len : Nat
  start : Nat
  live : Nat
  cls : Nat
  inFlight : Bool
  pins : Nat
  hold : Nat
  deriving DecidableEq, Repr

/-- The Staging Log Unit (R86, R90): `held` says that a PLACE is held for staging space. -/
structure LogUnit where
  runs : List Run
  head : Nat
  tail : Nat
  held : Bool
  deriving DecidableEq, Repr

/-! ### Streams (Chapter 4) -/

/-- The stream states of Table 4-5. -/
inductive StreamState where
  | free
  | active
  | dormant
  | starved
  deriving DecidableEq, Repr

/-- A stream context (R71, Table 4-4). -/
structure Stream where
  state : StreamState
  cls : Nat
  tail : Nat
  verify : Nat
  band : Option Nat
  nextLba : Option Nat
  park : TailPolicy
  idleLimit : Nat
  idle : Timer
  deriving DecidableEq, Repr

/-- A class record (R64, Table 4-1). -/
structure ClassRec where
  firstZone : Nat
  lastZone : Nat
  quota : Nat
  weight : Nat
  slot : Nat
  deriving DecidableEq, Repr

/-! ### Media orders (Chapter 8) -/

inductive Op where
  | write
  | read
  | verify
  deriving DecidableEq, Repr

/-- The direction in which the sequencer goes on from track to track (R135). -/
inductive Dir where
  | up
  | down
  deriving DecidableEq, Repr

inductive OrderState where
  | queued
  | issued
  | cancelling
  deriving DecidableEq, Repr

/-- A media order (R135, Table 8-1). `place` is the band and band offset, or the log position, of its first
block. The last fields are the owner's: the LBA of the first block, the piece it belongs to and whether it writes
the piece's first or second position (R172), whether it is a retry of a READ run (R111, R156), and the number of
the Map Store update that gave its positions (R138). -/
structure Order where
  id : Nat
  op : Op
  track : Nat
  sector : Nat
  dir : Dir
  count : Nat
  place : Place
  handle : Nat
  bufOff : Nat
  owner : Owner
  cls : Nat
  state : OrderState
  timer : Timer
  lba : Nat
  piece : Nat
  attempt : Nat
  retry : Bool
  update : Nat
  deriving DecidableEq, Repr

/-- An entry of the write-wait list (R137). -/
structure WriteWait where
  owner : Owner
  band : Nat
  off : Nat
  deriving DecidableEq, Repr

inductive Lane where
  | foreground
  | background
  deriving DecidableEq, Repr

/-- The frames the part sends on the Media Link (R176, Tables 10-6 and 10-9). -/
inductive MediaFrame where
  | order (id : Nat) (op : Op) (track sector : Nat) (dir : Dir) (count handle bufOff : Nat)
  | cancel (id : Nat)
  | cancelAll
  deriving DecidableEq, Repr

/-- A link's receiver (R163): `chars` are the characters of the frame from its length on. -/
inductive Receiver where
  | hunting
  | assembling (chars : List Byte)
  deriving DecidableEq, Repr

/-- The Media Port (R135 to R148). The lanes are the QUEUED orders of `orders`, each owner's in the order of its
joins. `told` holds the owners told of a freed place that have not joined again yet (R136). -/
structure MediaPort where
  orders : List Order
  waiting : List Owner
  told : List Owner
  writeWait : List WriteWait
  ready : Bool
  favoured : Lane
  runCount : Nat
  lastChan : Nat
  idle : Timer
  stray : Nat
  linkErrors : Nat
  awaitAll : Bool
  tx : List MediaFrame
  rx : Receiver
  deriving DecidableEq, Repr

/-! ### Relocation channels (Chapter 6) -/

inductive Job where
  | destage
  | reclaim
  deriving DecidableEq, Repr

inductive TriggerSource where
  | software
  | stageHigh
  | freeLow
  | hourCompare
  | mediaIdle
  deriving DecidableEq, Repr

inductive ServiceMode where
  | single
  | successive
  | batch
  deriving DecidableEq, Repr

/-- A channel setup (R102, Table 6-1). -/
structure ChanSetup where
  enable : Bool
  job : Job
  source : TriggerSource
  mode : ServiceMode
  count : Nat
  destClass : Nat
  victims : ClassBits
  handle : Nat
  compareHour : Nat
  period : Nat
  freeLow : Nat
  deriving DecidableEq, Repr

/-- The channel states of Figure 6-1. -/
inductive ChanState where
  | disabled
  | idle
  | select
  | move
  | settle
  | stalled
  deriving DecidableEq, Repr

inductive StopCause where
  | disable
  | quiesce
  | fence
  deriving DecidableEq, Repr

/-- Where a channel's next service goes on (R104). -/
inductive Resume where
  | none
  | destage (pos off : Nat)
  | reclaim (band cursor : Nat)
  deriving DecidableEq, Repr

/-- What has become of a destination piece of a copy (R113, R114). -/
inductive CopyPieceState where
  | waiting
  | posted
  | applied
  | discarded
  | abandoned
  deriving DecidableEq, Repr

/-- A destination piece of a copy (R112): `off` is its distance from the copy's first block. -/
structure CopyPiece where
  off : Nat
  len : Nat
  band : Nat
  dst : Nat
  update : Nat
  state : CopyPieceState
  verifying : Bool
  deriving DecidableEq, Repr

inductive CopyPhase where
  | reading
  | writing
  deriving DecidableEq, Repr

/-- A copy in progress (R111 to R115): its logical range, its source, the source's class, and how far it is.
`readFailed` fixes a second failure of a run, `placed` counts the blocks given destination pieces, `noBand` and
`cutShort` say that the rest is not placed for want of a band or after an abandoned piece. -/
structure Copy where
  phase : CopyPhase
  lba : Nat
  len : Nat
  src : Place
  cls : Nat
  verify : Bool
  readFailed : Bool
  placed : Nat
  pieces : List CopyPiece
  noBand : Bool
  cutShort : Bool
  deriving DecidableEq, Repr

/-- The record a DESTAGE channel is working on (R116). -/
structure DestageRec where
  pos : Nat
  len : Nat
  start : Nat
  cls : Nat
  deriving DecidableEq, Repr

/-- A channel's state record (R104, Table 6-2) and what a service keeps besides (R106, R109, R111, R116). -/
structure Chan where
  state : ChanState
  flag : Bool
  stop : Option StopCause
  owned : Option Nat
  victim : Option Nat
  resume : Resume
  amount : Nat
  copy : Option Copy
  mode : ServiceMode
  count : Nat
  work : Option DestageRec
  lastEmpty : Bool
  toJoin : List Order
  deriving DecidableEq, Repr

/-- The Relocation Engine (R102, R104). -/
structure RelocEngine where
  setups : List ChanSetup
  chans : List Chan
  deriving DecidableEq, Repr

/-! ### Scoring (Chapter 7) -/

inductive RoundMode where
  | rnu
  | rne
  | rdn
  | rod
  deriving DecidableEq, Repr

/-- The scoring setup (R133). -/
structure ScoringUnit where
  mode : RoundMode
  saturated : Bool
  deriving DecidableEq, Repr

/-! ### The Command Link and transactions (Chapter 10) -/

/-- The outcome codes of Table 10-8. -/
inductive Result where
  | ok
  | taken
  | badKind
  | badArg
  | wrongState
  | queueFull
  | tagBusy
  | fenced
  | stagingFull
  | mapFull
  | noSpace
  | mediaError
  | timeout
  | cancelled
  | notFound
  | streamBusy
  deriving DecidableEq, Repr

/-- The request kinds of Table 10-6; `unknown` is a kind that is none. -/
inductive ReqKind where
  | status
  | cancel
  | events
  | tally
  | band
  | trigger
  | reset
  | format
  | retire
  | cls
  | region
  | scoring
  | channel
  | timers
  | mount
  | quiesce
  | restore
  | place
  | fetch
  | locate
  | discard
  | streamOpen
  | streamClose
  | unknown (code : Nat)
  deriving DecidableEq, Repr

/-- An item of a message body: a value and the characters it takes (R176). -/
structure Item where
  chars : Nat
  value : Nat
  deriving DecidableEq, Repr

/-- What a message to the host says (R167). -/
inductive Payload where
  | reply (result : Result) (kind : ReqKind) (items : List Item)
  | done (result : Result) (kind : ReqKind) (items : List Item)
  | notice (flags : EventBits)
  deriving DecidableEq, Repr

/-- The kinds of place of the transmit queue (R166). -/
inductive TxPlace where
  | ordinary
  | notice
  | refusal
  deriving DecidableEq, Repr

/-- A message of the transmit queue (R166, R167). -/
structure Message where
  tag : Nat
  place : TxPlace
  payload : Payload
  deriving DecidableEq, Repr

/-- The Link Interface (R163 to R167). `sending` says that the oldest message's first character has gone,
`gathered` is the set awaiting the NOTICE place. -/
structure LinkIface where
  queue : List Message
  sending : Bool
  reserved : Nat
  gathered : EventBits
  frameErrors : Nat
  unanswered : Nat
  rx : Receiver
  deriving DecidableEq, Repr

/-- The fields of a data request (Table 10-7). -/
inductive DataReq where
  | place (a : PlaceArgs)
  | fetch (start len handle : Nat)
  | discard (start len : Nat)
  | locate (start len : Nat)
  | streamOpen (stream cls tail verify idle : Nat)
  | streamClose (stream : Nat)
  deriving DecidableEq, Repr

/-- A place of the Request Queue (R168). -/
structure Queued where
  tag : Nat
  hold : Bool
  req : DataReq
  deriving DecidableEq, Repr

/-- A position of a piece: where it lies, the update that gave it, and whether its write has ended (R31, R91). -/
structure PiecePos where
  place : Place
  update : Nat
  ended : Bool
  deriving DecidableEq, Repr

/-- A piece of a PLACE (R170, R172): `old` is the failed first position once the retry is placed. -/
structure Piece where
  lba : Nat
  len : Nat
  pos : PiecePos
  old : Option PiecePos
  retryUsed : Bool
  verifying : Bool
  succeeded : Bool
  deriving DecidableEq, Repr

/-- A hole of a FETCH (R154). -/
structure Hole where
  start : Nat
  len : Nat
  deriving DecidableEq, Repr

/-- A waiting retry of a FETCH: the run's logical range (R156). -/
structure RetryRun where
  lba : Nat
  len : Nat
  deriving DecidableEq, Repr

/-- A Transaction Table record (R170). -/
structure Txn where
  tag : Nat
  hold : Bool
  req : DataReq
  cls : Nat
  tail : TailPolicy
  verify : Bool
  streamed : Bool
  reserve : Nat
  pieces : List Piece
  toJoin : List Order
  outcome : Option Result
  failLba : Option Nat
  holes : List Hole
  coveredEnd : Nat
  blocksRead : Nat
  retries : List RetryRun
  ended : Bool
  removed : Nat
  deriving DecidableEq, Repr

/-- The Transaction Unit (R168, R170). -/
structure TxnUnit where
  queue : List Queued
  txns : List Txn
  deriving DecidableEq, Repr

/-! ### Supervision (Chapter 11) -/

/-- The device states of Figure 11-1. -/
inductive DeviceState where
  | unformatted
  | stopped
  | mounting
  | online
  | quiescing
  | fenced
  | halted
  deriving DecidableEq, Repr

/-- The header of the Map Store (R177). -/
structure Header where
  mark : Bool
  digest : Digest
  hours : Nat
  deriving DecidableEq, Repr

/-- Which of FORMAT's three updates is running (R179). -/
inductive FormatPhase where
  | unmark
  | tables
  | header
  deriving DecidableEq, Repr

/-- A FORMAT in progress (R179). -/
structure FormatWork where
  tag : Nat
  geom : Geometry
  retired : List Nat
  phase : FormatPhase
  deriving DecidableEq, Repr

/-- A MOUNT in progress (R180). -/
structure MountWork where
  tag : Nat
  hold : Bool
  deriving DecidableEq, Repr

/-- A QUIESCE in progress (R181). -/
structure QuiesceWork where
  tag : Nat
  hold : Bool
  closed : Nat
  refused : Nat
  deriving DecidableEq, Repr

/-- A RESET request in progress (R148, R175): the tag of the last one taken, how many it answers, and whether
CANCELLED ALL has been taken. -/
structure ResetWork where
  tag : Nat
  count : Nat
  allTaken : Bool
  deriving DecidableEq, Repr

/-- The counters of a tally slot (R187). -/
structure Tally where
  direct : Nat
  staged : Nat
  destaged : Nat
  reclaimed : Nat
  padded : Nat
  fetched : Nat
  faults : Nat
  deriving DecidableEq, Repr

/-- The Supervisor (R178 to R188). -/
structure Supervisor where
  header : Header
  device : DeviceState
  format : Option FormatWork
  mount : Option MountWork
  quiesce : Option QuiesceWork
  restore : Option Nat
  reset : Option ResetWork
  hourAcc : Nat
  timeBase : Nat
  digestTimer : Timer
  events : EventBits
  mask : EventBits
  alert : Bool
  tallies : List Tally
  classes : List ClassRec
  settings : TimerArgs
  deriving DecidableEq, Repr

/-! ### The Map Store's updates (R177) -/

/-- The contents of the Map Store (R177, Table 11-1). -/
structure Image where
  header : Header
  bm : BandManager
  extents : List Extent
  regions : List Region
  runs : List Run
  head : Nat
  tail : Nat
  classes : List ClassRec
  mode : RoundMode
  setups : List ChanSetup
  settings : TimerArgs
  mask : EventBits
  deriving DecidableEq, Repr

/-- What a rule places after an update is durable (R177). -/
inductive Follow where
  /-- The REPLY of a setup request, or of EVENTS' mask form. -/
  | reply (m : Message)
  /-- The next update of FORMAT, or its completion (R179). -/
  | format
  /-- The end of RESTORE (R184). -/
  | restore
  /-- The end of a PLACE (R173). -/
  | place (tag : Nat)
  /-- The end of a DISCARD (R53). -/
  | discard (tag : Nat)
  /-- The settlement of an applied remap (R60). -/
  | remap (dstBand dstOff : Nat)
  /-- The release checks of the bands whose valid count fell in a map update, and the tail check where a run's
  live count fell to 0 (R51, R52). -/
  | checks (bands : List Nat) (tail : Bool)
  deriving DecidableEq, Repr

/-- An update in progress: its number, what follows it, the contents it leaves, and whether it is durable while
an older one is not (log 6). -/
structure StoreUpdate where
  id : Nat
  follows : List Follow
  after : Image
  done : Bool
  deriving DecidableEq, Repr

/-- The Map Store's updates: the contents before the oldest in progress, those in progress, the number of the
next, and what the event being taken has placed after its own update. -/
structure Store where
  base : Image
  updates : List StoreUpdate
  next : Nat
  follows : List Follow
  deriving DecidableEq, Repr

/-! ### The whole -/

/-- Reports between blocks inside one event (log 4), with the values a level condition compares (R106). -/
inductive Note where
  /-- The FREE count changed (R27). -/
  | freeCount (old new : Nat)
  /-- A band joined a parked list (R115). -/
  | parkJoined
  /-- The destage demand level changed (R94). -/
  | demand (old new : Bool)
  /-- An append, a tail advance or an in flight clearing (R106). -/
  | logInput
  /-- H advanced (R182). -/
  | hour (old new : Nat)
  /-- A count of a RECLAIMING band changed (R120). -/
  | victim (band : Nat)
  /-- The number of destaging channels changed (R90). -/
  | destagers
  /-- A channel's flag was set or is owed a service (R109). -/
  | service (c : Nat)
  | select (c : Nat)
  | move (c : Nat)
  | settle (c : Nat)
  /-- A copy's orders or remaps have moved on (R111 to R113). -/
  | copy (c : Nat)
  /-- The next destination piece of a copy (R112). -/
  | piece (c : Nat)
  /-- The drain of QUIESCE may have ended (R181). -/
  | drain
  deriving DecidableEq, Repr

/-- The part: its ten blocks, the Map Store's updates, and the model's own fields. -/
structure Part where
  bm : BandManager
  tu : TransUnit
  sl : LogUnit
  su : List Stream
  re : RelocEngine
  sc : ScoringUnit
  mp : MediaPort
  tx : TxnUnit
  li : LinkIface
  sv : Supervisor
  store : Store
  notes : List Note
  fresh : Nat
  deriving DecidableEq, Repr

/-- The input lines (R189): the straps as last sampled, and the levels of RESET and PWRFAIL. -/
structure Pins where
  straps : Nat
  resetLine : Bool
  pwrfail : Bool
  deriving DecidableEq, Repr

/-- A character as a receiver finds it: eight data bits, or one with a stop-bit error (R163, R164). -/
inductive LineChar where
  | byte (c : Byte)
  | stopError
  deriving DecidableEq, Repr

/-- A character that has come to the part on a link. -/
structure Arrival where
  link : Link
  char : LineChar
  deriving DecidableEq, Repr

/-- The machine: the part, its lines, the commands that wait, first in, first out, and the characters on the links
that the receivers have not taken yet, the oldest first (log 36). -/
structure State where
  part : Part
  pins : Pins
  pending : List Instr
  line : List Arrival
  deriving DecidableEq, Repr

/-! ### Values after reset -/

def Timer.stopped : Timer := { state := .stopped, elapsed := 0, limit := 0 }

/-- A FREE band as FORMAT leaves it (R42). -/
def Band.blank : Band :=
  { state := .free, wp := 0, valid := 0, owner := none, cls := 0, closedHour := 0, errors := 0,
    suspectFlag := false, pins := 0, pendingRemaps := 0, inFlight := 0 }

/-- The last column of Table 4-4. -/
def Stream.blank : Stream :=
  { state := .free, cls := 0, tail := 0, verify := 0, band := none, nextLba := none, park := .cont,
    idleLimit := 0, idle := .stopped }

/-- The defaults of Table 4-1 for class c. -/
def ClassRec.default (c : Nat) : ClassRec :=
  { firstZone := 0, lastZone := 31, quota := 16384, weight := 1, slot := c - 1 }

def defaultClasses : List ClassRec := (List.range 8).map fun i => ClassRec.default (i + 1)

/-- The defaults of Table 6-1. -/
def ChanSetup.default : ChanSetup :=
  { enable := false, job := .destage, source := .software, mode := .single, count := 1024, destClass := 0,
    victims := 0, handle := 0, compareHour := 0, period := 0, freeLow := 8 }

/-- The last column of Table 6-2. -/
def Chan.blank : Chan :=
  { state := .disabled, flag := false, stop := none, owned := none, victim := none, resume := .none, amount := 0,
    copy := none, mode := .single, count := 1024, work := none, lastEmpty := false, toJoin := [] }

def Tally.zero : Tally :=
  { direct := 0, staged := 0, destaged := 0, reclaimed := 0, padded := 0, fetched := 0, faults := 0 }

/-- The defaults of R188. -/
def defaultSettings : TimerArgs :=
  { orderTimeout := 2000, idleDelay := 500, burst := 4, reserve := 4, suspect := 4, highMark := 12,
    digestMinutes := 60, eventFreeLow := 8 }

def emptyGeometry : Geometry := { K := 0, zones := [], stgFirst := 0, stgCount := 0, stgS := 0, L := 0 }

def BandManager.empty : BandManager :=
  { geom := emptyGeometry, retired := [], pendingRetire := [], bands := [], parked := List.replicate 8 [] }

/-- A Map Store that was never formatted: its mark is invalid (R177), its other contents are DESIGN CHOICE
(log 11). -/
def Image.unformatted : Image :=
  { header := { mark := false, digest := 0, hours := 0 }, bm := .empty, extents := [], regions := [], runs := [],
    head := 0, tail := 0, classes := defaultClasses, mode := .rnu, setups := List.replicate 4 ChanSetup.default,
    settings := defaultSettings, mask := 0 }

/-- The Media Port's first column of Table 8-3, with the favoured lane of a fill below the urgent level. -/
def MediaPort.cold : MediaPort :=
  { orders := [], waiting := [], told := [], writeWait := [], ready := false, favoured := .foreground,
    runCount := 0, lastChan := 3, idle := .stopped, stray := 0, linkErrors := 0, awaitAll := false, tx := [],
    rx := .hunting }

/-- The Link Interface after a cold start (R175). -/
def LinkIface.cold : LinkIface :=
  { queue := [], sending := false, reserved := 0, gathered := 0, frameErrors := 0, unanswered := 0,
    rx := .hunting }

/-- The part with a Map Store's contents and every volatile item at its cold start value, before the steps that
a cold start makes on the stored tables. -/
def Part.ofImage (m : Image) (fresh : Nat) : Part :=
  { bm := m.bm
    tu := { extents := m.extents, regions := m.regions, remaps := [], reserveTotal := 0 }
    sl := { runs := m.runs, head := m.head, tail := m.tail, held := false }
    su := List.replicate 16 Stream.blank
    re := { setups := m.setups, chans := List.replicate 4 Chan.blank }
    sc := { mode := m.mode, saturated := false }
    mp := MediaPort.cold
    tx := { queue := [], txns := [] }
    li := LinkIface.cold
    sv := { header := m.header, device := .unformatted, format := none, mount := none, quiesce := none,
            restore := none, reset := none, hourAcc := 0, timeBase := 0, digestTimer := .stopped, events := 0,
            mask := m.mask, alert := false, tallies := List.replicate 16 Tally.zero, classes := m.classes,
            settings := m.settings }
    store := { base := m, updates := [], next := 0, follows := [] }
    notes := []
    fresh := fresh }

/-- The machine right after its first cold start, with a Map Store that was never formatted: UNFORMATTED (R178),
every volatile item at its cold start value, and the values that log 11 and log 12 name. -/
def State.reset : State :=
  { part := Part.ofImage Image.unformatted 0
    pins := { straps := 0, resetLine := false, pwrfail := false }
    pending := []
    line := [] }

end Sys2Proof.Machine
end

