-- ==== Sys2Proof/Machine/Ops.lean ====
section
/-! DEFINITION. The shared operations on the part's blocks, on lists of records, and on counts: everything else
reads and writes the state through these. -/

namespace Sys2Proof.Machine

/-! ### Counts -/

/-- A count that stops at its top (R34, R146, R166, R187). -/
def satAdd (top a b : Nat) : Nat := min top (a + b)

/-- A setting brought into range (R65, R103, R188). -/
def clamp (lo hi v : Nat) : Nat := max lo (min hi v)

/-! ### Lists of records -/

/-- Change the record at an index; nothing where there is none. -/
def modAt {α : Type} (l : List α) (i : Nat) (f : α → α) : List α := l.modify i f

/-- Change every record that meets a test. -/
def modWhere {α : Type} (q : α → Bool) (f : α → α) (l : List α) : List α :=
  l.map fun x => if q x then f x else x

/-- Remove every copy of an element. -/
def without {α : Type} [DecidableEq α] (l : List α) (a : α) : List α := l.filter fun x => decide (x ≠ a)

/-- Add an element that is not there yet. -/
def addNew {α : Type} [DecidableEq α] (l : List α) (a : α) : List α := if a ∈ l then l else l ++ [a]

/-- Insert a number into a strictly ascending list; one that is there is not inserted again (R7). -/
def insertAsc (x : Nat) : List Nat → List Nat
  | [] => [x]
  | y :: ys => if x < y then x :: y :: ys else if x = y then y :: ys else y :: insertAsc x ys

/-- The sum of a quantity over a list. -/
def sumOf {α : Type} (f : α → Nat) (l : List α) : Nat := l.foldl (fun n x => n + f x) 0

/-! ### The blocks of the part -/

def Part.modBm (p : Part) (f : BandManager → BandManager) : Part := { p with bm := f p.bm }
def Part.modTu (p : Part) (f : TransUnit → TransUnit) : Part := { p with tu := f p.tu }
def Part.modSl (p : Part) (f : LogUnit → LogUnit) : Part := { p with sl := f p.sl }
def Part.modSu (p : Part) (f : List Stream → List Stream) : Part := { p with su := f p.su }
def Part.modRe (p : Part) (f : RelocEngine → RelocEngine) : Part := { p with re := f p.re }
def Part.modSc (p : Part) (f : ScoringUnit → ScoringUnit) : Part := { p with sc := f p.sc }
def Part.modMp (p : Part) (f : MediaPort → MediaPort) : Part := { p with mp := f p.mp }
def Part.modTx (p : Part) (f : TxnUnit → TxnUnit) : Part := { p with tx := f p.tx }
def Part.modLi (p : Part) (f : LinkIface → LinkIface) : Part := { p with li := f p.li }
def Part.modSv (p : Part) (f : Supervisor → Supervisor) : Part := { p with sv := f p.sv }
def Part.modStore (p : Part) (f : Store → Store) : Part := { p with store := f p.store }

/-- Report to another block inside the event (log 4). -/
def Part.note (p : Part) (n : Note) : Part := { p with notes := p.notes ++ [n] }

/-! ### Records by number -/

def Part.band (p : Part) (b : Nat) : Band := p.bm.bands.getD b Band.blank
def Part.modBand (p : Part) (b : Nat) (f : Band → Band) : Part :=
  p.modBm fun m => { m with bands := modAt m.bands b f }

/-- Stream i, 1 to 16 (R71). -/
def Part.stream (p : Part) (i : Nat) : Stream := p.su.getD (i - 1) Stream.blank
def Part.modStream (p : Part) (i : Nat) (f : Stream → Stream) : Part := p.modSu fun l => modAt l (i - 1) f

def Part.chan (p : Part) (c : Nat) : Chan := p.re.chans.getD c Chan.blank
def Part.modChan (p : Part) (c : Nat) (f : Chan → Chan) : Part :=
  p.modRe fun r => { r with chans := modAt r.chans c f }

def Part.setup (p : Part) (c : Nat) : ChanSetup := p.re.setups.getD c ChanSetup.default
def Part.modSetup (p : Part) (c : Nat) (f : ChanSetup → ChanSetup) : Part :=
  p.modRe fun r => { r with setups := modAt r.setups c f }

/-- Class c, 1 to 8 (R64). -/
def Part.classRec (p : Part) (c : Nat) : ClassRec := p.sv.classes.getD (c - 1) (ClassRec.default c)

def Part.parkedList (p : Part) (c : Nat) : List Nat := p.bm.parked.getD (c - 1) []
def Part.modParked (p : Part) (c : Nat) (f : List Nat → List Nat) : Part :=
  p.modBm fun m => { m with parked := modAt m.parked (c - 1) f }

def Part.txn (p : Part) (tag : Nat) : Option Txn := p.tx.txns.find? fun t => t.tag = tag
def Part.modTxn (p : Part) (tag : Nat) (f : Txn → Txn) : Part :=
  p.modTx fun x => { x with txns := modWhere (fun t => t.tag = tag) f x.txns }

/-- H (R182). -/
def Part.hours (p : Part) : Nat := p.sv.header.hours

/-- The stored settings (R188). -/
def Part.settings (p : Part) : TimerArgs := p.sv.settings

/-- A RESET request is in progress (R175). -/
def Part.resetting (p : Part) : Bool := p.sv.reset.isSome

/-- The number of the Map Store update of the event being taken (R177). -/
def Part.thisUpdate (p : Part) : Nat := p.store.next

/-- A rule places this after the update of the event being taken is durable (R177). -/
def Part.follow (p : Part) (f : Follow) : Part := p.modStore fun s => { s with follows := s.follows ++ [f] }

/-! ### Timers -/

/-- Start from 0 toward a limit. -/
def Timer.start (limit : Nat) : Timer := { state := .running, elapsed := 0, limit := limit }

/-- One millisecond of a running timer; it waits at its limit for its expiry to be taken (log 2, log 3). -/
def Timer.tick (t : Timer) : Timer :=
  if t.state = .running then { t with elapsed := min t.limit (t.elapsed + 1) } else t

def Timer.isRunning (t : Timer) : Bool := decide (t.state = .running)

/-- A running timer stands at its limit: its expiry may be taken (log 3). -/
def Timer.due (t : Timer) : Bool := decide (t.state = .running ∧ t.limit ≤ t.elapsed)

/-- Hold a running timer with its elapsed time (R144). -/
def Timer.hold (t : Timer) : Timer := if t.state = .running then { t with state := .held } else t

/-- Let a held timer run on (R144, R147). -/
def Timer.release (t : Timer) : Timer := if t.state = .held then { t with state := .running } else t

/-! ### Characters -/

/-- A number as so many characters, most significant first (R176). -/
def natChars (chars v : Nat) : List Byte :=
  ((List.range chars).map fun i => BitVec.ofNat 8 (v / 256 ^ i)).reverse

/-- One bit of a check over a register of w bits. -/
def crcBit {w : Nat} (poly crc : BitVec w) : BitVec w :=
  if crc.msb then (crc <<< 1) ^^^ poly else crc <<< 1

/-- One character of a check, most significant bit first (R163, R183). -/
def crcChar {w : Nat} (poly crc : BitVec w) (c : Byte) : BitVec w :=
  (List.range 8).foldl (fun r _ => crcBit poly r) (crc ^^^ ((c.setWidth w) <<< (w - 8)))

/-- The CRC-16 of a frame (R163). -/
def crc16 (cs : List Byte) : Check16 := cs.foldl (crcChar 0x1021#16) 0xFFFF#16

/-- The CRC-32 of the digest (R183). -/
def crc32 (cs : List Byte) : Digest := ~~~(cs.foldl (crcChar 0x04C11DB7#32) 0xFFFFFFFF#32)

end Sys2Proof.Machine
end

