-- ==== Sys2Proof/Machine/Geometry.lean ====
section
/-! DEFINITION. Chapter 1: the placement arithmetic over the Geometry Table and the Retired Track List. -/

namespace Sys2Proof.Machine

/-! ### Pairs and bands (R2) -/

/-- A zone's last track (R2). -/
def zoneLast (z : Zone) : Nat := z.first + z.pairs * z.T - 1

/-- The total pair count P (R2). -/
def pairCount (g : Geometry) : Nat := sumOf Zone.pairs g.zones

/-- A band pair: its zone's number, first track, T and S (R2). -/
structure PairGeo where
  zone : Nat
  first : Nat
  T : Nat
  S : Nat
  deriving DecidableEq, Repr

/-- Pair p counted from the zones that remain, the first of which is zone z (R2). -/
def pairIn : List Zone → Nat → Nat → Option PairGeo
  | [], _, _ => none
  | zn :: zs, z, p =>
    if p < zn.pairs then some { zone := z, first := zn.first + p * zn.T, T := zn.T, S := zn.S }
    else pairIn zs (z + 1) (p - zn.pairs)

/-- Pair p of the Geometry Table; a pair that does not exist has no track. -/
def pairGeo (g : Geometry) (p : Nat) : PairGeo :=
  (pairIn g.zones 0 p).getD { zone := 0, first := 0, T := 0, S := 0 }

def isUp (b : Nat) : Bool := decide (b % 2 = 0)

def bandDir (b : Nat) : Dir := if isUp b then .up else .down

/-- The other band of the pair. -/
def partner (b : Nat) : Nat := if isUp b then b + 1 else b - 1

/-- A band's origin (R2). -/
def origin (g : Geometry) (b : Nat) : Nat :=
  let q := pairGeo g (b / 2)
  if isUp b then q.first else q.first + q.T - 1

/-- The track at a physical distance from a band's origin (R9). -/
def trackAt (g : Geometry) (b d : Nat) : Nat := if isUp b then origin g b + d else origin g b - d

/-- The distances from a band's origin of the retired tracks of its pair, ascending (R9). -/
def skips (m : BandManager) (b : Nat) : List Nat :=
  let q := pairGeo m.geom (b / 2)
  let inPair := m.retired.filter fun t => q.first ≤ t && t < q.first + q.T
  if isUp b then inPair.map fun t => t - q.first
  else (inPair.map fun t => q.first + q.T - 1 - t).reverse

/-- The distance of ordinal j in a usable-track sequence whose skipped distances are ascending (R9). -/
def nthUsable (sk : List Nat) (j : Nat) : Nat := sk.foldl (fun d r => if r ≤ d then d + 1 else d) j

/-- How many of the first n distances are usable (R13). -/
def usableBelow (sk : List Nat) (n : Nat) : Nat := n - (sk.filter fun r => decide (r < n)).length

/-- The track and sector of a block offset of a band (R10). -/
def bandPosition (m : BandManager) (b off : Nat) : Nat × Nat :=
  let S := (pairGeo m.geom (b / 2)).S
  (trackAt m.geom b (nthUsable (skips m b) (off / S)), off % S)

def bandOf (m : BandManager) (b : Nat) : Band := m.bands.getD b Band.blank

/-- The span of a band (R11). -/
def span (m : BandManager) (b : Nat) : Nat :=
  let wp := (bandOf m b).wp
  if wp = 0 then 0 else nthUsable (skips m b) ((wp - 1) / (pairGeo m.geom (b / 2)).S) + 1

/-- The tracks band b may reach while the pair law holds (R12, R13). -/
def maxSpan (m : BandManager) (b : Nat) : Nat :=
  (pairGeo m.geom (b / 2)).T - m.geom.K - span m (partner b)

/-- The room of a band (R13). -/
def room (m : BandManager) (b : Nat) : Nat :=
  usableBelow (skips m b) (maxSpan m b) * (pairGeo m.geom (b / 2)).S - (bandOf m b).wp

/-- A pair's unused track count (R11). -/
def unusedTracks (m : BandManager) (p : Nat) : Nat :=
  (pairGeo m.geom p).T - m.geom.K - span m (2 * p) - span m (2 * p + 1)

/-! ### The staging region (R18) -/

def stgLast (g : Geometry) : Nat := g.stgFirst + g.stgCount - 1

def inStaging (g : Geometry) (t : Nat) : Bool := decide (g.stgFirst ≤ t ∧ t < g.stgFirst + g.stgCount)

/-- The distances of the retired staging tracks from the region's first track, ascending. -/
def stgSkips (m : BandManager) : List Nat :=
  (m.retired.filter (inStaging m.geom)).map fun t => t - m.geom.stgFirst

/-- C_stg (R18). -/
def stgCap (m : BandManager) : Nat := (m.geom.stgCount - (stgSkips m).length) * m.geom.stgS

/-- The track and sector of a log position (R18). -/
def logPosition (m : BandManager) (pos : Nat) : Nat × Nat :=
  (m.geom.stgFirst + nthUsable (stgSkips m) (pos / m.geom.stgS), pos % m.geom.stgS)

/-! ### Runs (R16, R17, R19) -/

/-- A run cut from a physical range (R16), with the position of its first block. -/
structure RunCut where
  track : Nat
  sector : Nat
  dir : Dir
  count : Nat
  pieceOff : Nat
  place : Place
  deriving DecidableEq, Repr

/-- The position k blocks further on in the same place. -/
def Place.shift (pl : Place) (k : Nat) : Place :=
  match pl with
  | .band b off => .band b (off + k)
  | .log pos => .log (pos + k)

/-- Cut `len` blocks from block offset `n` of a usable-track sequence (R16): each run ends before the sequence
steps over a skipped distance, or at the end of the range. The fuel bounds the runs: one more than the skips. -/
def cutRuns (sk : List Nat) (S : Nat) (track : Nat → Nat) (dir : Dir) (pl : Place) :
    (fuel n len pieceOff : Nat) → List RunCut
  | 0, _, _, _ => []
  | fuel + 1, n, len, pieceOff =>
    if len = 0 then [] else
      let d := nthUsable sk (n / S)
      let here := match sk.find? fun r => decide (d < r) with
        | none => len
        | some r => min len ((r - d) * S - n % S)
      { track := track d, sector := n % S, dir := dir, count := here, pieceOff := pieceOff,
        place := pl.shift pieceOff }
        :: cutRuns sk S track dir pl fuel (n + here) (len - here) (pieceOff + here)

/-- The runs of a band range or of a staging range (R16, R17, R19). -/
def cut (m : BandManager) (pl : Place) (len : Nat) : List RunCut :=
  match pl with
  | .band b off =>
    let sk := skips m b
    cutRuns sk (pairGeo m.geom (b / 2)).S (trackAt m.geom b) (bandDir b) pl (sk.length + 1) off len 0
  | .log pos =>
    let sk := stgSkips m
    cutRuns sk m.geom.stgS (fun d => m.geom.stgFirst + d) .up pl (sk.length + 1) pos len 0

/-! ### The class of a track (R8) -/

inductive TrackClass where
  | staging
  | unassigned
  | written (b : Nat)
  | freeIn (pair : Nat)
  deriving DecidableEq, Repr

/-- The pair that holds a track, counted from the zones that remain, whose first pair is `base` (R8). -/
def pairOfTrack : List Zone → Nat → Nat → Option Nat
  | [], _, _ => none
  | z :: zs, base, t =>
    if z.first ≤ t ∧ t < z.first + z.pairs * z.T then some (base + (t - z.first) / z.T)
    else pairOfTrack zs (base + z.pairs) t

/-- A track's distance from a band's origin (R9). -/
def distance (g : Geometry) (b t : Nat) : Nat := if isUp b then t - origin g b else origin g b - t

def classify (m : BandManager) (t : Nat) : TrackClass :=
  if inStaging m.geom t then .staging
  else match pairOfTrack m.geom.zones 0 t with
    | none => .unassigned
    | some p =>
      if distance m.geom (2 * p) t < span m (2 * p) then .written (2 * p)
      else if distance m.geom (2 * p + 1) t < span m (2 * p + 1) then .written (2 * p + 1)
      else .freeIn p

/-! ### The checks of FORMAT and RESTORE (R3, R4, R5) -/

/-- C_shingled (R4). -/
def shingledCap (g : Geometry) : Nat := sumOf (fun z => z.pairs * (z.T - g.K) * z.S) g.zones

def strictlyAsc : List Nat → Bool
  | [] => true
  | [_] => true
  | x :: y :: r => decide (x < y) && strictlyAsc (y :: r)

/-- Check 7: a zone's first track is greater than the last track of the zone before it. -/
def zonesAsc : List Zone → Bool
  | [] => true
  | [_] => true
  | x :: y :: r => decide (zoneLast x < y.first) && zonesAsc (y :: r)

/-- A track lies in some zone. -/
def inZone (g : Geometry) (t : Nat) : Bool :=
  g.zones.any fun z => decide (z.first ≤ t ∧ t < z.first + z.pairs * z.T)

/-- The fourteen checks of Table 1-2 by number: true where the check passes. -/
def geometryCheck (g : Geometry) (retired : List Nat) : Nat → Bool
  | 1 => decide (1 ≤ g.K ∧ g.K ≤ 4)
  | 2 => decide (1 ≤ g.zones.length ∧ g.zones.length ≤ 32)
  | 3 => (g.zones.all fun z => decide (1 ≤ z.pairs)) && decide (1 ≤ pairCount g ∧ pairCount g ≤ 8192)
  | 4 => g.zones.all fun z => decide (64 ≤ z.T ∧ z.T ≤ 2048)
  | 5 => g.zones.all fun z => decide (128 ≤ z.S ∧ z.S ≤ 1024)
  | 6 => g.zones.all fun z => decide (zoneLast z ≤ Config.maxTrack)
  | 7 => zonesAsc g.zones
  | 8 => decide (16 ≤ g.stgCount ∧ g.stgCount ≤ 65536) && decide (128 ≤ g.stgS ∧ g.stgS ≤ 1024)
      && decide (stgLast g ≤ Config.maxTrack)
  | 9 => g.zones.all fun z => !(decide (g.stgFirst ≤ zoneLast z ∧ z.first ≤ stgLast g))
  | 10 => decide (retired.length ≤ Config.retiredCap) && strictlyAsc retired
  | 11 => retired.all fun t => inZone g t || inStaging g t
  | 12 => decide (16 ≤ g.stgCount - (retired.filter (inStaging g)).length)
  | 13 => decide (1 ≤ g.L ∧ g.L ≤ 2 ^ 36)
  | 14 => decide (100 * g.L ≤ 97 * shingledCap g)
  | _ => true

/-- The lowest-numbered failing check of Table 1-2, if one fails (R3, R5). -/
def geometryFault (g : Geometry) (retired : List Nat) : Option Nat :=
  ((List.range 14).map (· + 1)).find? fun k => !geometryCheck g retired k

/-! ### The digest (R183) -/

/-- The characters the digest is taken over. -/
def digestChars (g : Geometry) (retired : List Nat) : List Byte :=
  (g.zones.map fun z => natChars 3 z.first ++ natChars 2 z.pairs ++ natChars 2 z.T ++ natChars 2 z.S).flatten
    ++ natChars 3 g.stgFirst ++ natChars 3 g.stgCount ++ natChars 2 g.stgS ++ natChars 1 g.K ++ natChars 5 g.L
    ++ (retired.map (natChars 3)).flatten

def digestOf (g : Geometry) (retired : List Nat) : Digest := crc32 (digestChars g retired)

/-- The digest of the stored tables. -/
def Part.digest (p : Part) : Digest := digestOf p.bm.geom p.bm.retired

/-- The digest rewrite that goes with every change of the Geometry Table or the Retired Track List (R1, R7,
R183). -/
def Part.rewriteDigest (p : Part) : Part :=
  p.modSv fun v => { v with header := { v.header with digest := p.digest } }

end Sys2Proof.Machine
end

