-- ==== Sys2Proof/Machine/Operands.lean ====
section
/-! DEFINITION. The forms of requests and messages: the kinds and their codes, the body lengths and the device
states in which a kind is taken, the items of message bodies, and the frames of both links (R163, R165, R176,
R178). -/

namespace Sys2Proof.Machine

/-! ### Kinds (Tables 10-2, 10-6, 11-2) -/

/-- The kind's code (Table 10-6). -/
def ReqKind.code : ReqKind → Nat
  | .status => 0x01
  | .cancel => 0x02
  | .events => 0x03
  | .tally => 0x04
  | .band => 0x05
  | .trigger => 0x06
  | .reset => 0x07
  | .format => 0x10
  | .retire => 0x11
  | .cls => 0x12
  | .region => 0x13
  | .scoring => 0x14
  | .channel => 0x15
  | .timers => 0x16
  | .mount => 0x17
  | .quiesce => 0x18
  | .restore => 0x19
  | .place => 0x20
  | .fetch => 0x21
  | .locate => 0x22
  | .discard => 0x23
  | .streamOpen => 0x24
  | .streamClose => 0x25
  | .unknown code => code

/-- A setup request (Table 10-2). -/
def ReqKind.isSetup : ReqKind → Bool
  | .format | .retire | .cls | .region | .scoring | .channel | .timers | .mount | .quiesce | .restore => true
  | _ => false

/-- A data request (Table 10-2). -/
def ReqKind.isData : ReqKind → Bool
  | .place | .fetch | .discard | .locate | .streamOpen | .streamClose => true
  | _ => false

/-- A kind with a hold flag (Table 10-2). -/
def ReqKind.isLong : ReqKind → Bool
  | .place | .fetch | .discard | .mount | .quiesce => true
  | _ => false

/-- The states in which a kind is taken (Table 11-2). -/
def ReqKind.takenIn (k : ReqKind) (d : DeviceState) : Bool :=
  match k with
  | .status | .cancel | .events | .tally | .reset => true
  | .band => decide (d ≠ .unformatted)
  | .trigger => decide (d = .online)
  | .format => decide (d = .unformatted ∨ d = .stopped)
  | .retire => decide (d = .stopped ∨ d = .online)
  | .cls | .region | .scoring | .channel | .timers => decide (d = .stopped ∨ d = .online ∨ d = .fenced)
  | .mount => decide (d = .stopped)
  | .quiesce => decide (d = .online ∨ d = .fenced)
  | .restore => decide (d = .fenced)
  | .place | .discard | .streamOpen => decide (d = .online)
  | .fetch | .locate | .streamClose => decide (d = .online ∨ d = .fenced)
  | .unknown _ => false

/-- The kinds refused FENCED in FENCED (Table 11-2). -/
def ReqKind.fencedOut : ReqKind → Bool
  | .format | .place | .discard | .streamOpen => true
  | _ => false

/-- The refusal of a kind in a device state (R165 check 5, R178, Table 11-2). -/
def stateRefusal (k : ReqKind) (d : DeviceState) : Option Result :=
  if k.takenIn d then none
  else if d = .fenced ∧ k.fencedOut then some .fenced
  else some .wrongState

/-- The kind of a data request. -/
def DataReq.kind : DataReq → ReqKind
  | .place _ => .place
  | .fetch .. => .fetch
  | .discard .. => .discard
  | .locate .. => .locate
  | .streamOpen .. => .streamOpen
  | .streamClose _ => .streamClose

/-- The logical range a data request names (R169). -/
def DataReq.range : DataReq → Option (Nat × Nat)
  | .place a => some (a.start, a.len)
  | .fetch s l _ => some (s, l)
  | .discard s l => some (s, l)
  | .locate s l => some (s, l)
  | .streamOpen .. => none
  | .streamClose _ => none

/-- The characters of a FORMAT or RESTORE body (Table 10-10). -/
def tablesLen (g : Geometry) (retired : List Nat) : Nat := 17 + 9 * g.zones.length + 3 * retired.length

/-- The body lengths that the kind of a request with forms allows when its form is `form` (Table 10-10): a form
the kind does not have may come with any length the kind has. -/
def formLenOk (lens : List Nat) (form bodyLen : Nat) : Bool :=
  match lens[form]? with
  | some n => decide (bodyLen = n)
  | none => decide (bodyLen ∈ lens)

/-! ### Items of message bodies (R176) -/

def item (chars value : Nat) : Item := { chars := chars, value := value }

def flagItem (b : Bool) : Item := item 1 (if b then 1 else 0)

/-- A number that may be absent, in two characters: FFFFh when there is none. DESIGN CHOICE, log 10. -/
def optItem (v : Option Nat) : Item := item 2 (v.getD 0xFFFF)

/-- An item's characters (R176); what is sent for a value that does not fit is a free value (log 10). -/
def Item.charsOf (i : Item) : List Byte :=
  if i.value < 256 ^ i.chars then natChars i.chars i.value else natChars i.chars (Config.freeItem i.chars i.value)

def itemsChars (l : List Item) : List Byte := (l.map Item.charsOf).flatten

/-- Outcome codes (Table 10-8). -/
def Result.code : Result → Nat
  | .ok => 0x00
  | .taken => 0x01
  | .badKind => 0x10
  | .badArg => 0x11
  | .wrongState => 0x12
  | .queueFull => 0x13
  | .tagBusy => 0x14
  | .fenced => 0x15
  | .stagingFull => 0x20
  | .mapFull => 0x21
  | .noSpace => 0x22
  | .mediaError => 0x30
  | .timeout => 0x31
  | .cancelled => 0x32
  | .notFound => 0x33
  | .streamBusy => 0x34

def DeviceState.code : DeviceState → Nat
  | .unformatted => 0
  | .stopped => 1
  | .mounting => 2
  | .online => 3
  | .quiescing => 4
  | .fenced => 5
  | .halted => 6

/-- Codes in the order of Table 2-2. -/
def BandState.code : BandState → Nat
  | .free => 0
  | .opened => 1
  | .parked => 2
  | .closed => 3
  | .reclaiming => 4
  | .suspect => 5
  | .retired => 6

/-- Codes in the order of Table 2-1: none, stream 1 to 16, channel 0 to 3. -/
def ownerCode : Option Requester → Nat
  | none => 0
  | some (.stream i) => i
  | some (.chan c) => 17 + c

def StreamState.code : StreamState → Nat
  | .free => 0
  | .active => 1
  | .dormant => 2
  | .starved => 3

def ChanState.code : ChanState → Nat
  | .disabled => 0
  | .idle => 1
  | .select => 2
  | .move => 3
  | .settle => 4
  | .stalled => 5

def Job.code : Job → Nat
  | .destage => 0
  | .reclaim => 1

def TriggerSource.code : TriggerSource → Nat
  | .software => 0
  | .stageHigh => 1
  | .freeLow => 2
  | .hourCompare => 3
  | .mediaIdle => 4

def ServiceMode.code : ServiceMode → Nat
  | .single => 0
  | .successive => 1
  | .batch => 2

def RoundMode.code : RoundMode → Nat
  | .rnu => 0
  | .rne => 1
  | .rdn => 2
  | .rod => 3

def stopCode : Option StopCause → Nat
  | none => 0
  | some .disable => 1
  | some .quiesce => 2
  | some .fence => 3

/-- Codes in the order of Table 6-2: none, READING, WRITING. -/
def copyCode : Option Copy → Nat
  | none => 0
  | some c => match c.phase with
    | .reading => 1
    | .writing => 2

def Op.code : Op → Nat
  | .write => 0
  | .read => 1
  | .verify => 2

def Dir.code : Dir → Nat
  | .up => 0
  | .down => 1

/-- The coded job, trigger source and mode of a CHANNEL write (Table 10-10). -/
def jobOf : Nat → Option Job
  | 0 => some .destage
  | 1 => some .reclaim
  | _ => none

def sourceOf : Nat → Option TriggerSource
  | 0 => some .software
  | 1 => some .stageHigh
  | 2 => some .freeLow
  | 3 => some .hourCompare
  | 4 => some .mediaIdle
  | _ => none

def modeOf : Nat → Option ServiceMode
  | 0 => some .single
  | 1 => some .successive
  | 2 => some .batch
  | _ => none

def roundOf : Nat → Option RoundMode
  | 0 => some .rnu
  | 1 => some .rne
  | 2 => some .rdn
  | 3 => some .rod
  | _ => none

/-- A set of event flags in two characters (R176). -/
def eventItem (e : EventBits) : Item := item 2 e.toNat

/-- The rate in Mbaud that a strap value selects for both links (R189). -/
def linkRate : Nat → Nat
  | 0 => 1
  | 1 => 3
  | 2 => 6
  | _ => 12

/-! ### Frames (R163, Tables 10-5, 10-6, 10-8, 10-9) -/

/-- A frame: start, length, kind, tag, body, check (R163). -/
def frameChars (kind tag : Nat) (body : List Byte) : List Byte :=
  let covered := natChars 2 body.length ++ natChars 1 kind ++ natChars 1 tag ++ body
  natChars 1 0xC3 ++ covered ++ natChars 2 (crc16 covered).toNat

/-- The kind code of a message to the host. -/
def Payload.kindCode : Payload → Nat
  | .reply .. => 0x40
  | .done .. => 0x41
  | .notice _ => 0x42

/-- A message's body (Table 10-8). -/
def Payload.body : Payload → List Byte
  | .reply r k items => natChars 1 r.code ++ natChars 1 k.code ++ itemsChars items
  | .done r k items => natChars 1 r.code ++ natChars 1 k.code ++ itemsChars items
  | .notice flags => natChars 2 flags.toNat

/-- The characters of a message on the Command Link. -/
def Message.chars (m : Message) : List Byte := frameChars m.payload.kindCode m.tag m.payload.body

/-- The characters of a frame on the Media Link (Table 10-9). -/
def MediaFrame.chars : MediaFrame → List Byte
  | .order id op track sector dir count handle bufOff =>
    frameChars 0x60 id (natChars 1 op.code ++ natChars 3 track ++ natChars 2 sector ++ natChars 1 dir.code
      ++ natChars 2 count ++ natChars 4 handle ++ natChars 4 bufOff)
  | .cancel id => frameChars 0x61 id []
  | .cancelAll => frameChars 0x62 0 []

end Sys2Proof.Machine
end

