-- ==== Sys2Proof/Machine/Flags.lean ====
section
/-! DEFINITION. The Event Set, its mask, ALERT and the NOTICE, and the tally counters (R167, R186, R187). -/

namespace Sys2Proof.Machine

/-! ### The flags (Table 11-3), each a bit of the NOTICE body (Table 10-8) -/

def evStageHigh : EventBits := 1#12 <<< 0
def evFreeLow : EventBits := 1#12 <<< 1
def evMapHigh : EventBits := 1#12 <<< 2
def evMediaErr : EventBits := 1#12 <<< 3
def evOrderTimeout : EventBits := 1#12 <<< 4
def evLateReport : EventBits := 1#12 <<< 5
def evBandSuspect : EventBits := 1#12 <<< 6
def evBandRetired : EventBits := 1#12 <<< 7
def evScoreSat : EventBits := 1#12 <<< 8
def evFence : EventBits := 1#12 <<< 9
def evFrameErr : EventBits := 1#12 <<< 10
def evChannelStall : EventBits := 1#12 <<< 11

/-! ### The NOTICE (R166, R167) -/

def Message.isNotice (m : Message) : Bool := decide (m.place = .notice)

/-- Put a message in the transmit queue (R166). -/
def LinkIface.put (l : LinkIface) (m : Message) : LinkIface := { l with queue := l.queue ++ [m] }

/-- The transmitter sends the oldest message; an idle one begins at the end of the event that queues a message
(log 16). -/
def Part.beginSending (p : Part) : Part := p.modLi fun l => { l with sending := !l.queue.isEmpty }

/-- Merge flags into a NOTICE. -/
def Message.merge (f : EventBits) (m : Message) : Message :=
  match m.payload with
  | .notice g => { m with payload := .notice (g ||| f) }
  | _ => m

/-- Flags that became pending while unmasked (R167): they are queued in the NOTICE place, merged into the NOTICE
that waits, or gathered while a NOTICE is being sent. -/
def LinkIface.announce (l : LinkIface) (f : EventBits) : LinkIface :=
  match l.queue with
  | [] => l.put { tag := 0, place := .notice, payload := .notice f }
  | m :: rest =>
    if m.isNotice && l.sending then { l with gathered := l.gathered ||| f }
    else if (m :: rest).any Message.isNotice then
      { l with queue := (m :: rest).map fun x => if x.isNotice then x.merge f else x }
    else l.put { tag := 0, place := .notice, payload := .notice f }

/-! ### The Event Set (R186) -/

/-- ALERT is asserted while an unmasked flag is pending (R186). -/
def alertLevel (events mask : EventBits) : Bool := decide (events &&& ~~~mask ≠ 0)

def Supervisor.setAlert (v : Supervisor) : Supervisor := { v with alert := alertLevel v.events v.mask }

/-- Hand flags to the Link Interface; none, and nothing happens. -/
def Part.announce (p : Part) (f : EventBits) : Part := if f = 0 then p else p.modLi fun l => l.announce f

/-- Raise a flag (R186): it becomes pending; if it was not, and is unmasked, it goes to a NOTICE. -/
def Part.raise (p : Part) (f : EventBits) : Part :=
  let new := f &&& ~~~p.sv.events
  (p.modSv fun v => { v with events := v.events ||| f }.setAlert).announce (new &&& ~~~p.sv.mask)

/-- Clear flags (R186). A flag stays in a NOTICE that waits and in the gathered set. -/
def Part.clearEvents (p : Part) (f : EventBits) : Part :=
  p.modSv fun v => { v with events := v.events &&& ~~~f }.setAlert

/-- Store a mask (R186): the pending flags that it unmasks go to a NOTICE. -/
def Part.setMask (p : Part) (m : EventBits) : Part :=
  let unmasked := p.sv.events &&& p.sv.mask &&& ~~~m
  (p.modSv fun v => { v with mask := m }.setAlert).announce unmasked

/-! ### Tallies (R187) -/

/-- Count in the slot that the class table names for a class. -/
def Part.count (p : Part) (cls : Nat) (f : Tally → Tally) : Part :=
  p.modSv fun v => { v with tallies := modAt v.tallies (p.classRec cls).slot f }

def Tally.addDirect (n : Nat) (t : Tally) : Tally := { t with direct := satAdd Config.tallyCap t.direct n }
def Tally.addStaged (n : Nat) (t : Tally) : Tally := { t with staged := satAdd Config.tallyCap t.staged n }
def Tally.addDestaged (n : Nat) (t : Tally) : Tally := { t with destaged := satAdd Config.tallyCap t.destaged n }
def Tally.addReclaimed (n : Nat) (t : Tally) : Tally := { t with reclaimed := satAdd Config.tallyCap t.reclaimed n }
def Tally.addPadded (n : Nat) (t : Tally) : Tally := { t with padded := satAdd Config.tallyCap t.padded n }
def Tally.addFetched (n : Nat) (t : Tally) : Tally := { t with fetched := satAdd Config.tallyCap t.fetched n }
def Tally.addFault (t : Tally) : Tally := { t with faults := satAdd Config.tallyCap t.faults 1 }

/-- The seven counters in the order of R187. -/
def Tally.items (t : Tally) : List Item :=
  [item 6 t.direct, item 6 t.staged, item 6 t.destaged, item 6 t.reclaimed, item 6 t.padded, item 6 t.fetched,
    item 6 t.faults]

end Sys2Proof.Machine
end

