-- ==== Sys2Proof/Machine/Bands.lean ====
section
/-! DEFINITION. Chapter 2: the Band Manager. Bands are given, reserved, closed, parked, released, bound for
retirement and rewound here, and nowhere else. -/

namespace Sys2Proof.Machine

/-! ### Counts of bands (R27) -/

def freeCount (m : BandManager) : Nat := m.bands.countP fun b => decide (b.state = .free)

/-- A state that counts toward the class quota (Table 2-2). -/
def BandState.counts : BandState → Bool
  | .opened | .parked | .closed | .reclaiming | .suspect => true
  | .free | .retired => false

def classCount (m : BandManager) (c : Nat) : Nat := m.bands.countP fun b => b.state.counts && decide (b.cls = c)

/-- BM reports a change of the FREE count to the Supervisor and the Relocation Engine (R27): FREE_LOW is raised
when the count goes from above the event free low mark to at or below it (R186). -/
def Part.reportFree (p : Part) (old : Nat) : Part :=
  let new := freeCount p.bm
  if old = new then p else
    let mark := p.settings.eventFreeLow
    (if old > mark ∧ new ≤ mark then p.raise evFreeLow else p).note (.freeCount old new)

/-! ### Owners (R23) -/

/-- Tell a requester that it owns no band from now on (R23): a stream becomes DORMANT (R78). -/
def Part.tellLoss (p : Part) : Requester → Part
  | .stream i => p.modStream i fun s => { s with state := .dormant, band := none }
  | .chan c => p.modChan c fun k => { k with owned := none }

/-- Clear a band's owner, and tell it. -/
def Part.loseOwner (p : Part) (b : Nat) : Part :=
  let q := p.modBand b fun r => { r with owner := none }
  match (p.band b).owner with
  | none => q
  | some o => q.tellLoss o

/-- The OPEN band a requester owns (R23). -/
def Part.ownBand (p : Part) (q : Requester) : Option Nat :=
  let b := match q with
    | .stream i => (p.stream i).band
    | .chan c => (p.chan c).owned
  b.filter fun n => decide ((p.band n).state = .opened ∧ (p.band n).owner = some q)

/-- A band becomes OPEN with this owner, which owns it from then on. -/
def Part.give (p : Part) (b : Nat) (q : Requester) : Part :=
  let p := p.modBand b fun r => { r with state := .opened, owner := some q }
  match q with
  | .stream i => p.modStream i fun s => { s with state := .active, band := some b }
  | .chan c => p.modChan c fun k => { k with owned := some b }

/-! ### Rewind and release (R31 to R33) -/

/-- The Pending Retirement List's tracks of a band (R33, R38). -/
def pendingOf (m : BandManager) (b : Nat) : List Nat :=
  (m.pendingRetire.filter fun e => decide (e.band = b)).map PendingTrack.track

/-- Tracks join the Retired Track List at their places, together with the digest rewrite (R7); where none joins,
nothing changes, and a stored mismatch of the digest stays (R184). -/
def Part.retireTracks (p : Part) (ts : List Nat) : Part :=
  let l := ts.foldl (fun l t => insertAsc t l) p.bm.retired
  if l = p.bm.retired then p else (p.modBm fun m => { m with retired := l }).rewriteDigest

/-- Rewind a band (R33): to RETIRED when its suspect flag is set, and to FREE otherwise. The partner's room does
not fall at a rewind to RETIRED: the tracks that join lie in the span that is given up, so R28's test after
their insertion closes no band. -/
def Part.rewind (p : Part) (b : Nat) : Part :=
  if (p.band b).suspectFlag then
    let ts := pendingOf p.bm b
    let q := p.modBand b fun r => { r with state := .retired, wp := 0, owner := none }
    ((q.modBm fun m => { m with pendingRetire := m.pendingRetire.filter fun e => decide (e.band ≠ b) }).retireTracks
      ts).raise evBandRetired
  else
    (p.modBand b fun r =>
      { r with state := .free, wp := 0, owner := none, cls := 0, closedHour := 0 }).reportFree (freeCount p.bm)

/-- The release conditions (R32). -/
def Band.releasable (r : Band) : Bool :=
  decide (r.valid = 0 ∧ r.pins = 0 ∧ r.pendingRemaps = 0 ∧ r.inFlight = 0)

/-- The release check (R32). -/
def Part.releaseCheck (p : Part) (b : Nat) : Part :=
  let r := p.band b
  if (r.state = .closed ∨ r.state = .suspect) ∧ r.releasable then p.rewind b else p

/-- One of the four counts of a band fell: the release check (R32), and the report to the channel whose victim
it is (R120). -/
def Part.countFell (p : Part) (b : Nat) : Part :=
  let q := p.releaseCheck b
  if (p.band b).state = .reclaiming then q.note (.victim b) else q

/-- Change the counts of a band downward, and make the checks. -/
def Part.dropCount (p : Part) (b : Nat) (f : Band → Band) : Part := (p.modBand b f).countFell b

def Part.pinBand (p : Part) (b : Nat) : Part := p.modBand b fun r => { r with pins := r.pins + 1 }
def Part.unpinBand (p : Part) (b : Nat) : Part := p.dropCount b fun r => { r with pins := r.pins - 1 }
def Part.landBand (p : Part) (b : Nat) : Part := p.dropCount b fun r => { r with inFlight := r.inFlight - 1 }

/-! ### Close (R28) -/

/-- A band leaves every parked list. -/
def Part.unpark (p : Part) (b : Nat) : Part := p.modBm fun m => { m with parked := m.parked.map fun l => without l b }

/-- A band without an owner becomes CLOSED (R28), without the release check. -/
def Part.closeOnly (p : Part) (b : Nat) : Part :=
  (p.unpark b).modBand b fun r => { r with state := .closed, closedHour := p.hours }

/-- Close a band: its owner is told, and the release check is made (R23, R28). -/
def Part.closeBand (p : Part) (b : Nat) : Part := ((p.loseOwner b).closeOnly b).releaseCheck b

/-- R28's test of a band's room. -/
def Part.closeTest (p : Part) (b : Nat) : Part :=
  let s := (p.band b).state
  if (s = .opened ∨ s = .parked) ∧ room p.bm b < 1 then p.closeBand b else p

/-! ### SUSPECT (R34 to R36) -/

/-- A band is bound for retirement (R35). R35 has no row for a band that is FREE or RETIRED when its error count
reaches the threshold: it changes in nothing but the count. DESIGN CHOICE, log 38. -/
def Part.bindSuspect (p : Part) (b : Nat) : Part :=
  match (p.band b).state with
  | .opened =>
    (((p.loseOwner b).modBand b fun r =>
      { r with state := .suspect, suspectFlag := true, closedHour := p.hours }).raise evBandSuspect).releaseCheck b
  | .parked =>
    (((p.unpark b).modBand b fun r =>
      { r with state := .suspect, suspectFlag := true, closedHour := p.hours }).raise evBandSuspect).releaseCheck b
  | .closed =>
    ((p.modBand b fun r => { r with state := .suspect, suspectFlag := true }).raise evBandSuspect).releaseCheck b
  | .reclaiming => p.modBand b fun r => { r with suspectFlag := true }
  | .suspect | .free | .retired => p

/-- Media trouble against a band (R34). -/
def Part.bandError (p : Part) (b : Nat) : Part :=
  let q := p.modBand b fun r => { r with errors := satAdd 255 r.errors 1 }
  if q.settings.suspect ≤ (q.band b).errors then q.bindSuspect b else q

/-- A victim becomes RECLAIMING (R36). -/
def Part.takeVictim (p : Part) (b : Nat) : Part := p.modBand b fun r => { r with state := .reclaiming }

/-- A RECLAIMING band goes back to SUSPECT or CLOSED, without the release check (R36). -/
def Part.returnOnly (p : Part) (b : Nat) : Part :=
  if (p.band b).suspectFlag then
    (p.modBand b fun r => { r with state := .suspect }).raise evBandSuspect
  else p.modBand b fun r => { r with state := .closed }

/-- Victim return, with the release check (R36, R32). -/
def Part.returnVictim (p : Part) (b : Nat) : Part := (p.returnOnly b).releaseCheck b

/-! ### Obtaining a band (R25 to R27) -/

/-- A class's zone range clamped to the configured zones (R66). -/
def zoneInRange (g : Geometry) (c : ClassRec) (z : Nat) : Bool :=
  let top := g.zones.length - 1
  decide (min c.firstZone top ≤ z ∧ z ≤ min c.lastZone top)

/-- A band that allocation for a class considers (R26). -/
def Part.allocatable (p : Part) (c : Nat) (b : Nat) : Bool :=
  let q := pairGeo p.bm.geom (b / 2)
  decide ((p.band b).state = .free) && zoneInRange p.bm.geom (p.classRec c) q.zone && decide (q.S ≤ room p.bm b)

/-- The better of two bands for allocation: more unused tracks, then the lower number, which is the one held
already (R26). -/
def betterBand (m : BandManager) (best : Option Nat) (b : Nat) : Option Nat :=
  match best with
  | none => some b
  | some a => if unusedTracks m (a / 2) < unusedTracks m (b / 2) then some b else some a

/-- The band allocation chooses for a class (R26). -/
def Part.bestBand (p : Part) (c : Nat) : Option Nat :=
  ((List.range p.bm.bands.length).filter (p.allocatable c)).foldl (betterBand p.bm) none

/-- The reserve and the quota (R27). -/
def Part.mayAllocate (p : Part) (q : Requester) (c : Nat) : Bool :=
  decide (classCount p.bm c < (p.classRec c).quota) &&
    match q with
    | .stream _ => decide (p.settings.reserve < freeCount p.bm)
    | .chan _ => true

/-- A band request (R25): own band, adoption, allocation, or no band. -/
def Part.bandRequest (p : Part) (q : Requester) (c : Nat) : Option Nat × Part :=
  match p.ownBand q with
  | some b => (some b, p)
  | none =>
    match p.parkedList c with
    | b :: _ => (some b, (p.unpark b).give b q)
    | [] =>
      if p.mayAllocate q c then
        match p.bestBand c with
        | some b =>
          (some b, ((p.give b q).modBand b fun r => { r with cls := c }).reportFree (freeCount p.bm))
        | none => (none, p)
      else (none, p)

/-- A reservation by a band's owner (R14, R22): the first offset, the length taken, and the part after R28's
tests of the band and its partner. The length is 0 where the band does not take it. -/
def Part.reserve (p : Part) (q : Requester) (b n : Nat) : Nat × Nat × Part :=
  let r := p.band b
  let got := if r.state = .opened ∧ r.owner = some q then min n (room p.bm b) else 0
  if got = 0 then (r.wp, 0, p)
  else
    let p1 := p.modBand b fun x => { x with wp := x.wp + got, inFlight := x.inFlight + 1 }
    (r.wp, got, (p1.closeTest b).closeTest (partner b))

/-! ### Park (R29, R30) -/

/-- The write pointer after a tail policy (R29). -/
def paddedWp (pol : TailPolicy) (S wp : Nat) : Nat :=
  match pol with
  | .cont => wp
  | .pad => if wp % S = 0 then wp else (wp / S + 1) * S

/-- Join the class's parked list as the newest, closing the oldest of four (R29, R30). -/
def Part.joinParked (p : Part) (b : Nat) (close : Part → Nat → Part) : Part :=
  let c := (p.band b).cls
  let p := match p.parkedList c with
    | o :: rest => if (o :: rest).length ≥ Config.parkedCap then close p o else p
    | [] => p
  ((p.modBand b fun r => { r with state := .parked }).modParked c fun l => l ++ [b]).note .parkJoined

/-- Where a band that has lost its owner goes (R29 step 3); `close` closes a band, with or without the release
check. -/
def Part.dispose (p : Part) (b : Nat) (close : Part → Nat → Part) : Part :=
  if (p.band b).wp = 0 then p.rewind b
  else if room p.bm b < (pairGeo p.bm.geom (b / 2)).S then close p b
  else p.joinParked b close

/-- A park request (R29): the pad blocks added, and the part after it. A band that is not OPEN is left as it
is. -/
def Part.park (p : Part) (b : Nat) (pol : TailPolicy) : Nat × Part :=
  if (p.band b).state = .opened then
    let wp := paddedWp pol (pairGeo p.bm.geom (b / 2)).S (p.band b).wp
    let q := (p.modBand b fun r => { r with wp := wp }).loseOwner b
    (wp - (p.band b).wp, q.dispose b Part.closeBand)
  else (0, p)

/-- A park whose pad blocks are tallied in the slot of the band's class (R29, R82). -/
def Part.parkTallied (p : Part) (b : Nat) (pol : TailPolicy) : Nat × Part :=
  let cls := (p.band b).cls
  let r := p.park b pol
  (r.1, r.2.count cls (Tally.addPadded r.1))

/-! ### Resets (R41) -/

def bandNumbers (m : BandManager) : List Nat := List.range m.bands.length

/-- Step 1 of R41: no counts and no owners. -/
def Part.clearBandCounts (p : Part) : Part :=
  p.modBm fun m => { m with bands := m.bands.map fun r =>
    { r with pins := 0, pendingRemaps := 0, inFlight := 0, owner := none } }

/-- Step 2 of R41 for one band. A band that it closes is released, if at all, in step 4 only. DESIGN CHOICE, log 39. -/
def Part.resetPark (p : Part) (b : Nat) : Part :=
  if (p.band b).state = .opened then p.dispose b Part.closeOnly else p

/-- Step 3 of R41 for one band. -/
def Part.resetReturn (p : Part) (b : Nat) : Part :=
  if (p.band b).state = .reclaiming then p.returnOnly b else p

/-- Step 4 of R41 for one band. -/
def Part.resetRelease (p : Part) (b : Nat) : Part :=
  let r := p.band b
  if (r.state = .closed ∨ r.state = .suspect) ∧ r.valid = 0 then p.rewind b else p

/-- The steps of R41, in its order. -/
def Part.bandResetSteps (p : Part) : Part :=
  let ns := bandNumbers p.bm
  let p := p.clearBandCounts
  let p := ns.foldl Part.resetPark p
  let p := ns.foldl Part.resetReturn p
  ns.foldl Part.resetRelease p

end Sys2Proof.Machine
end

