-- ==== Sys2Proof/Machine/Log.lean ====
section
/-! DEFINITION. Chapter 5: the Staging Log Unit: fill and levels, staging requests, appends, holds and the tail. -/

namespace Sys2Proof.Machine

/-! ### Fill and levels (R86, R93 to R95) -/

def fill (l : LogUnit) : Nat := sumOf Run.len l.runs

/-- Fill stands at so many sixteenths of C_stg or above (R93); without a log there is no level. -/
def Part.fillAt (p : Part) (m : Nat) : Bool :=
  decide (0 < stgCap p.bm ∧ m * stgCap p.bm ≤ 16 * fill p.sl)

/-- Fill is at or above the high mark (R93). -/
def Part.fillHigh (p : Part) : Bool := p.fillAt p.settings.highMark

/-- Fill is at the urgent level (R93). -/
def Part.urgent (p : Part) : Bool := p.fillAt 15

/-- The destage demand level (R94). -/
def Part.demandHigh (p : Part) : Bool := p.fillHigh || p.sl.held

def laneFor (urgent : Bool) : Lane := if urgent then .background else .foreground

/-- The level checks after a change of fill, of the high mark or of the held PLACE, against the levels before it:
STAGE_HIGH (R94), the report of the demand level (R94, R106), and the favoured lane (R95, R139). -/
def Part.levelChecks (p : Part) (old : Part) : Part :=
  let p1 := if !old.fillHigh && p.fillHigh then p.raise evStageHigh else p
  let p2 := if old.demandHigh = p.demandHigh then p1 else p1.note (.demand old.demandHigh p.demandHigh)
  if old.urgent = p.urgent then p2
  else p2.modMp fun m => { m with favoured := laneFor p.urgent, runCount := 0 }

/-- A PLACE is, or is no longer, held for staging space (R90, R94). -/
def Part.setHeld (p : Part) (h : Bool) : Part :=
  if p.sl.held = h then p else (p.modSl fun l => { l with held := h }).levelChecks p

/-! ### Staging requests (R88, R92) -/

/-- A staged part: its log position and length (R88). -/
structure StagedPart where
  pos : Nat
  len : Nat
  deriving DecidableEq, Repr

/-- The parts of a request of n blocks with the head at h (R88). -/
def stagedParts (cap h n : Nat) : List StagedPart :=
  if h + n ≤ cap then [{ pos := h, len := n }]
  else [{ pos := h, len := cap - h }, { pos := 0, len := n - (cap - h) }]

/-- The run records of a part (R88): every one but the last holds 8,192 blocks. -/
def recordsFor (len : Nat) : Nat := (len + (Config.runLen - 1)) / Config.runLen

def recordsNeeded (parts : List StagedPart) : Nat := sumOf (fun q => recordsFor q.len) parts

/-- The request fits (R88). -/
def Part.stagingFits (p : Part) (n : Nat) : Bool :=
  decide (fill p.sl + n ≤ stgCap p.bm ∧
    p.sl.runs.length + recordsNeeded (stagedParts (stgCap p.bm) p.sl.head n) ≤ Config.runCap)

/-- The request can never fit (R88). -/
def Part.stagingNever (p : Part) (n : Nat) : Bool :=
  decide (stgCap p.bm < n ∨ Config.runCap < recordsNeeded (stagedParts (stgCap p.bm) p.sl.head n))

/-- A channel counts as enabled for the staging test (R105). -/
def Part.destaging (p : Part) (c : Nat) : Bool :=
  (p.setup c).enable && decide ((p.setup c).job = .destage ∧ (p.chan c).state ≠ .disabled ∧ (p.chan c).stop = none)

/-- How many DESTAGE channels count (R105). -/
def Part.destagers (p : Part) : Nat := (List.range 4).countP p.destaging

inductive StagingAnswer where
  | take
  | hold
  | refuse
  deriving DecidableEq, Repr

/-- The answer to a staging request (R88), "never" being treated as "refuse". -/
def Part.stagingTest (p : Part) (n : Nat) : StagingAnswer :=
  if p.stagingFits n then .take
  else if p.stagingNever n then .refuse
  else if 0 < p.destagers then .hold else .refuse

/-- The run records of consecutive positions from `pos` (R88, R89). -/
def runRecords (cls : Nat) : (fuel pos len start : Nat) → List Run
  | 0, _, _, _ => []
  | fuel + 1, pos, len, start =>
    if len = 0 then [] else
      let n := min len Config.runLen
      { pos := pos, len := n, start := start, live := 0, cls := cls, inFlight := true, pins := 0, hold := 0 }
        :: runRecords cls fuel (pos + n) (len - n) (start + n)

/-- The records of the parts in order, the first part at LBA `start` (R88, R89). -/
def partRecords (cls : Nat) : List StagedPart → Nat → List Run
  | [], _ => []
  | q :: qs, start => runRecords cls (recordsFor q.len) q.pos q.len start ++ partRecords cls qs (start + q.len)

/-- Append parts at the head (R89), then the level checks and the report to the Relocation Engine (R106). -/
def Part.append (p : Part) (parts : List StagedPart) (start cls : Nat) : Part :=
  let n := sumOf StagedPart.len parts
  ((p.modSl fun l =>
    { l with runs := l.runs ++ partRecords cls parts start, head := (l.head + n) % stgCap p.bm }).note
      .logInput).levelChecks p

/-- The fresh position of a failed part, if it is placed (R92). -/
def Part.stagedRetry (p : Part) (n start cls : Nat) : Option (Nat × Part) :=
  if fill p.sl + n ≤ stgCap p.bm ∧ p.sl.runs.length + recordsFor n ≤ Config.runCap
      ∧ p.sl.head + n ≤ stgCap p.bm then
    some (p.sl.head, p.append [{ pos := p.sl.head, len := n }] start cls)
  else none

/-! ### Runs touched by a range (R87) -/

/-- The blocks a log range has in a record. -/
def runOverlap (pos len : Nat) (r : Run) : Nat := min (pos + len) (r.pos + r.len) - max pos r.pos

def touches (pos len : Nat) (r : Run) : Bool := decide (0 < runOverlap pos len r)

/-- Change the records that a log range touches. -/
def Part.modRuns (p : Part) (pos len : Nat) (f : Run → Run) : Part :=
  p.modSl fun l => { l with runs := modWhere (touches pos len) f l.runs }

/-! ### The tail (R91, R96, R97) -/

/-- A record the tail passes (R97). -/
def Run.passable (r : Run) : Bool := decide (r.live = 0 ∧ r.inFlight = false ∧ r.pins = 0 ∧ r.hold = 0)

/-- The tail check (R97). -/
def Part.tailCheck (p : Part) : Part :=
  let rest := p.sl.runs.dropWhile Run.passable
  if rest.length = p.sl.runs.length then p
  else
    let tail := match rest with
      | r :: _ => r.pos
      | [] => p.sl.head
    ((p.modSl fun l => { l with runs := rest, tail := tail }).note .logInput).levelChecks p

def Part.pinRuns (p : Part) (pos len : Nat) : Part := p.modRuns pos len fun r => { r with pins := r.pins + 1 }

/-- Some record that a log range touches meets a test. -/
def Part.anyTouched (p : Part) (pos len : Nat) (f : Run → Bool) : Bool :=
  p.sl.runs.any fun r => touches pos len r && f r

/-- Change the records a log range touches, with the tail check where one of them gives up a hold (R97). -/
def Part.freeRuns (p : Part) (pos len : Nat) (gives : Run → Bool) (f : Run → Run) : Part :=
  if p.anyTouched pos len gives then (p.modRuns pos len f).tailCheck else p.modRuns pos len f

def Part.unpinRuns (p : Part) (pos len : Nat) : Part :=
  p.freeRuns pos len (fun r => decide (r.pins = 1)) fun r => { r with pins := r.pins - 1 }

def Part.holdRuns (p : Part) (pos len : Nat) : Part := p.modRuns pos len fun r => { r with hold := r.hold + 1 }

def Part.unholdRuns (p : Part) (pos len : Nat) : Part :=
  p.freeRuns pos len (fun r => decide (r.hold = 1)) fun r => { r with hold := r.hold - 1 }

/-- The write of a staged part ends (R91): the flags of its runs clear; the Relocation Engine is told where a run
keeps live blocks (R106); the tail check follows where a flag cleared. -/
def Part.landRuns (p : Part) (pos len : Nat) : Part :=
  let q := if p.anyTouched pos len fun r => r.inFlight && decide (0 < r.live) then p.note .logInput else p
  q.freeRuns pos len Run.inFlight fun r => { r with inFlight := false }

/-! ### Pins and landings of either place (R31, R96) -/

/-- A READ order over a place joins (R31, R96). -/
def Part.pin (p : Part) (pl : Place) (len : Nat) : Part :=
  match pl with
  | .band b _ => p.pinBand b
  | .log pos => p.pinRuns pos len

/-- The pin of a READ order falls (R31, R96). -/
def Part.unpin (p : Part) (pl : Place) (len : Nat) : Part :=
  match pl with
  | .band b _ => p.unpinBand b
  | .log pos => p.unpinRuns pos len

/-- The write of a piece at a place ends (R31, R91). -/
def Part.land (p : Part) (pl : Place) (len : Nat) : Part :=
  match pl with
  | .band b _ => p.landBand b
  | .log pos => p.landRuns pos len

/-! ### Work for a destaging channel (R98) -/

def Run.workable (r : Run) : Bool := decide (0 < r.live) && !r.inFlight

/-- The oldest record with live blocks that is not in flight, from a named position onward; from the tail when
none is named, or when no record begins at the position named (R98, R116). Where a record is named and no record from
it onward has work, there is none, though a record before it may have live blocks (R117). DESIGN CHOICE, log 45. -/
def Part.destageWork (p : Part) (named : Option Nat) : Option Run :=
  let onward := match named with
    | none => p.sl.runs
    | some pos =>
      if p.sl.runs.any fun r => decide (r.pos = pos) then p.sl.runs.dropWhile fun r => decide (r.pos ≠ pos)
      else p.sl.runs
  onward.find? Run.workable

/-! ### Resets (R100) -/

/-- The steps of R100, without STAGE_HIGH and the levels, which the reset makes afterwards: no flags, pins and
holds, then the tail check. -/
def Part.logResetSteps (p : Part) : Part :=
  (p.modSl fun l => { l with
    runs := l.runs.map fun r => { r with inFlight := false, pins := 0, hold := 0 }
    held := false }).tailCheck

/-- The level checks of a reset (R100): STAGE_HIGH is raised when fill stands at or above the high mark, and the
favoured lane follows the urgent state (R139). -/
def Part.resetLevels (p : Part) : Part :=
  (if p.fillHigh then p.raise evStageHigh else p).modMp fun m => { m with favoured := laneFor p.urgent }

end Sys2Proof.Machine
end

