-- ==== Sys2Proof/Machine/Map.lean ====
section
/-! DEFINITION. Chapter 3: the Translation Unit: lookups, map updates with their count changes, and entry
reserves. -/

namespace Sys2Proof.Machine

def Extent.stop (e : Extent) : Nat := e.start + e.len

/-! ### Lookup (R45 to R47) -/

/-- A segment of a lookup (R45). -/
inductive Segment where
  | hole (start len : Nat)
  | mapped (start len : Nat) (place : Place)
  deriving DecidableEq, Repr

def holeSeg (a b : Nat) : List Segment := if a < b then [.hole a (b - a)] else []

/-- The segments of [a, e) over the entries that remain (R45). -/
def lookupFrom : List Extent → (a e : Nat) → List Segment
  | [], a, e => holeSeg a e
  | x :: xs, a, e =>
    if x.stop ≤ a then lookupFrom xs a e
    else if e ≤ x.start then holeSeg a e
    else
      let s := max a x.start
      let t := min e x.stop
      holeSeg a s ++ .mapped s (t - s) (x.place.shift (s - x.start)) :: lookupFrom xs t e

/-- A range lookup (R45); a range of no block has no segment. -/
def lookup (l : List Extent) (a n : Nat) : List Segment := if n = 0 then [] else lookupFrom l a (a + n)

/-- A sub-range of an exact-position check (R46). -/
structure SubRange where
  start : Nat
  len : Nat
  deriving DecidableEq, Repr

/-- Add a sub-range after the last one, joined with it where they are adjacent. -/
def joinRange (l : List SubRange) (r : SubRange) : List SubRange :=
  match l.getLast? with
  | some q => if q.start + q.len = r.start then l.dropLast ++ [{ q with len := q.len + r.len }] else l ++ [r]
  | none => [r]

/-- An exact-position check (R46): the maximal sub-ranges of [a, a+n) mapped to exactly the expected position. -/
def exactCheck (l : List Extent) (a n : Nat) (expect : Place) : List SubRange :=
  (lookup l a n).foldl (fun acc s => match s with
    | .hole _ _ => acc
    | .mapped st len pl => if pl = expect.shift (st - a) then joinRange acc { start := st, len := len } else acc) []

/-- A band scan (R47): the segment's start, length and offset in the band. -/
def bandScan (l : List Extent) (X c m : Nat) : Option (Nat × Nat × Nat) :=
  (l.find? fun e => (match e.place with
    | .band b _ => decide (b = X)
    | .log _ => false) && decide (c < e.stop)).map fun e =>
      let s := max c e.start
      let off := match e.place with
        | .band _ o => o
        | .log o => o
      (s, min (e.stop - s) m, off + (s - e.start))

/-! ### Map updates (R48 to R51) -/

/-- An item of a map update (R48): a range with its new position, or to remove. -/
structure MapItem where
  start : Nat
  len : Nat
  place : Option Place
  deriving DecidableEq, Repr

/-- What an entry keeps outside [a, a+n) (R49, Table 3-2). -/
def trimExtent (a n : Nat) (e : Extent) : List Extent :=
  if e.stop ≤ a ∨ a + n ≤ e.start then [e]
  else
    (if e.start < a then [{ e with len := a - e.start }] else [])
      ++ (if a + n < e.stop then
        [{ start := a + n, len := e.stop - (a + n), place := e.place.shift (a + n - e.start) }] else [])

/-- What an entry loses inside [a, a+n) (R49). -/
def lostExtent (a n : Nat) (e : Extent) : Option (Place × Nat) :=
  if e.stop ≤ a ∨ a + n ≤ e.start then none
  else
    let s := max a e.start
    some (e.place.shift (s - e.start), min (a + n) e.stop - s)

def removeRange (l : List Extent) (a n : Nat) : List Extent := (l.map (trimExtent a n)).flatten

def lostIn (l : List Extent) (a n : Nat) : List (Place × Nat) := l.filterMap (lostExtent a n)

/-- Two entries are joinable (R44). -/
def joinable (x y : Extent) : Bool :=
  decide (x.stop = y.start ∧ x.place.shift x.len = y.place ∧ x.len + y.len ≤ Config.extentCap)

/-- Put an entry before the entries that follow it, merged with the first of them where they are joinable
(R50). -/
def mergeHead (x : Extent) : List Extent → List Extent
  | [] => [x]
  | y :: ys => if joinable x y then { x with len := x.len + y.len } :: ys else x :: y :: ys

/-- Insert an entry at its place, merged with the neighbours that are joinable with it (R50). Where it is joinable with
each neighbour but all three are too long for one entry, it merges with the one before. DESIGN CHOICE, log 41. -/
def insertExtent (x : Extent) : List Extent → List Extent
  | [] => [x]
  | y :: ys =>
    if y.start < x.start then
      if joinable y x then mergeHead { y with len := y.len + x.len } ys else y :: insertExtent x ys
    else mergeHead x (y :: ys)

/-- The entries after the removals of every item (R49), and the blocks they lose. -/
def applyRemovals (l : List Extent) (items : List MapItem) : List Extent × List (Place × Nat) :=
  items.foldl (fun acc it => (removeRange acc.1 it.start it.len, acc.2 ++ lostIn acc.1 it.start it.len)) (l, [])

/-- The entries after the insertions of every new-position item (R50). -/
def applyInsertions (l : List Extent) (items : List MapItem) : List Extent :=
  items.foldl (fun acc it => match it.place with
    | some pl => insertExtent { start := it.start, len := it.len, place := pl } acc
    | none => acc) l

/-- Blocks leave a place: the band's valid count or the live counts of the runs fall (R51). -/
def Part.loseBlocks (p : Part) (x : Place × Nat) : Part :=
  match x.1 with
  | .band b _ => p.modBand b fun r => { r with valid := r.valid - x.2 }
  | .log pos => p.modRuns pos x.2 fun r => { r with live := r.live - runOverlap pos x.2 r }

/-- Blocks come to a place (R51). -/
def Part.gainBlocks (p : Part) (x : Place × Nat) : Part :=
  match x.1 with
  | .band b _ => p.modBand b fun r => { r with valid := r.valid + x.2 }
  | .log pos => p.modRuns pos x.2 fun r => { r with live := r.live + runOverlap pos x.2 r }

/-- The places an update gives blocks to. -/
def gainsOf (items : List MapItem) : List (Place × Nat) := items.filterMap fun it => it.place.map fun pl => (pl, it.len)

/-- The bands of a list of places, each once. -/
def bandsOf (l : List (Place × Nat)) : List Nat :=
  l.foldl (fun acc x => match x.1 with
    | .band b _ => addNew acc b
    | .log _ => acc) []

/-! ### Entry reserves (R54 to R56) -/

def Part.entries (p : Part) : Nat := p.tu.extents.length

/-- The entries in use plus the reserve total (R55, R56). -/
def Part.mapSum (p : Part) : Nat := p.entries + p.tu.reserveTotal

/-- A reserve can be taken (R55). -/
def Part.canTake (p : Part) (n : Nat) : Bool := decide (p.mapSum + n ≤ Config.mapCap)

/-- MAP_HIGH is raised when the sum goes to its level from below (R56). -/
def Part.mapHighCheck (p : Part) (old : Nat) : Part :=
  if old < Config.mapHigh ∧ Config.mapHigh ≤ p.mapSum then p.raise evMapHigh else p

def Part.takeReserve (p : Part) (n : Nat) : Part :=
  (p.modTu fun t => { t with reserveTotal := t.reserveTotal + n }).mapHighCheck p.mapSum

def Part.releaseReserve (p : Part) (n : Nat) : Part := p.modTu fun t => { t with reserveTotal := t.reserveTotal - n }

/-- Some run that had live blocks has none left. -/
def runsEmptied (old new : List Run) : Bool :=
  (old.zip new).any fun x => decide (0 < x.1.live ∧ x.2.live = 0)

/-- BM reports a rise of the valid count of a RECLAIMING band to its channel (R120). -/
def Part.reportRise (p : Part) (old : Part) (b : Nat) : Part :=
  if (p.band b).state = .reclaiming ∧ (old.band b).valid < (p.band b).valid then p.note (.victim b) else p

/-- A map update (R48): removals, insertions with merges, then the count changes; what it loses, and the part.
The release checks and tail checks follow when it is durable (R52). -/
def Part.mapUpdate (p : Part) (items : List MapItem) : List (Place × Nat) × Part :=
  let r := applyRemovals p.tu.extents items
  let gains := gainsOf items
  let q := p.modTu fun t => { t with extents := applyInsertions r.1 items }
  let q := r.2.foldl Part.loseBlocks q
  let q := gains.foldl Part.gainBlocks q
  let fell := (bandsOf r.2).filter fun b => decide ((q.band b).valid < (p.band b).valid)
  let q := (bandsOf gains).foldl (fun q b => q.reportRise p b) q
  (r.2, (q.mapHighCheck p.mapSum).follow (.checks fell (runsEmptied p.sl.runs q.sl.runs)))

/-- The release checks and tail checks of a durable update (R51, R52). -/
def Part.updateChecks (p : Part) (bands : List Nat) (tail : Bool) : Part :=
  let q := bands.foldl Part.countFell p
  if tail then q.tailCheck else q

/-! ### Regions and attributes (R69, R113) -/

/-- The region that holds an LBA. -/
def regionOf (l : List Region) (x : Nat) : Option Region :=
  l.find? fun r => decide (r.start ≤ x ∧ x < r.start + r.len)

/-- Resolved attributes, coded as in Table 4-2. -/
structure Attrs where
  cls : Nat
  tail : Nat
  verify : Nat
  deriving DecidableEq, Repr

/-- The device defaults: class 1, CONTINUE, verify off (R69 layer 1). -/
def Attrs.default : Attrs := { cls := 1, tail := 2, verify := 2 }

def layer (new old : Nat) : Nat := if new = 0 then old else new

/-- A later layer replaces the fields where its own value is not 0 (R69). -/
def Attrs.layered (a : Attrs) (cls tail verify : Nat) : Attrs :=
  { cls := layer cls a.cls, tail := layer tail a.tail, verify := layer verify a.verify }

/-- Layers 1 and 2 for an LBA (R69, R113). -/
def Part.regionAttrs (p : Part) (x : Nat) : Attrs :=
  match regionOf p.tu.regions x with
  | none => Attrs.default
  | some r => Attrs.default.layered r.cls r.tail r.verify

def tailOf (t : Nat) : TailPolicy := if t = 1 then .pad else .cont
def verifyOn (v : Nat) : Bool := decide (v = 1)

end Sys2Proof.Machine
end

