-- ==== Sys2Proof/Machine/MediaPort.lean ====
section
/-! DEFINITION. Chapter 8: the Media Port: joins with the write-wait list, withdrawals, the window and the
arbiter, and the media ready state. What an order's end does to its owner stands with the owners. -/

namespace Sys2Proof.Machine

def Part.modOrders (p : Part) (f : List Order → List Order) : Part := p.modMp fun m => { m with orders := f m.orders }

def Order.inWindow (o : Order) : Bool := decide (o.state ≠ .queued)

def Order.queued (o : Order) : Bool := decide (o.state = .queued)

/-- The lane of an owner's orders (R135). -/
def ownerLane : Owner → Lane
  | .txn _ => .foreground
  | .chan _ => .background

/-- The order with an id, in any state. -/
def Part.order (p : Part) (id : Nat) : Option Order := p.mp.orders.find? fun o => decide (o.id = id)

/-- The orders of an owner that are in the Order Queue: its orders outstanding (R170). -/
def Part.outstanding (p : Part) (w : Owner) : Nat := p.mp.orders.countP fun o => decide (o.owner = w)

/-! ### Orders still to join (R111, R170) -/

def Part.toJoin (p : Part) : Owner → List Order
  | .txn t => match p.txn t with
    | some x => x.toJoin
    | none => []
  | .chan c => (p.chan c).toJoin

/-- The write-wait entries of a list of orders that were refused a join: for each band the lowest offset of its
WRITE orders (R137, log 14). -/
def waitEntries (w : Owner) (l : List Order) : List WriteWait :=
  l.foldl (fun acc o => match o.op, o.place with
    | .write, .band b off =>
      if acc.any fun e => decide (e.band = b) then
        modWhere (fun e => decide (e.band = b)) (fun e => { e with off := min e.off off }) acc
      else acc ++ [{ owner := w, band := b, off := off }]
    | _, _ => acc) []

/-- Set an owner's orders still to join, with its write-wait entries (R137). -/
def Part.setToJoin (p : Part) (w : Owner) (l : List Order) : Part :=
  (match w with
    | .txn t => p.modTxn t fun x => { x with toJoin := l }
    | .chan c => p.modChan c fun k => { k with toJoin := l }).modMp fun m =>
      { m with writeWait := (m.writeWait.filter fun (e : WriteWait) => decide (e.owner ≠ w)) ++ waitEntries w l }

/-! ### Remaps of a channel's orders (R59) -/

def Part.modRemap (p : Part) (b off : Nat) (f : Remap → Remap) : Part :=
  p.modTu fun t => { t with remaps := modWhere (fun r => decide (r.dstBand = b ∧ r.dstOff = off)) f t.remaps }

/-- The destination of the remap that an order of a channel belongs to: WRITE and VERIFY orders have one. -/
def Part.remapKey (p : Part) (o : Order) : Option (Nat × Nat) :=
  match o.owner, o.op with
  | .txn _, _ => none
  | .chan _, .read => none
  | .chan c, _ => ((p.chan c).copy.bind fun k => k.pieces[o.piece]?).map fun q => (q.band, q.dst)

/-- Change the remap an order belongs to. -/
def Part.modOrderRemap (p : Part) (o : Order) (f : Remap → Remap) : Part :=
  match p.remapKey o with
  | some (b, off) => p.modRemap b off f
  | none => p

/-! ### Join (R136, R137) -/

/-- The lowest id that no order holds (R136). -/
def freeId (l : List Order) : Nat :=
  ((List.range Config.orderCap).find? fun n => !(l.any fun o => decide (o.id = n))).getD 0

/-- A join is refused "behind" (R137). -/
def behind (waits : List WriteWait) (o : Order) : Bool :=
  match o.op, o.place with
  | .write, .band b off => waits.any fun e => decide (e.owner ≠ o.owner ∧ e.band = b ∧ e.off < off)
  | _, _ => false

/-- Take a join, or refuse it (R136). A READ pins what it reads (R31, R96); an order of a copy counts on its
remap (R59). -/
def Part.joinOne (p : Part) (o : Order) : Option Part :=
  if Config.orderCap ≤ p.mp.orders.length ∨ behind p.mp.writeWait o then none
  else
    let q := p.modOrders fun l => l ++ [{ o with id := freeId l, state := .queued, timer := .stopped }]
    let q := q.modOrderRemap o fun r => { r with orders := r.orders + 1, joined := true }
    some (if o.op = .read then q.pin o.place o.count else q)

/-- Ask for the joins of a list in order: the orders refused, and the part. -/
def Part.joinPass (p : Part) (l : List Order) : List Order × Part :=
  l.foldl (fun acc o => match acc.2.joinOne o with
    | some q => (acc.1, q)
    | none => (acc.1 ++ [o], acc.2)) ([], p)

/-- An owner asks for the joins of its list of orders; what is refused stays with it, and it is recorded as
waiting (R136). -/
def Part.joinList (p : Part) (w : Owner) (l : List Order) : Part :=
  let r := p.joinPass l
  let q := r.2.setToJoin w r.1
  if r.1.isEmpty then q else q.modMp fun m => { m with waiting := addNew m.waiting w }

/-- An owner joins the orders it still has to join, and then new ones, so that its joins to a band keep the order
of its reservations (R137, R171). -/
def Part.joinOrders (p : Part) (w : Owner) (new : List Order) : Part := p.joinList w (p.toJoin w ++ new)

/-- Places are free in the Order Queue for so many orders. -/
def Part.hasPlaces (p : Part) (n : Nat) : Bool := decide (p.mp.orders.length + n ≤ Config.orderCap)

/-! ### Leaving the queue (R136, R142, R143) -/

/-- A place is freed: every waiting owner is told, and the record is cleared (R136). -/
def Part.placeFreed (p : Part) : Part :=
  p.modMp fun m => { m with told := m.waiting.foldl addNew m.told, waiting := [] }

/-- An order leaves the queue, and its id is freed. -/
def Part.removeOrder (p : Part) (id : Nat) : Part := p.modOrders fun l => l.filter fun o => decide (o.id ≠ id)

/-- What a QUEUED order gives back when it is withdrawn (R143): its pin, and its place in its remap (R59). -/
def Part.giveBack (p : Part) (o : Order) : Part :=
  let q := p.modOrderRemap o fun r => { r with orders := r.orders - 1, failed := true }
  if o.op = .read then q.unpin o.place o.count else q

/-- Withdraw the QUEUED orders that meet a test (R143). -/
def Part.withdraw (p : Part) (f : Order → Bool) : Part :=
  let gone := p.mp.orders.filter fun o => o.queued && f o
  if gone.isEmpty then p
  else (gone.foldl Part.giveBack (p.modOrders fun l => l.filter fun o => !(o.queued && f o))).placeFreed

/-! ### Issue (R138 to R140) -/

/-- A Map Store update is durable: none of that number is in progress (R177). -/
def Part.durable (p : Part) (u : Nat) : Bool := !(p.store.updates.any fun x => decide (x.id = u) && !x.done)

/-- A QUEUED WRITE to a band at a lower offset (R138). -/
def lowerWrite (l : List Order) (b off : Nat) : Bool :=
  l.any fun o => o.queued && decide (o.op = .write) && match o.place with
    | .band c k => decide (c = b ∧ k < off)
    | .log _ => false

/-- A head is eligible (R138). -/
def Part.eligible (p : Part) (o : Order) : Bool :=
  match o.op, o.place with
  | .write, .band b off => p.durable o.update && !lowerWrite p.mp.orders b off
  | .write, .log _ => p.durable o.update
  | _, _ => true

/-- The oldest QUEUED order of a list. -/
def Part.laneHead (p : Part) (f : Owner → Bool) : Option Order :=
  (p.mp.orders.find? fun o => o.queued && f o.owner).filter p.eligible

/-- The FOREGROUND lane's head, if it is eligible. -/
def Part.foreHead (p : Part) : Option Order := p.laneHead fun w => decide (ownerLane w = .foreground)

/-- The BACKGROUND lane's head: the first channel, upward from the last one plus one, whose head is eligible
(R139). -/
def Part.backHead (p : Part) : Option Order :=
  [1, 2, 3, 4].findSome? fun k => p.laneHead fun w => decide (w = .chan ((p.mp.lastChan + k) % 4))

/-- The arbiter's choice and the run count after it (R139). -/
def Part.arbitrate (p : Part) : Option (Order × Nat) :=
  let fav := if p.mp.favoured = .foreground then p.foreHead else p.backHead
  let other := if p.mp.favoured = .foreground then p.backHead else p.foreHead
  match fav, other with
  | none, none => none
  | some o, none => some (o, 0)
  | none, some o => some (o, 0)
  | some a, some b => if p.mp.runCount < p.settings.burst then some (a, p.mp.runCount + 1) else some (b, 0)

/-- Orders in the window (R138). -/
def windowCount (l : List Order) : Nat := l.countP Order.inWindow

/-- An issue is possible: the media is READY, the window has a place, and no reset waits (R138, R148). -/
def Part.canIssue (p : Part) : Bool :=
  p.mp.ready && decide (windowCount p.mp.orders < Config.windowCap) && !p.resetting

/-- The ORDER message of an order (R140). -/
def Order.frame (o : Order) : MediaFrame := .order o.id o.op o.track o.sector o.dir o.count o.handle o.bufOff

/-- The channel the BACKGROUND lane issued last (R139). -/
def lastAfter (last : Nat) : Owner → Nat
  | .txn _ => last
  | .chan c => c

/-- Issue an order (R140). -/
def Part.issue (p : Part) (o : Order) (run : Nat) : Part :=
  p.modMp fun m => { m with
    orders := modWhere (fun x => decide (x.id = o.id))
      (fun x => { x with state := .issued, timer := Timer.start p.settings.orderTimeout }) m.orders
    tx := m.tx ++ [o.frame]
    runCount := run
    lastChan := lastAfter m.lastChan o.owner
    idle := if ownerLane o.owner = .foreground then Timer.start p.settings.idleDelay else m.idle }

/-- One issue, where one is possible (R138). -/
def Part.tryIssue (p : Part) : Part :=
  if p.canIssue then
    match p.arbitrate with
    | some (o, run) => p.issue o run
    | none => p
  else p

/-! ### Media readiness (R147) -/

def Part.setReady (p : Part) : Part :=
  if p.mp.ready then p
  else p.modMp fun m => { m with
    ready := true
    orders := m.orders.map fun o => { o with timer := o.timer.release }
    idle := Timer.start p.settings.idleDelay }

def Part.setNotReady (p : Part) : Part :=
  if p.mp.ready then p.modMp fun m => { m with
    ready := false
    orders := m.orders.map fun o => { o with timer := o.timer.hold }
    idle := .stopped }
  else p

/-! ### Counts and reset (R146, R148) -/

def Part.strayReport (p : Part) : Part := p.modMp fun m => { m with stray := satAdd Config.count16 m.stray 1 }

def Part.mediaLinkError (p : Part) : Part :=
  p.modMp fun m => { m with linkErrors := satAdd Config.count16 m.linkErrors 1, rx := .hunting }

/-- What the Media Port does at the arrival of the RESET request (R148). -/
def Part.mediaReset (p : Part) : Part :=
  p.modMp fun m => { m with
    orders := (m.orders.filter Order.inWindow).map fun o => { o with timer := .stopped }
    waiting := []
    told := []
    writeWait := []
    idle := .stopped
    awaitAll := true
    tx := m.tx ++ [.cancelAll] }

end Sys2Proof.Machine
end

