-- ==== Sys2Proof/Machine/Link.lean ====
section
/-! DEFINITION. The Link Interface (R163 to R167): messages to the host, the arrival checks and the transmit
places. -/

namespace Sys2Proof.Machine

/-! ### Messages (R167) -/

def replyMsg (tag : Nat) (r : Result) (k : ReqKind) (items : List Item) : Message :=
  { tag := tag, place := .ordinary, payload := .reply r k items }

def doneMsg (tag : Nat) (r : Result) (k : ReqKind) (items : List Item) : Message :=
  { tag := tag, place := .ordinary, payload := .done r k items }

/-- The message that ends a request: DONE for a long request whose hold flag is clear, else REPLY (R167). -/
def finalMsg (k : ReqKind) (hold : Bool) (tag : Nat) (r : Result) (items : List Item) : Message :=
  if k.isLong && !hold then doneMsg tag r k items else replyMsg tag r k items

/-- Queue a message. -/
def Part.say (p : Part) (m : Message) : Part := p.modLi fun l => l.put m

/-- Queue a message for which a place was reserved: the place is used (R166). -/
def Part.sayHeld (p : Part) (m : Message) : Part := p.modLi fun l => { l with reserved := l.reserved - 1 }.put m

/-- Reserve places of the transmit queue for messages that come later (R166). -/
def Part.holdPlaces (p : Part) (n : Nat) : Part := p.modLi fun l => { l with reserved := l.reserved + n }

/-- The messages in ordinary places. -/
def LinkIface.ordinaryQueued (l : LinkIface) : Nat := l.queue.countP fun m => decide (m.place = .ordinary)

/-- So many further places can be reserved (R166). -/
def LinkIface.canReserve (l : LinkIface) (n : Nat) : Bool :=
  decide (l.ordinaryQueued + l.reserved + n ≤ Config.ordinaryPlaces)

/-- The refusal place holds a message not yet sent. -/
def LinkIface.refusalTaken (l : LinkIface) : Bool := l.queue.any fun m => decide (m.place = .refusal)

/-- Answer through the refusal place, or discard the request and count it (R166). -/
def Part.sayRefusal (p : Part) (tag : Nat) (r : Result) (k : ReqKind) : Part :=
  if p.li.refusalTaken then p.modLi fun l => { l with unanswered := satAdd Config.count16 l.unanswered 1 }
  else p.say { replyMsg tag r k [] with place := .refusal }

/-! ### Arrival (R165) -/

/-- The messages a request owes (R166). -/
def owed (k : ReqKind) (hold : Bool) : Nat := if k.isLong && !hold then 2 else 1

/-- The tag set (R165). -/
def Part.tagBusy (p : Part) (tag : Nat) : Bool :=
  (p.tx.queue.any fun q => decide (q.tag = tag)) || (p.tx.txns.any fun t => decide (t.tag = tag))
    || (p.sv.mount.any fun m => decide (m.tag = tag)) || (p.sv.quiesce.any fun m => decide (m.tag = tag))
    || (p.sv.format.any fun m => decide (m.tag = tag)) || (p.sv.restore.any fun t => decide (t = tag))

/-- A FORMAT or a RESTORE is in progress: every other setup request is refused (R179, R184). -/
def Part.tablesBusy (p : Part) : Bool := p.sv.format.isSome || p.sv.restore.isSome

/-- Checks 3 to 5 of R165 in their order, up to the kind's own argument checks: the refusal, if one is due. -/
def Part.arrivalRefusal (p : Part) (k : ReqKind) (q : Req) (lenOk : Bool) : Option Result :=
  if k ≠ .cancel ∧ k ≠ .reset ∧ p.tagBusy q.tag then some .tagBusy
  else if p.resetting ∧ k ≠ .status ∧ k ≠ .reset then some .wrongState
  else if !lenOk then some .badArg
  else if k.isSetup && p.tablesBusy then some .wrongState
  else stateRefusal k p.sv.device

/-- The answer of a kind's own checks: a refusal with its body, or the part once the request is taken. -/
inductive Verdict where
  | refuse (r : Result) (items : List Item)
  | take (p : Part)
  deriving DecidableEq, Repr

/-- A request passes through the checks of R165; `own` makes the checks of the kind's own rule and carries the
request out. A refusal uses one of the places the request reserved (R166). -/
def Part.arrive (p : Part) (k : ReqKind) (q : Req) (hold : Bool) (lenOk : Bool) (own : Part → Verdict) : Part :=
  if p.li.canReserve (owed k hold) then
    match p.arrivalRefusal k q lenOk with
    | some r => p.say (replyMsg q.tag r k [])
    | none =>
      match own p with
      | .refuse r items => p.say (replyMsg q.tag r k items)
      | .take p' => p'
  else p.sayRefusal q.tag .queueFull k

/-! ### Frames lost and frames sent (R164, R166, R167) -/

/-- A Command Link frame is discarded (R164): it is counted, FRAME_ERR is raised, and the receiver hunts. -/
def Part.frameLost (p : Part) : Part :=
  (p.modLi fun l =>
    { l with frameErrors := satAdd Config.count16 l.frameErrors 1, rx := .hunting }).raise evFrameErr

/-- The oldest message has gone (R166): its place is free, a gathered set takes the freed NOTICE place (R167), and
the next message begins unless the part is silent (R185). -/
def LinkIface.sent (l : LinkIface) (silent : Bool) : LinkIface :=
  match l.queue with
  | [] => l
  | m :: rest =>
    if l.sending then
      let q := if m.isNotice && decide (l.gathered ≠ 0) then
          { l with queue := rest ++ [{ tag := 0, place := .notice, payload := .notice l.gathered }], gathered := 0 }
        else { l with queue := rest }
      { q with sending := !silent && !q.queue.isEmpty }
    else l

end Sys2Proof.Machine
end

