-- ==== Sys2Proof/Machine/Scoring.lean ====
section
/-! DEFINITION. Chapter 7: the rounded division, the score of a band and the choice of a victim. -/

namespace Sys2Proof.Machine

/-- The rounded division (R127, Table 7-2). -/
def roundDiv (m : RoundMode) (N D : Nat) : Nat :=
  let q0 := N / D
  let r := N % D
  match m with
  | .rnu => if D ≤ 2 * r then q0 + 1 else q0
  | .rne => if D < 2 * r ∨ (2 * r = D ∧ q0 % 2 = 1) then q0 + 1 else q0
  | .rdn => q0
  | .rod => if r ≠ 0 ∧ q0 % 2 = 0 then q0 + 1 else q0

/-- The quantities of the four stages (R128, R129). -/
structure Score where
  u : Nat
  N : Nat
  D : Nat
  raw : Nat
  score : Nat
  saturated : Bool
  deriving DecidableEq, Repr

/-- The score from the inputs of R125. -/
def scoreOf (m : RoundMode) (v w a W : Nat) : Score :=
  let u := min Config.fullUse (roundDiv m (v * 65536) w)
  let N := (Config.fullUse - u) * a * W
  let D := Config.fullUse + u
  let raw := roundDiv m N D
  { u := u, N := N, D := D, raw := raw, score := min Config.scoreCap raw, saturated := decide (Config.scoreCap < raw) }

/-- A band's age (R126). -/
def ageOf (hours closed : Nat) : Nat := min Config.ageCap (hours - closed)

/-- A band's weight (R125); for a band of no class, which is never a candidate, a free value (log 20). -/
def Part.weightOf (p : Part) (b : Nat) : Nat :=
  let r := p.band b
  if r.state = .suspect then Config.suspectWeight
  else if r.cls = 0 then Config.freeWeight b
  else (p.classRec r.cls).weight

/-- A band's score as the tables stand (R125 to R129). -/
def Part.score (p : Part) (b : Nat) : Score :=
  let r := p.band b
  scoreOf p.sc.mode r.valid r.wp (ageOf p.hours r.closedHour) (p.weightOf b)

/-- A class is in a set of classes (R176). -/
def inSet (s : ClassBits) (c : Nat) : Bool := s.getLsbD c

/-- A candidate for a set of victim classes (R124). -/
def Part.candidate (p : Part) (classes : ClassBits) (b : Nat) : Bool :=
  let r := p.band b
  decide ((r.state = .closed ∨ r.state = .suspect) ∧ 1 ≤ r.valid) && inSet classes r.cls

/-- The better of the choice so far and a candidate of a higher number (R131). -/
def Part.betterVictim (p : Part) (best : Option Nat) (b : Nat) : Option Nat :=
  match best with
  | none => some b
  | some a =>
    let sa := (p.score a).score
    let sb := (p.score b).score
    if sa < sb ∨ (sa = sb ∧ (p.band b).valid < (p.band a).valid) then some b else some a

/-- A selection (R124, R130, R131): the victim, and the part with the saturation flag. -/
def Part.selectVictim (p : Part) (classes : ClassBits) : Option Nat × Part :=
  let cands := (bandNumbers p.bm).filter (p.candidate classes)
  let sat := cands.any fun b => (p.score b).saturated
  (cands.foldl p.betterVictim none,
    if sat && !p.sc.saturated then (p.modSc fun s => { s with saturated := true }).raise evScoreSat else p)

end Sys2Proof.Machine
end

