-- ==== Sys2Proof/Machine/Channels.lean ====
section
/-! DEFINITION. Chapter 6 and the staged remaps of Chapter 3: triggers, services, copies, postings and their
settlement, and stops. Each handler is one report between blocks (log 4). -/

namespace Sys2Proof.Machine

def channels : List Nat := [0, 1, 2, 3]

/-! ### Triggers (R105 to R108) -/

/-- Set a channel's trigger flag (R106): not of a DISABLED channel, nor of one that is being stopped. -/
def Part.setFlag (p : Part) (c : Nat) : Part :=
  let k := p.chan c
  if k.state ≠ .disabled ∧ k.stop = none then (p.modChan c fun k => { k with flag := true }).note (.service c) else p

/-- A channel's level condition (R106); an edge source has none. -/
def Part.levelHolds (p : Part) (c : Nat) : Bool :=
  let s := p.setup c
  match s.source with
  | .stageHigh => p.demandHigh
  | .freeLow => decide (freeCount p.bm ≤ s.freeLow)
  | .hourCompare => decide (s.compareHour ≤ p.hours)
  | .software | .mediaIdle => false

/-- A channel that tries again at each input report while its condition holds (R106 case 4). -/
def Chan.retries (k : Chan) : Bool := decide (k.state = .stalled) || k.lastEmpty

/-- One channel's reaction to an input report (R106 cases 1 and 4). -/
def Part.levelReport (p : Part) (c : Nat) (old new : Bool) : Part :=
  if new && (!old || (p.chan c).retries) then p.setFlag c else p

/-- An input report to the channels of one source. -/
def Part.inputReport (p : Part) (src : TriggerSource) (old new : Nat → Bool) : Part :=
  channels.foldl (fun p c => if (p.setup c).source = src then p.levelReport c (old c) (new c) else p) p

/-- Set the flag of every STALLED channel (R115). -/
def Part.wakeStalled (p : Part) : Part :=
  channels.foldl (fun p c => if (p.chan c).state = .stalled then p.setFlag c else p) p

/-- The FREE count changed (R106, R115). -/
def Part.onFreeCount (p : Part) (old new : Nat) : Part :=
  let p := p.inputReport .freeLow (fun c => decide (old ≤ (p.setup c).freeLow))
    (fun c => decide (new ≤ (p.setup c).freeLow))
  if old < new then p.wakeStalled else p

/-- The destage demand level changed (R106). -/
def Part.onDemand (p : Part) (old new : Bool) : Part := p.inputReport .stageHigh (fun _ => old) (fun _ => new)

/-- An append, a tail advance or an in flight clearing (R106 case 4). -/
def Part.onLogInput (p : Part) : Part :=
  p.inputReport .stageHigh (fun _ => p.demandHigh) (fun _ => p.demandHigh)

/-- H advanced (R106, R182). -/
def Part.onHour (p : Part) (old new : Nat) : Part :=
  p.inputReport .hourCompare (fun c => decide ((p.setup c).compareHour ≤ old))
    (fun c => decide ((p.setup c).compareHour ≤ new))

/-- A channel is running (R105). -/
def Part.running (p : Part) (c : Nat) : Bool :=
  (p.setup c).enable && decide (p.sv.device = .online ∧ (p.chan c).stop = none)

/-- A media idle (R108, R141). -/
def Part.onMediaIdle (p : Part) : Part :=
  channels.foldl (fun p c => if (p.setup c).source = .mediaIdle ∧ p.running c then p.setFlag c else p) p

/-- A DISABLED channel that is to run becomes IDLE, and its level condition is evaluated (R105). -/
def Part.becomeIdle (p : Part) (c : Nat) : Part :=
  if p.running c ∧ (p.chan c).state = .disabled then
    let q := (p.modChan c fun k => { k with state := .idle }).note .destagers
    if q.levelHolds c then q.setFlag c else q
  else p

/-! ### Services (R109, R110) -/

/-- The compare hour after a service of an HOUR_COMPARE channel (R107). -/
def nextCompare (s : ChanSetup) : ChanSetup :=
  if s.source = .hourCompare then { s with compareHour := min Config.hourCap (s.compareHour + s.period) } else s

/-- The end of a service (R109). `noBand` says that it ended for want of a band. -/
def Part.endService (p : Part) (c : Nat) (noBand : Bool) : Part :=
  let p := p.modSetup c nextCompare
  let moved := decide (0 < (p.chan c).amount)
  let flag := (p.chan c).flag || (moved && p.levelHolds c)
  let p := p.modChan c fun k =>
    { k with flag := flag, lastEmpty := !moved, copy := none, work := none,
             state := if noBand then .stalled else .idle }
  if noBand then p.raise evChannelStall else if flag then p.note (.service c) else p

/-- A stop completes (R121). -/
def Part.completeStop (p : Part) (c : Nat) : Part :=
  let p := match (p.chan c).owned with
    | some b => (p.park b .cont).2
    | none => p
  let p := match (p.chan c).victim with
    | some b => p.returnVictim b
    | none => p
  let p := p.modChan c fun k =>
    { k with state := .disabled, stop := none, owned := none, victim := none, resume := .none, amount := 0,
             copy := none, work := none, toJoin := [] }
  (p.note .drain).becomeIdle c

/-! ### Pieces and remaps (R57 to R61, R112 to R114) -/

/-- Change a piece of a channel's copy. -/
def Part.modPiece (p : Part) (c i : Nat) (f : CopyPiece → CopyPiece) : Part :=
  p.modChan c fun k => { k with copy := k.copy.map fun y => { y with pieces := modAt y.pieces i f } }

/-- A piece is abandoned (R114): its blocks are dead, and the rest of the copy is not written. -/
def Part.abandonPiece (p : Part) (c i : Nat) : Part :=
  match (p.chan c).copy.bind fun y => y.pieces[i]? with
  | some q =>
    (((p.modPiece c i fun x => { x with state := .abandoned }).modChan c fun k =>
      { k with copy := k.copy.map fun y => { y with cutShort := true } }).landBand q.band).note (.copy c)
  | none => p

/-- The piece of a copy that waits to be posted. -/
def Copy.waitingPiece (y : Copy) : Option Nat := y.pieces.findIdx? fun q => decide (q.state = .waiting)

/-- A stop begins (R121). -/
def Part.beginStop (p : Part) (c : Nat) (cause : StopCause) : Part :=
  let k := p.chan c
  if k.state = .disabled then p
  else if k.stop.isSome then p.modChan c fun k => { k with stop := some cause }
  else
    let p := (p.modChan c fun k => { k with stop := some cause, flag := false }).note .destagers
    match k.state, k.copy with
    | .move, some y => match y.waitingPiece with
      | some i => p.abandonPiece c i
      | none => p
    | _, _ => p.completeStop c

/-- The part after a remap's settlement (R60, R61): the record is gone, the counts and the reserve have fallen, and
the channel has been told. -/
def Part.settleRemap (p : Part) (r : Remap) (applied : Option Nat) : Part :=
  let p := p.modTu fun t =>
    { t with remaps := t.remaps.filter fun x => !decide (x.dstBand = r.dstBand ∧ x.dstOff = r.dstOff) }
  let p := p.releaseReserve Config.remapReserve
  let p := p.dropCount r.dstBand fun b =>
    { b with pendingRemaps := b.pendingRemaps - 1, inFlight := b.inFlight - 1 }
  let p := match r.src with
    | .band b _ => p.dropCount b fun x => { x with pendingRemaps := x.pendingRemaps - 1 }
    | .log pos => p.unholdRuns pos r.len
  let p := match applied, r.src with
    | some n, .log _ => p.count r.cls (Tally.addDestaged n)
    | some n, .band _ _ => p.count r.cls (Tally.addReclaimed n)
    | none, _ => p
  let told : CopyPieceState := if applied.isSome then .applied else .discarded
  let mine (q : CopyPiece) := decide (q.band = r.dstBand ∧ q.dst = r.dstOff ∧ q.state = .posted)
  let p := p.modChan r.chan fun k => { k with copy := k.copy.map fun y =>
    { y with pieces := modWhere mine (fun q => { q with state := told }) y.pieces } }
  p.note (.copy r.chan)

/-- The items that apply a remap (R60). -/
def applyItems (l : List Extent) (r : Remap) : List MapItem :=
  (exactCheck l r.lba r.len r.src).map fun s =>
    { start := s.start, len := s.len, place := some (.band r.dstBand (r.dstOff + (s.start - r.lba))) }

/-- Apply a remap (R60): at once where nothing is left to apply, else when its update is durable. -/
def Part.applyRemap (p : Part) (r : Remap) : Part :=
  let items := applyItems p.tu.extents r
  if items.isEmpty then p.settleRemap r (some 0)
  else
    ((p.mapUpdate items).2.modRemap r.dstBand r.dstOff fun x =>
      { x with applying := true, applied := sumOf MapItem.len items }).follow (.remap r.dstBand r.dstOff)

/-- The test for settlement (R59). -/
def Part.settleTest (p : Part) (r : Remap) : Part :=
  if r.applying then p
  else if r.failed then (if r.orders = 0 then p.settleRemap r none else p)
  else if r.closed then
    (if r.orders = 0 then (if r.joined then p.applyRemap r else p.settleRemap r none) else p)
  else p

/-- Every posted remap is tested after an event on one of them. -/
def Part.settleTests (p : Part) : Part := p.tu.remaps.foldl Part.settleTest p

/-- The remap of an applied update is settled when the update is durable (R60). -/
def Part.settleApplied (p : Part) (b off : Nat) : Part :=
  match p.tu.remaps.find? fun r => decide (r.dstBand = b ∧ r.dstOff = off) && r.applying with
  | some r => p.settleRemap r (some r.applied)
  | none => p

/-- The media orders of a range, one for each run (R111, R112, R154, R171). -/
def Part.ordersFor (p : Part) (op : Op) (w : Owner) (pl : Place) (len cls handle bufBase lba piece attempt : Nat)
    (retry : Bool) (update : Nat) : List Order :=
  (cut p.bm pl len).map fun r =>
    { id := 0, op := op, track := r.track, sector := r.sector, dir := r.dir, count := r.count, place := r.place,
      handle := handle, bufOff := bufBase + r.pieceOff, owner := w, cls := cls, state := .queued,
      timer := .stopped, lba := lba + r.pieceOff, piece := piece, attempt := attempt, retry := retry,
      update := update }

/-- The orders of a destination piece (R112, R150). -/
def Part.pieceOrders (p : Part) (op : Op) (c i : Nat) (y : Copy) (q : CopyPiece) : List Order :=
  p.ordersFor op (.chan c) (.band q.band q.dst) q.len y.cls (p.setup c).handle q.off (y.lba + q.off) i 0 false q.update

/-- Some order of a piece of a channel's copy has still to join, or is in the queue. -/
def Part.pieceBusy (p : Part) (c i : Nat) (op : Op) : Bool :=
  ((p.chan c).toJoin ++ p.mp.orders.filter fun o => decide (o.owner = .chan c)).any fun o =>
    decide (o.piece = i ∧ o.op = op)

/-- Close the remap of a piece when its last order has been queued (R113). -/
def Part.closePiece (p : Part) (c i : Nat) : Part :=
  match (p.chan c).copy with
  | none => p
  | some y =>
    match y.pieces[i]? with
    | none => p
    | some q =>
      if q.state = .posted ∧ (q.verifying = true ∨ y.verify = false)
          ∧ !((p.chan c).toJoin.any fun o => decide (o.piece = i)) then
        p.modRemap q.band q.dst fun r => { r with closed := true }
      else p

/-- Close every remap whose last order has been queued. -/
def Part.closePieces (p : Part) (c : Nat) : Part :=
  match (p.chan c).copy with
  | some y => (List.range y.pieces.length).foldl (fun p i => p.closePiece c i) p
  | none => p

/-- The posting of a piece is accepted (R58). -/
def Part.postRemap (p : Part) (c : Nat) (y : Copy) (q : CopyPiece) : Part :=
  let src := y.src.shift q.off
  let p := p.modTu fun t => { t with remaps := t.remaps ++ [{
    chan := c, lba := y.lba + q.off, len := q.len, src := src, dstBand := q.band, dstOff := q.dst, failed := false,
    closed := false, orders := 0, joined := false, applying := false, applied := 0, cls := y.cls }] }
  let p := p.takeReserve Config.remapReserve
  let p := p.modBand q.band fun b => { b with pendingRemaps := b.pendingRemaps + 1 }
  match src with
  | .band b _ => p.modBand b fun x => { x with pendingRemaps := x.pendingRemaps + 1 }
  | .log pos => p.holdRuns pos q.len

/-- Post a waiting piece, and queue its writes; or keep it waiting, or abandon it (R58, R112, R114). A piece whose
posting is refused after a stop has begun waits and is posted again like any other (R121). DESIGN CHOICE, log 46. -/
def Part.postPiece (p : Part) (c i : Nat) : Part :=
  match (p.chan c).copy with
  | none => p
  | some y =>
    match y.pieces[i]? with
    | none => p
    | some q =>
      if Config.remapCap ≤ p.tu.remaps.length then p
      else if !p.canTake Config.remapReserve then
        (if p.tx.txns.isEmpty ∧ p.tu.remaps.isEmpty then p.abandonPiece c i else p)
      else
        let p := (p.postRemap c y q).modPiece c i fun x => { x with state := .posted }
        let p := (p.joinOrders (.chan c) (p.pieceOrders .write c i y q)).closePieces c
        (if y.placed < y.len then p.note (.piece c) else p).note (.copy c)

/-- The next destination piece (R112 steps 1 and 2), then its posting. -/
def Part.nextPiece (p : Part) (c : Nat) : Part :=
  match (p.chan c).copy with
  | none => p
  | some y =>
    let cls := if (p.setup c).destClass = 0 then y.cls else (p.setup c).destClass
    let short (p : Part) := (p.modChan c fun k =>
      { k with copy := k.copy.map fun y => { y with noBand := true } }).note (.copy c)
    match p.bandRequest (.chan c) cls with
    | (none, p) => short p
    | (some b, p) =>
      let r := p.reserve (.chan c) b (y.len - y.placed)
      if r.2.1 = 0 then short r.2.2
      else
        let q : CopyPiece := { off := y.placed, len := r.2.1, band := b, dst := r.1, update := p.thisUpdate,
                               state := .waiting, verifying := false }
        (r.2.2.modChan c fun k => { k with copy := k.copy.map fun y =>
          { y with placed := y.placed + r.2.1, pieces := y.pieces ++ [q] } }).postPiece c y.pieces.length

/-! ### Copies (R111, R113) -/

/-- Start a copy of a range from a source (R111). Its verify attribute is resolved here (R113). DESIGN CHOICE,
log 44. -/
def Part.startCopy (p : Part) (c lba len : Nat) (src : Place) (cls : Nat) : Part :=
  let y : Copy := { phase := .reading, lba := lba, len := len, src := src, cls := cls,
                    verify := verifyOn (p.regionAttrs lba).verify, readFailed := false, placed := 0, pieces := [],
                    noBand := false, cutShort := false }
  let p := p.modChan c fun k => { k with copy := some y }
  (p.joinOrders (.chan c)
    (p.ordersFor .read (.chan c) src len cls (p.setup c).handle 0 lba 0 0 false p.thisUpdate)).note (.copy c)

/-- The blocks of the done pieces before the first that is not done (R113). -/
def doneLen : List CopyPiece → Nat
  | [] => 0
  | q :: qs => if q.state = .applied then q.len + doneLen qs else 0

/-- The resume point after a copy whose first `done` blocks need not be copied again (R111, R113, R116, R119). -/
def Chan.resumeAfter (k : Chan) (y : Copy) (done : Nat) : Resume :=
  match k.work, k.victim with
  | some w, _ => .destage w.pos (y.lba + done - w.start)
  | none, some b => .reclaim b (y.lba + done)
  | none, none => k.resume

/-- The service goes on after a copy, or ends by its amount (R110). -/
def Part.afterCopy (p : Part) (c : Nat) : Part :=
  let k := p.chan c
  match k.mode with
  | .single => p.endService c false
  | .successive => if k.count ≤ k.amount then p.endService c false else p.note (.move c)
  | .batch => p.note (.move c)

/-- A copy ends (R111, R113, R115, R121). -/
def Part.endCopy (p : Part) (c : Nat) (y : Copy) : Part :=
  let done := if y.readFailed then y.len else doneLen y.pieces
  let whole := y.readFailed || decide (done = y.len)
  let p := p.modChan c fun k =>
    { k with amount := k.amount + y.len, resume := k.resumeAfter y done, copy := none }
  if (p.chan c).stop.isSome then p.completeStop c
  else if y.noBand then p.endService c true
  else if whole then p.afterCopy c
  else p.endService c false

/-- A piece has settled (R113). -/
def CopyPiece.settled (q : CopyPiece) : Bool :=
  decide (q.state = .applied ∨ q.state = .discarded ∨ q.state = .abandoned)

/-- How far a copy is: its read phase ends when no READ is left, and the copy ends when all it placed has settled
(R111, R113). -/
def Part.copyCheck (p : Part) (c : Nat) : Part :=
  match (p.chan c).copy with
  | none => p
  | some y =>
    if !(p.chan c).toJoin.isEmpty || decide (0 < p.outstanding (.chan c)) then p
    else
      match y.phase with
      | .reading =>
        if y.readFailed then p.endCopy c y
        else (p.modChan c fun k => { k with copy := some { y with phase := .writing } }).note (.piece c)
      | .writing =>
        if y.pieces.all CopyPiece.settled && (decide (y.placed = y.len) || y.noBand || y.cutShort) then p.endCopy c y
        else p

/-- One more piece of a copy that is being written, unless a piece waits to be posted (R112, R114). -/
def Part.pieceStep (p : Part) (c : Nat) : Part :=
  match (p.chan c).copy with
  | none => p
  | some y =>
    if y.phase = .writing ∧ y.placed < y.len ∧ !y.noBand ∧ !y.cutShort ∧ y.waitingPiece = none then p.nextPiece c
    else p

/-! ### Reports on a channel's orders (R111, R113) -/

/-- A failed READ run is read again once, at the back of the lane; a second failure is the failure of the copy's
read (R111). -/
def Part.rereadRun (p : Part) (c : Nat) (o : Order) : Part :=
  match (p.chan c).copy with
  | none => p
  | some y =>
    if y.readFailed then p
    else if o.retry then
      (p.setToJoin (.chan c) []).modChan c fun k => { k with copy := some { y with readFailed := true } }
    else p.joinList (.chan c) ({ o with retry := true } :: (p.chan c).toJoin)

/-- A WRITE or VERIFY of a piece failed (R59, R113): the remap is FAILED and closed, and no further order of the
piece is queued. -/
def Part.failPiece (p : Part) (c : Nat) (o : Order) : Part :=
  (p.setToJoin (.chan c) ((p.chan c).toJoin.filter fun x => decide (x.piece ≠ o.piece))).modOrderRemap o fun r =>
    { r with failed := true, closed := true }

/-- The VERIFY orders of a piece are queued once every WRITE of it has reported OK (R113, R150). -/
def Part.verifyPiece (p : Part) (c i : Nat) : Part :=
  match (p.chan c).copy with
  | none => p
  | some y =>
    match y.pieces[i]? with
    | none => p
    | some q =>
      let good := p.tu.remaps.any fun r => decide (r.dstBand = q.band ∧ r.dstOff = q.dst) && !r.failed
      if y.verify && !q.verifying && good && !p.pieceBusy c i .write then
        (p.modPiece c i fun x => { x with verifying := true }).joinOrders (.chan c) (p.pieceOrders .verify c i y q)
      else p

/-- An order of a channel has left the queue with a status (R111, R113). -/
def Part.chanReport (p : Part) (c : Nat) (o : Order) (st : ReportStatus) : Part :=
  let p := p.modOrderRemap o fun r => { r with orders := r.orders - 1 }
  let p := match o.op, st with
    | .read, .ok => p
    | .read, _ => p.rereadRun c o
    | _, .ok => p.verifyPiece c o.piece
    | _, _ => p.failPiece c o
  ((p.closePieces c).settleTests).note (.copy c)

/-- An order of a channel has timed out (R111, R113, R144). -/
def Part.chanTimeout (p : Part) (c : Nat) (o : Order) : Part :=
  let p := match o.op with
    | .read => if o.retry then p.rereadRun c o else p
    | _ => p.failPiece c o
  (p.settleTests).note (.copy c)

/-- A CANCELLING order of a channel has left the queue (R111, R145). -/
def Part.chanGone (p : Part) (c : Nat) (o : Order) : Part :=
  let p := p.modOrderRemap o fun r => { r with orders := r.orders - 1 }
  let p := match o.op with
    | .read => if o.retry then p else p.rereadRun c o
    | _ => p
  ((p.closePieces c).settleTests).note (.copy c)

/-- A channel joins its waiting orders again (R136). -/
def Part.chanRejoin (p : Part) (c : Nat) : Part :=
  (((p.joinOrders (.chan c) []).closePieces c).settleTests).note (.copy c)

/-! ### The handlers of a service (R109, R116, R118 to R120) -/

/-- A service starts (R109). -/
def Part.startService (p : Part) (c : Nat) : Part :=
  let k := p.chan c
  if (k.state = .idle ∨ k.state = .stalled) ∧ k.flag then
    (p.modChan c fun k =>
      { k with flag := false, amount := 0, mode := (p.setup c).mode, count := (p.setup c).count, state := .select
               work := none }).note (.select c)
  else p

/-- The position a DESTAGE channel's resume point names (R116). -/
def Resume.named : Resume → Option Nat
  | .destage pos _ => some pos
  | _ => Option.none

/-- The offset the resume point gives in a record (R116). -/
def Resume.offsetIn (r : Resume) (pos : Nat) : Nat :=
  match r with
  | .destage q off => if q = pos then off else 0
  | _ => 0

/-- The selection of a service (R116, R118). -/
def Part.selectSource (p : Part) (c : Nat) : Part :=
  let k := p.chan c
  match (p.setup c).job with
  | .destage =>
    match p.destageWork k.resume.named with
    | none => (p.modChan c fun k => { k with resume := .none, state := .settle }).endService c false
    | some r =>
      (p.modChan c fun k =>
        { k with work := some { pos := r.pos, len := r.len, start := r.start, cls := r.cls }, state := .move }).note
          (.move c)
  | .reclaim =>
    match k.victim with
    | some _ => (p.modChan c fun k => { k with state := .move }).note (.move c)
    | none =>
      match p.selectVictim (p.setup c).victims with
      | (none, p) => p.endService c false
      | (some b, p) =>
        ((p.takeVictim b).modChan c fun k =>
          { k with victim := some b, resume := .reclaim b 0, state := .move }).note (.move c)

/-- The longest copy a service may make now (R110). -/
def Chan.copyLimit (k : Chan) : Nat :=
  match k.mode with
  | .successive => min Config.copyLen (k.count - k.amount)
  | _ => Config.copyLen

/-- The next copy of a DESTAGE service, or the end of its record (R116). -/
def Part.moveDestage (p : Part) (c : Nat) (w : DestageRec) : Part :=
  let k := p.chan c
  let o := k.resume.offsetIn w.pos
  match exactCheck p.tu.extents (w.start + o) (w.len - o) (.log (w.pos + o)) with
  | s :: _ => p.startCopy c s.start (min s.len k.copyLimit) (.log (w.pos + (s.start - w.start))) w.cls
  | [] =>
    let p := p.modChan c fun k => { k with resume := .destage ((w.pos + w.len) % stgCap p.bm) 0, work := none }
    match k.mode with
    | .batch => p.endService c false
    | _ => (p.modChan c fun k => { k with state := .select }).note (.select c)

/-- The cursor of a RECLAIM channel (R104). -/
def Resume.cursor : Resume → Nat
  | .reclaim _ c => c
  | _ => 0

/-- The next copy of a RECLAIM service, or the end of its scan (R119). -/
def Part.moveReclaim (p : Part) (c b : Nat) : Part :=
  let k := p.chan c
  match bandScan p.tu.extents b k.resume.cursor k.copyLimit with
  | some (s, n, off) => p.startCopy c s n (.band b off) (p.band b).cls
  | none => (p.modChan c fun k => { k with state := .settle }).note (.settle c)

/-- A channel in MOVE with no copy makes the next one (R111, R116, R119). -/
def Part.moveOn (p : Part) (c : Nat) : Part :=
  let k := p.chan c
  if k.state = .move ∧ k.copy.isNone then
    if k.stop.isSome then p.completeStop c
    else match k.work, k.victim with
      | some w, _ => p.moveDestage c w
      | none, some b => p.moveReclaim c b
      | none, none => p.endService c false
  else p

/-- A RECLAIM channel in SETTLE examines its victim (R120). -/
def Part.settleCheck (p : Part) (c : Nat) : Part :=
  let k := p.chan c
  let finish (p : Part) := (p.modChan c fun k => { k with victim := none, resume := .none }).endService c false
  match k.state, k.victim with
  | .settle, some b =>
    if 0 < (p.band b).valid then finish (p.returnVictim b)
    else if (p.band b).releasable then finish (p.rewind b)
    else p
  | _, _ => p

/-- BM reports a change of a count of a RECLAIMING band to its channel (R120). -/
def Part.onVictim (p : Part) (b : Nat) : Part :=
  channels.foldl (fun p c => if (p.chan c).victim = some b then p.settleCheck c else p) p

/-- The selection, unless the service has been overtaken (R109). -/
def Part.selectStep (p : Part) (c : Nat) : Part :=
  if (p.chan c).state = .select then
    (if (p.chan c).stop.isSome then p.completeStop c else p.selectSource c)
  else p

/-! ### Resets (R105, R123) -/

/-- Every channel's state record takes the values of Table 6-2 (R123). -/
def Part.clearChannels (p : Part) : Part := p.modRe fun r => { r with chans := List.replicate 4 Chan.blank }

/-- The channels that are to run become IDLE at an entry to ONLINE (R105). -/
def Part.startChannels (p : Part) : Part := channels.foldl Part.becomeIdle p

/-- A stop is given to every channel that is not DISABLED (R181, R184). -/
def Part.stopChannels (p : Part) (cause : StopCause) : Part := channels.foldl (fun p c => p.beginStop c cause) p

end Sys2Proof.Machine
end

