-- ==== Sys2Proof/Machine/Streams.lean ====
section
/-! DEFINITION. The Stream Unit (Chapter 4): the decision and the division of a PLACE, retries, idle expiry and
closing. -/

namespace Sys2Proof.Machine

/-- A stream number that names a context (R71). -/
def isStream (i : Nat) : Bool := decide (1 ≤ i ∧ i ≤ 16)

/-- A PLACE is streamed when it names a stream that is not FREE (R75). -/
def Part.streamed (p : Part) (i : Nat) : Bool := isStream i && decide ((p.stream i).state ≠ .free)

/-- The attributes of a PLACE (R69). -/
def Part.resolve (p : Part) (a : PlaceArgs) : Attrs :=
  let base := p.regionAttrs a.start
  let withStream := if p.streamed a.stream then
      base.layered (p.stream a.stream).cls (p.stream a.stream).tail (p.stream a.stream).verify
    else base
  withStream.layered a.cls a.tail a.verify

/-- A streamed PLACE goes direct (R76). -/
def Part.goesDirect (p : Part) (a : PlaceArgs) : Bool :=
  match (p.stream a.stream).nextLba with
  | none => true
  | some x => decide (a.start = x ∨ Config.reaimLen ≤ a.len)

/-- A reserved piece of a division (R77). -/
structure BandPiece where
  lba : Nat
  len : Nat
  band : Nat
  off : Nat
  deriving DecidableEq, Repr

/-- A division in progress (R77): the pieces so far, the first block not yet placed, and how many remain. -/
structure Division where
  pieces : List BandPiece
  lba : Nat
  left : Nat
  starved : Bool
  deriving DecidableEq, Repr

/-- A stream is left owning no band and STARVED (R77 step 3, R81). -/
def Part.starve (p : Part) (i : Nat) : Part := p.modStream i fun s => { s with state := .starved, band := none }

/-- The steps of R77, with as much fuel as band pieces may still be made. -/
def Part.divideSteps (i cls : Nat) : Nat → Part → Division → Division × Part
  | 0, p, d => (d, p)
  | fuel + 1, p, d =>
    if d.left = 0 then (d, p)
    else match p.bandRequest (.stream i) cls with
      | (none, p) => ({ d with starved := true }, p.starve i)
      | (some b, p) =>
        let r := p.reserve (.stream i) b d.left
        if r.2.1 = 0 then ({ d with starved := true }, r.2.2.starve i)
        else Part.divideSteps i cls fuel r.2.2
          { d with pieces := d.pieces ++ [{ lba := d.lba, len := r.2.1, band := b, off := r.1 }],
                   lba := d.lba + r.2.1, left := d.left - r.2.1 }

/-- The division of a direct PLACE (R77), and none of it for a PLACE that is staged whole (R75, R76). -/
def Part.divide (p : Part) (a : PlaceArgs) (cls : Nat) : Division × Part :=
  let d : Division := { pieces := [], lba := a.start, left := a.len, starved := false }
  if p.streamed a.stream && p.goesDirect a then Part.divideSteps a.stream cls Config.pieceCap p d else (d, p)

/-- Next LBA after an admission (R80). -/
def nextLbaAfter (old : Option Nat) (a : PlaceArgs) (d : Division) : Option Nat :=
  if !d.pieces.isEmpty || (d.starved && decide (old = some a.start)) then some (a.start + a.len) else old

/-- The idle timer after an admission (R83). -/
def idleAfter (limit : Nat) (old : Timer) : Timer := if limit = 0 then old else Timer.start limit

/-- What an admission does to the stream context of a streamed PLACE, beside the division (R80, R82, R83). -/
def Part.streamAdmitted (p : Part) (a : PlaceArgs) (at_ : Attrs) (d : Division) : Part :=
  if p.streamed a.stream then
    p.modStream a.stream fun s => { s with
      nextLba := nextLbaAfter s.nextLba a d
      park := if d.pieces.isEmpty then s.park else tailOf at_.tail
      idle := idleAfter s.idleLimit s.idle }
  else p

/-- The fresh position of a failed band piece, if one is placed (R81, R82). -/
def Part.streamRetry (p : Part) (i cls len : Nat) (tail : TailPolicy) : Option Nat × Nat × Part :=
  match p.bandRequest (.stream i) cls with
  | (none, p) => (none, 0, p.starve i)
  | (some b, p) =>
    if room p.bm b < len then (none, 0, p)
    else
      let r := p.reserve (.stream i) b len
      (some b, r.1, r.2.2.modStream i fun s => { s with park := tail })

/-- The idle limit as stored (R73). -/
def storedIdle (v : Nat) : Nat := if v = 0 then 0 else clamp 10 3600000 v

/-- Open a FREE stream (R73). -/
def Part.openStream (p : Part) (i cls tail verify idle : Nat) : Part :=
  p.modStream i fun _ =>
    { Stream.blank with state := .dormant, cls := cls, tail := tail, verify := verify, idleLimit := storedIdle idle }

/-- Close a stream (R74): the band parked if there was one, the pad blocks, and the part. -/
def Part.closeStream (p : Part) (i : Nat) : Option Nat × Nat × Part :=
  let s := p.stream i
  match s.state, s.band with
  | .active, some b =>
    let r := p.parkTallied b s.park
    (some b, r.1, r.2.modStream i fun _ => Stream.blank)
  | .free, _ => (none, 0, p)
  | _, _ => (none, 0, p.modStream i fun _ => Stream.blank)

/-- The idle timer of a stream expires (R84). -/
def Part.streamExpired (p : Part) (i : Nat) : Part :=
  let s := p.stream i
  if s.idle.due then
    let p := p.modStream i fun s => { s with idle := .stopped }
    match s.state, s.band with
    | .active, some b => (p.parkTallied b s.park).2.modStream i fun s => { s with state := .dormant, band := none }
    | _, _ => p
  else p

end Sys2Proof.Machine
end

