-- ==== Sys2Proof/Machine/Transactions.lean ====
section
/-! DEFINITION. The Transaction Unit (R168 to R174) and retrieval (Chapter 9): admission, reports, retries and ends. -/

namespace Sys2Proof.Machine

/-! ### Ends (R155, R170, R173) -/

/-- The kind of a transaction. -/
def Txn.kind (t : Txn) : ReqKind := t.req.kind

/-- The stream a request names (R74). -/
def DataReq.stream : DataReq → Option Nat
  | .place a => if isStream a.stream then some a.stream else none
  | _ => none

/-- Some live transaction names a stream (R74). -/
def Part.streamLive (p : Part) (i : Nat) : Bool := p.tx.txns.any fun t => decide (t.req.stream = some i)

/-- A stream without live transactions is closed in QUIESCING (R181). -/
def Part.quiesceClose (p : Part) (i : Nat) : Part :=
  match p.sv.quiesce with
  | some w =>
    if (p.stream i).state ≠ .free ∧ p.streamLive i = false then
      ((p.closeStream i).2.2.modSv fun v => { v with quiesce := some { w with closed := w.closed + 1 } }).note .drain
    else p
  | none => p

/-- A transaction ends: its record, reserve and tag are released and its answer is queued (R170). -/
def Part.endTxn (p : Part) (t : Txn) (r : Result) (items : List Item) : Part :=
  let p := p.modTx fun x => { x with txns := x.txns.filter fun y => decide (y.tag ≠ t.tag) }
  let p := p.releaseReserve t.reserve
  let p := p.sayHeld (finalMsg t.kind t.hold t.tag r items)
  let p := match t.req.stream with
    | some i => p.quiesceClose i
    | none => p
  p.note .drain

/-- The body of an outcome other than OK: the failing LBA, where there is one (R157, R173). -/
def failItems (t : Txn) : List Item :=
  match t.failLba with
  | some x => [item 5 x]
  | none => []

/-! ### The pieces of a PLACE (R171 to R173) -/

/-- The orders of a piece at its present position. -/
def Part.placeOrders (p : Part) (op : Op) (t : Txn) (a : PlaceArgs) (i : Nat) (c : Piece) : List Order :=
  p.ordersFor op (.txn t.tag) c.pos.place c.len t.cls a.handle (c.lba - a.start) c.lba i
    (if c.old.isSome then 1 else 0) false c.pos.update

/-- Orders of a transaction in the queue that belong to one position of a piece. -/
def Part.positionBusy (p : Part) (tag i attempt : Nat) : Bool :=
  p.mp.orders.any fun o => decide (o.owner = .txn tag ∧ o.piece = i ∧ o.attempt = attempt)

def Part.modPlacePiece (p : Part) (tag i : Nat) (f : Piece → Piece) : Part :=
  p.modTxn tag fun t => { t with pieces := modAt t.pieces i f }

/-- The number of the present position among a piece's positions. -/
def Piece.attempt (c : Piece) : Nat := if c.old.isSome then 1 else 0

/-- The write of a piece's failed first position ends once no order of it is left (R31, R91, R172). -/
def Part.landOld (p : Part) (tag i : Nat) (c : Piece) : Part :=
  match c.old with
  | some q =>
    if !q.ended && !p.positionBusy tag i 0 then
      (p.modPlacePiece tag i fun x => { x with old := some { q with ended := true } }).land q.place c.len
    else p
  | none => p

/-- The write of a piece's present position ends once no order of it is left. -/
def Part.landNew (p : Part) (tag i : Nat) (c : Piece) : Part :=
  if !c.pos.ended && !p.positionBusy tag i c.attempt then
    (p.modPlacePiece tag i fun x => { x with pos := { x.pos with ended := true } }).land c.pos.place c.len
  else p

/-- The writes that end once no order of their position is left: those of failed first positions, and in CANCELLING
all of them (R31, R91, R172, R173). -/
def Part.landPositions (p : Part) (tag : Nat) : Part :=
  match p.txn tag with
  | none => p
  | some t =>
    let p := t.pieces.zipIdx.foldl (fun p x => p.landOld tag x.2 x.1) p
    if t.outcome.isSome then t.pieces.zipIdx.foldl (fun p x => p.landNew tag x.2 x.1) p else p

/-- Fix an outcome other than OK (R157, R172, R174): every QUEUED order is withdrawn, and what has still to join
is dropped. -/
def Part.fixOutcome (p : Part) (tag : Nat) (r : Result) (lba : Option Nat) : Part :=
  let p := p.modTxn tag fun t => { t with outcome := some r, failLba := lba, retries := [] }
  ((p.setToJoin (.txn tag) []).modMp fun m =>
    { m with waiting := without m.waiting (.txn tag), told := without m.told (.txn tag) }).withdraw fun o =>
      decide (o.owner = .txn tag)

/-- The fresh position of a failed piece, if it is placed (R81, R92, R172). -/
def Part.retryPosition (p : Part) (t : Txn) (a : PlaceArgs) (c : Piece) : Option Place × Part :=
  match c.pos.place with
  | .band _ _ =>
    match p.streamRetry a.stream t.cls c.len t.tail with
    | (some b, off, p) => (some (.band b off), p)
    | (none, _, p) => (none, p)
  | .log _ =>
    match p.stagedRetry c.len c.lba t.cls with
    | some (pos, p) => (some (.log pos), p)
    | none => (none, p)

/-- The outcome of a second failure (R172). -/
def failOutcome (timeout : Bool) : Result := if timeout then .timeout else .mediaError

/-- A failure of a piece's position (R172): its QUEUED orders are withdrawn and it is retried once, or the outcome
of the PLACE is fixed. `lba` is the failing LBA the order gives. -/
def Part.pieceFailed (p : Part) (t : Txn) (a : PlaceArgs) (i : Nat) (c : Piece) (timeout : Bool) (lba : Nat) : Part :=
  let tag := t.tag
  let p := p.setToJoin (.txn tag) ((p.toJoin (.txn tag)).filter fun o => decide (o.piece ≠ i))
  let p := p.withdraw fun o => decide (o.owner = .txn tag ∧ o.piece = i)
  if c.retryUsed then p.fixOutcome tag (failOutcome timeout) (some lba)
  else
    let p := p.landNew tag i c
    let ended := !p.positionBusy tag i c.attempt
    match p.retryPosition t a c with
    | (some pl, p) =>
      let fresh : Piece := { c with pos := { place := pl, update := p.thisUpdate, ended := false },
                                    old := some { c.pos with ended := ended }, retryUsed := true,
                                    verifying := false, succeeded := false }
      (p.modPlacePiece tag i fun _ => fresh).joinOrders (.txn tag) (p.placeOrders .write t a i fresh)
    | (none, p) => p.fixOutcome tag (failOutcome timeout) (some c.lba)

/-- A piece has no order of an operation left, in the queue or still to join. -/
def Part.pieceDone (p : Part) (t : Txn) (i attempt : Nat) : Bool :=
  !p.positionBusy t.tag i attempt && !((p.toJoin (.txn t.tag)).any fun o => decide (o.piece = i))

/-- An order of a piece's present position reported OK (R171): with the last of them the piece has succeeded, or
its VERIFY orders are queued. -/
def Part.pieceOk (p : Part) (t : Txn) (a : PlaceArgs) (i : Nat) (c : Piece) : Part :=
  if p.pieceDone t i c.attempt then
    if t.verify && !c.verifying then
      (p.modPlacePiece t.tag i fun x => { x with verifying := true }).joinOrders (.txn t.tag)
        (p.placeOrders .verify t a i c)
    else p.modPlacePiece t.tag i fun x => { x with succeeded := true }
  else p

/-- The items of a PLACE's map update (R173). -/
def Txn.mapItems (t : Txn) : List MapItem :=
  t.pieces.map fun c => { start := c.lba, len := c.len, place := some c.pos.place }

/-- A PLACE whose pieces have all succeeded, with no order left (R173). -/
def Part.readyToMap (p : Part) (t : Txn) : Bool :=
  decide (t.kind = .place) && !t.ended && t.outcome.isNone && (t.pieces.all Piece.succeeded) && t.toJoin.isEmpty
    && decide (p.outstanding (.txn t.tag) = 0)

/-- The map update of a PLACE, if it is due (R173). -/
def Part.placeMap (p : Part) (tag : Nat) : Part :=
  match p.txn tag with
  | some t =>
    if p.readyToMap t then
      ((p.mapUpdate t.mapItems).2.modTxn tag fun x => { x with ended := true }).follow (.place tag)
    else p
  | none => p

/-- A transaction in CANCELLING with no order left ends (R155, R173). -/
def Part.cancellingEnd (p : Part) (tag : Nat) : Part :=
  match p.txn tag with
  | some t =>
    match t.outcome with
    | some r => if p.outstanding (.txn tag) = 0 ∧ t.retries = [] then p.endTxn t r (failItems t) else p
    | none => p
  | none => p

/-- Blocks of the pieces in bands, and in the log (R173). -/
def Txn.directBlocks (t : Txn) : Nat := sumOf (fun c => match c.pos.place with
  | .band _ _ => c.len
  | .log _ => 0) t.pieces

def Txn.stagedBlocks (t : Txn) : Nat := sumOf (fun c => match c.pos.place with
  | .band _ _ => 0
  | .log _ => c.len) t.pieces

/-- The update of a PLACE is durable (R173). -/
def Part.placeEnd (p : Part) (tag : Nat) : Part :=
  match p.txn tag with
  | some t =>
    if t.ended ∧ t.kind = .place then
      let p := t.pieces.foldl (fun p c => if c.pos.ended then p else p.land c.pos.place c.len) p
      let p := p.count t.cls fun y => (y.addDirect t.directBlocks).addStaged t.stagedBlocks
      p.endTxn t .ok [item 2 t.directBlocks, item 2 t.stagedBlocks]
    else p
  | none => p

/-- The update of a DISCARD is durable (R53). -/
def Part.discardEnd (p : Part) (tag : Nat) : Part :=
  match p.txn tag with
  | some t => if t.ended ∧ t.kind = .discard then p.endTxn t .ok [item 5 t.removed] else p
  | none => p

/-! ### Reports on a PLACE's orders (R171, R172) -/

/-- What follows any event on a PLACE's order: writes that end, the map update, the end. -/
def Part.placeSettle (p : Part) (tag : Nat) : Part := ((p.landPositions tag).placeMap tag).cancellingEnd tag

/-- The failing LBA of an order (R157, R172). -/
def failingLba (o : Order) (st : ReportStatus) (done : Nat) : Nat :=
  match st with
  | .fault => o.lba + done
  | _ => o.lba

/-- The piece of a PLACE at whose present position an order aims, while the outcome is open (R172). -/
def Txn.pieceOf (t : Txn) (o : Order) : Option Piece :=
  (t.pieces[o.piece]?).filter fun c => t.outcome.isNone && decide (o.attempt = c.attempt)

/-- A settled report on an ISSUED order of a PLACE (R171, R172). -/
def Part.placeReport (p : Part) (t : Txn) (a : PlaceArgs) (o : Order) (st : ReportStatus) (done : Nat) : Part :=
  (match t.pieceOf o with
    | some c => match st with
      | .ok => p.pieceOk t a o.piece c
      | _ => p.pieceFailed t a o.piece c false (failingLba o st done)
    | none => p).placeSettle t.tag

/-- A timeout of an order of a PLACE (R144, R172). -/
def Part.placeTimeout (p : Part) (t : Txn) (a : PlaceArgs) (o : Order) : Part :=
  (match t.pieceOf o with
    | some c => p.pieceFailed t a o.piece c true o.lba
    | none => p).placeSettle t.tag

/-! ### FETCH (R153 to R158) -/

/-- A run of a FETCH or LOCATE with the LBA of its first block. -/
structure LbaRun where
  lba : Nat
  run : RunCut
  deriving DecidableEq, Repr

/-- The runs of a list of segments, in ascending LBA (R16, R153). -/
def Part.runsOf (p : Part) (l : List Segment) : List LbaRun :=
  (l.map fun s => match s with
    | .hole _ _ => []
    | .mapped st len pl => (cut p.bm pl len).map fun r => { lba := st + r.pieceOff, run := r : LbaRun }).flatten

/-- The holes of a list of segments that begin below a covered end (R153, R154). -/
def holesOf (l : List Segment) (stop : Nat) : List Hole :=
  l.filterMap fun s => match s with
    | .hole st len => if st < stop then some { start := st, len := len } else none
    | .mapped _ _ _ => none

/-- What a FETCH reads and reports (R153): its runs, its covered end and its holes. -/
structure FetchPlan where
  runs : List LbaRun
  stop : Nat
  holes : List Hole
  deriving DecidableEq, Repr

/-- The plan of a FETCH of [a, a+n) as the map stands (R153). -/
def Part.fetchPlan (p : Part) (a n : Nat) : FetchPlan :=
  let segs := lookup p.tu.extents a n
  let runs := p.runsOf segs
  let stop := match runs[Config.fetchOrders]? with
    | some r => r.lba
    | none => a + n
  { runs := runs.take Config.fetchOrders, stop := stop, holes := holesOf segs stop }

/-- The READ orders of a FETCH for a list of runs (R154, R156). -/
def fetchOrdersFor (tag a handle : Nat) (retry : Bool) (l : List LbaRun) : List Order :=
  l.map fun r =>
    { id := 0, op := .read, track := r.run.track, sector := r.run.sector, dir := r.run.dir, count := r.run.count,
      place := r.run.place, handle := handle, bufOff := r.lba - a, owner := .txn tag, cls := 1, state := .queued,
      timer := .stopped, lba := r.lba, piece := 0, attempt := 0, retry := retry, update := 0 }

/-- The body of a FETCH that ends OK (R158). -/
def Txn.fetchItems (t : Txn) : List Item :=
  [item 5 t.coveredEnd, item 2 t.blocksRead, item 1 t.holes.length]
    ++ (t.holes.map fun h => [item 5 h.start, item 2 h.len]).flatten

/-- A FETCH ends when no order is outstanding and no retry waits (R155). -/
def Part.fetchEnd (p : Part) (tag : Nat) : Part :=
  match p.txn tag with
  | some t =>
    if t.kind = .fetch ∧ p.outstanding (.txn tag) = 0 ∧ t.retries = [] ∧ t.toJoin = [] then
      match t.outcome with
      | none => (p.count 1 (Tally.addFetched t.blocksRead)).endTxn t .ok t.fetchItems
      | some r => p.endTxn t r (failItems t)
    else p
  | none => p

/-- Prepare the retry of a run: its orders join together where the queue has a place for each, or it waits
(R156). -/
def Part.prepareRetry (p : Part) (tag a handle : Nat) (r : RetryRun) : Part :=
  let runs := p.runsOf (lookup p.tu.extents r.lba r.len)
  if p.hasPlaces runs.length then p.joinOrders (.txn tag) (fetchOrdersFor tag a handle true runs)
  else p.modTxn tag fun t => { t with retries := addNew t.retries r }

/-- A settled report on an ISSUED order of a FETCH (R155 to R157). -/
def Part.fetchReport (p : Part) (t : Txn) (a handle : Nat) (o : Order) (st : ReportStatus) (done : Nat) : Part :=
  (if t.outcome.isSome then p
    else match st with
      | .ok => p.modTxn t.tag fun x => { x with blocksRead := x.blocksRead + o.count }
      | _ =>
        if o.retry then p.fixOutcome t.tag .mediaError (some (failingLba o st done))
        else p.prepareRetry t.tag a handle { lba := o.lba, len := o.count }).fetchEnd t.tag

/-- A timeout of an order of a FETCH (R156, R157): a first one is retried when the order has left the queue. -/
def Part.fetchTimeout (p : Part) (t : Txn) (o : Order) : Part :=
  (if t.outcome.isNone ∧ o.retry then p.fixOutcome t.tag .timeout (some o.lba) else p).fetchEnd t.tag

/-- A CANCELLING order of a FETCH has left the queue (R145, R156). -/
def Part.fetchGone (p : Part) (t : Txn) (a handle : Nat) (o : Order) : Part :=
  (if t.outcome.isNone ∧ !o.retry then p.prepareRetry t.tag a handle { lba := o.lba, len := o.count }
    else p).fetchEnd t.tag

/-- A waiting retry joins (R156). -/
def Part.fetchRetryJoin (p : Part) (tag lba : Nat) : Part :=
  match p.txn tag with
  | some t =>
    match t.req, t.retries.find? fun r => decide (r.lba = lba) with
    | .fetch a _ handle, some r =>
      if p.hasPlaces (p.runsOf (lookup p.tu.extents r.lba r.len)).length then
        (p.modTxn tag fun x => { x with retries := without x.retries r }).prepareRetry tag a handle r
      else p
    | _, _ => p
  | none => p

/-! ### Reports on any transaction's orders -/

def Part.txnReport (p : Part) (tag : Nat) (o : Order) (st : ReportStatus) (done : Nat) : Part :=
  match p.txn tag with
  | none => p
  | some t =>
    match t.req with
    | .place a => p.placeReport t a o st done
    | .fetch a _ h => p.fetchReport t a h o st done
    | _ => p

def Part.txnTimeout (p : Part) (tag : Nat) (o : Order) : Part :=
  match p.txn tag with
  | none => p
  | some t =>
    match t.req with
    | .place a => p.placeTimeout t a o
    | .fetch _ _ _ => p.fetchTimeout t o
    | _ => p

def Part.txnGone (p : Part) (tag : Nat) (o : Order) : Part :=
  match p.txn tag with
  | none => p
  | some t =>
    match t.req with
    | .place _ => p.placeSettle tag
    | .fetch a _ h => p.fetchGone t a h o
    | _ => p

/-! ### The head of the Request Queue (R168, R169) -/

/-- Two ranges overlap. -/
def overlap (a b : Nat × Nat) : Bool := decide (a.1 < b.1 + b.2 ∧ b.1 < a.1 + a.2)

/-- A live transaction's range overlaps a request's. -/
def DataReq.overlaps (r q : DataReq) : Bool :=
  match r.range, q.range with
  | some x, some y => overlap x y
  | _, _ => false

/-- A kind whose live transactions change the map of their range. -/
def ReqKind.changesMap (k : ReqKind) : Bool := decide (k = .place ∨ k = .discard)

/-- A live transaction holds a request back by its range (R169). -/
def Txn.holdsBack (t : Txn) (r : DataReq) : Bool :=
  r.overlaps t.req && (t.kind.changesMap || (r.kind.changesMap && decide (t.kind = .fetch)))

/-- The conditions of R169 without the map reserve, the staging request and the Order Queue places. -/
def Part.headFree (p : Part) (r : DataReq) : Bool :=
  decide (p.tx.txns.length < Config.txnCap) && !(p.tx.txns.any fun t => t.holdsBack r)
    && match r with
      | .streamClose i => !p.streamLive i
      | _ => true

/-- The map reserve of a request (R54, Table 3-3). -/
def Part.reserveFor (p : Part) : DataReq → Nat
  | .place a => min (if p.streamed a.stream then 10 else 2) a.len + 2
  | .discard _ _ => 1
  | _ => 0

/-- The answer of an admission test (R55, R90, R169): admitted with the part after it, held, held for staging
space, or refused at the head. -/
inductive HeadTest where
  | accept (p : Part)
  | hold
  | holdStaging
  | refuse (r : Result)
  deriving DecidableEq, Repr

/-- TX makes no admission test: a RESET or RESTORE is in progress (R175, R184). -/
def Part.admitsNothing (p : Part) : Bool := p.resetting || p.sv.restore.isSome

/-- The head leaves the Request Queue; no PLACE is held for staging space then (R90, R168). -/
def Part.popHead (p : Part) : Part := (p.modTx fun x => { x with queue := x.queue.drop 1 }).setHeld false

/-- A new record of the Transaction Table (R170). -/
def newTxn (q : Queued) (reserve : Nat) : Txn :=
  { tag := q.tag, hold := q.hold, req := q.req, cls := 1, tail := .cont, verify := false, streamed := false,
    reserve := reserve, pieces := [], toJoin := [], outcome := none, failLba := none, holes := [], coveredEnd := 0,
    blocksRead := 0, retries := [], ended := false, removed := 0 }

def Part.addTxn (p : Part) (t : Txn) : Part := p.modTx fun x => { x with txns := x.txns ++ [t] }

/-- The staged parts of a remainder as pieces (R89). -/
def stagedPieces (update : Nat) : List StagedPart → Nat → List Piece
  | [], _ => []
  | q :: qs, lba =>
    { lba := lba, len := q.len, pos := { place := .log q.pos, update := update, ended := false }, old := none,
      retryUsed := false, verifying := false, succeeded := false } :: stagedPieces update qs (lba + q.len)

/-- The band pieces of a division as pieces (R77). -/
def bandPieces (update : Nat) (l : List BandPiece) : List Piece :=
  l.map fun q =>
    { lba := q.lba, len := q.len, pos := { place := .band q.band q.off, update := update, ended := false },
      old := none, retryUsed := false, verifying := false, succeeded := false }

/-- The PLACE is admitted: the record is made, the reserve is taken, the stream context follows, and the first
orders join (R169, R171). `p` is the part after the division. -/
def Part.admitPlace (p : Part) (q : Queued) (a : PlaceArgs) (at_ : Attrs) (reserve : Nat) (d : Division) : Part :=
  let streamed := p.streamed a.stream
  let parts := if d.left = 0 then [] else stagedParts (stgCap p.bm) p.sl.head d.left
  let pieces := bandPieces p.thisUpdate d.pieces ++ stagedPieces p.thisUpdate parts d.lba
  let t : Txn := { newTxn q reserve with cls := at_.cls, tail := tailOf at_.tail, verify := verifyOn at_.verify,
                                         streamed := streamed, pieces := pieces }
  let p := if d.left = 0 then p else p.append parts d.lba at_.cls
  let p := ((p.streamAdmitted a at_ d).takeReserve reserve).popHead.addTxn t
  p.joinOrders (.txn q.tag) ((pieces.zipIdx.map fun x => p.placeOrders .write t a x.2 x.1).flatten)

/-- The admission test of a request with a map reserve (R55). -/
def Part.reserveTest (p : Part) (n : Nat) (next : HeadTest) : HeadTest :=
  if p.canTake n then next
  else if p.tx.txns.isEmpty && p.tu.remaps.isEmpty then .refuse .mapFull
  else .hold

/-- The admission test of a PLACE (R77, R88, R90, R169). -/
def Part.placeTest (p : Part) (q : Queued) (a : PlaceArgs) : HeadTest :=
  let n := p.reserveFor q.req
  p.reserveTest n (
    let at_ := p.resolve a
    let r := p.divide a at_.cls
    if r.1.left = 0 then .accept (r.2.admitPlace q a at_ n r.1)
    else match r.2.stagingTest r.1.left with
      | .take => .accept (r.2.admitPlace q a at_ n r.1)
      | .hold => .holdStaging
      | .refuse => .refuse .stagingFull)

/-- The remove items of a DISCARD (R53). -/
def discardItems : (fuel start len : Nat) → List MapItem
  | 0, _, _ => []
  | fuel + 1, start, len =>
    if len = 0 then [] else
      let n := min len Config.extentCap
      { start := start, len := n, place := none } :: discardItems fuel (start + n) (len - n)

/-- The most remove items a DISCARD has (R53). -/
def discardFuel : Nat := Config.discardLen / Config.extentCap + 1

/-- The DISCARD is admitted: its update is taken, or it ends where nothing is mapped (R53). -/
def Part.admitDiscard (p : Part) (q : Queued) (start len : Nat) : Part :=
  let p := (p.takeReserve 1).popHead
  let r := p.mapUpdate (discardItems discardFuel start len)
  let n := sumOf (fun x => x.2) r.1
  let t : Txn := { newTxn q 1 with ended := true, removed := n }
  if n = 0 then (p.addTxn t).endTxn t .ok [item 5 0] else (r.2.addTxn t).follow (.discard q.tag)

/-- The FETCH is admitted (R153, R154). -/
def Part.admitFetch (p : Part) (q : Queued) (a handle : Nat) (f : FetchPlan) : Part :=
  let t : Txn := { newTxn q 0 with holes := f.holes, coveredEnd := f.stop }
  ((p.popHead.addTxn t).joinOrders (.txn q.tag) (fetchOrdersFor q.tag a handle false f.runs)).fetchEnd q.tag

/-- A segment of a LOCATE reply (R161). -/
inductive LocateSeg where
  | hole (start len : Nat)
  | run (r : LbaRun)
  deriving DecidableEq, Repr

/-- The segments of a LOCATE: the holes and the runs of the mapped segments (R161). -/
def Part.locateSegs (p : Part) (a n : Nat) : List LocateSeg :=
  ((lookup p.tu.extents a n).map fun s => match s with
    | .hole st len => [.hole st len]
    | .mapped _ _ _ => (p.runsOf [s]).map LocateSeg.run).flatten

def LocateSeg.start : LocateSeg → Nat
  | .hole st _ => st
  | .run r => r.lba

/-- A segment's items (R161): hole, or mapped with its place. -/
def LocateSeg.items : LocateSeg → List Item
  | .hole st len => [item 1 0, item 5 st, item 4 len]
  | .run r =>
    [item 1 1, item 5 r.lba, item 4 r.run.count] ++ (match r.run.place with
      | .band b off => [item 1 0, item 2 b, item 3 off]
      | .log pos => [item 1 1, item 4 pos])
      ++ [item 3 r.run.track, item 2 r.run.sector, item 1 r.run.dir.code]

/-- The body of a LOCATE reply (R161). -/
def Part.locateItems (p : Part) (a n : Nat) : List Item :=
  let segs := p.locateSegs a n
  let next := match segs[Config.locateSegs]? with
    | some s => s.start
    | none => a + n
  let listed := segs.take Config.locateSegs
  [item 1 listed.length] ++ (listed.map LocateSeg.items).flatten
    ++ [flagItem (decide (Config.locateSegs < segs.length)), item 5 next]

/-- A request without a record of its own ends in its admission event (R170). -/
def Part.endAtHead (p : Part) (q : Queued) (r : Result) (items : List Item) : Part :=
  (p.popHead.sayHeld (finalMsg q.req.kind q.hold q.tag r items)).note .drain

/-- The STREAM OPEN at the head (R73). -/
def Part.admitOpen (p : Part) (q : Queued) (i cls tail verify idle : Nat) : Part :=
  if (p.stream i).state = .free then
    (p.openStream i cls tail verify idle).endAtHead q .ok [item 3 (storedIdle idle)]
  else p.endAtHead q .streamBusy []

/-- The STREAM CLOSE at the head (R74): the band parked, the state it was left in, and the pad blocks. -/
def Part.admitClose (p : Part) (q : Queued) (i : Nat) : Part :=
  let r := p.closeStream i
  r.2.2.endAtHead q .ok ([optItem r.1] ++ (match r.1 with
    | some b => [item 1 (r.2.2.band b).state.code]
    | none => []) ++ [item 2 r.2.1])

/-- The admission test of a head (R169). -/
def Part.headTest (p : Part) (q : Queued) : HeadTest :=
  match stateRefusal q.req.kind p.sv.device with
  | some r => .refuse r
  | none =>
    if !p.headFree q.req then .hold
    else match q.req with
      | .place a => p.placeTest q a
      | .fetch a n h =>
        let f := p.fetchPlan a n
        if p.hasPlaces f.runs.length then .accept (p.admitFetch q a h f) else .hold
      | .discard a n => p.reserveTest 1 (.accept (p.admitDiscard q a n))
      | .locate a n => .accept (p.endAtHead q .ok (p.locateItems a n))
      | .streamOpen i c t v l => .accept (p.admitOpen q i c t v l)
      | .streamClose i => .accept (p.admitClose q i)

/-- The admission test of the head, where it is of a kind and TX makes tests; a PLACE that is held for staging
space is recorded as held (R90, R94). -/
def Part.admitHead (p : Part) (k : ReqKind) : Part :=
  if p.admitsNothing then p
  else match p.tx.queue.head? with
    | none => p
    | some q =>
      if q.req.kind = k then
        match p.headTest q with
        | .accept p' => p'
        | .holdStaging => p.setHeld true
        | .hold => p.setHeld false
        | .refuse _ => p
      else p

/-- A head refused during a drain is counted (R181). -/
def Part.countRefused (p : Part) : Part :=
  p.modSv fun v => { v with quiesce := v.quiesce.map fun w => { w with refused := w.refused + 1 } }

/-- The head is removed and refused, where the test says so (R55, R90, R168). -/
def Part.refuseHead (p : Part) : Part :=
  if p.resetting then p
  else match p.tx.queue.head? with
    | none => p
    | some q =>
      match p.headTest q with
      | .refuse r => p.countRefused.endAtHead q r []
      | _ => p

/-- A PLACE held for staging space is tested again at once when the destaging channels change (R90); what it is
then refused, it is refused in the same event. -/
def Part.onDestagers (p : Part) : Part :=
  if p.sl.held ∧ p.destagers = 0 then p.refuseHead else p

/-! ### CANCEL (R174) -/

/-- The answer to a CANCEL: its outcome, its disposition, and the part. -/
def Part.cancelTarget (p : Part) (tag : Nat) : Result × List Item × Part :=
  match p.tx.queue.find? fun q => decide (q.tag = tag) with
  | some q =>
    let wasHead := decide ((p.tx.queue.head?.map Queued.tag) = some tag)
    let p := p.modTx fun x => { x with queue := x.queue.filter fun y => decide (y.tag ≠ tag) }
    let p := if wasHead then p.setHeld false else p
    (.ok, [item 1 0], (p.sayHeld (finalMsg q.req.kind q.hold q.tag .cancelled [])).note .drain)
  | none =>
    match p.txn tag with
    | none => (.notFound, [], p)
    | some t =>
      if t.ended then (.notFound, [], p)
      else if t.outcome.isSome then (.ok, [item 1 2], p)
      else
        let p := p.fixOutcome tag .cancelled none
        (.ok, [item 1 1], (p.landPositions tag).cancellingEnd tag)

end Sys2Proof.Machine
end

