-- ==== Sys2Proof/Machine/Supervision.lean ====
section
/-! DEFINITION. The Supervisor (Chapter 11): the Map Store's updates, the device states, FORMAT, MOUNT, QUIESCE,
RESTORE, the hour count, the digest checks, the resets and the power failure. -/

namespace Sys2Proof.Machine

/-! ### The Map Store (R177, Table 11-1) -/

/-- The stored fields of a band record (Table 2-1). -/
def Band.stored (b : Band) : Band := { b with owner := none, pins := 0, pendingRemaps := 0, inFlight := 0 }

/-- The stored fields of a run record (Table 5-1). -/
def Run.stored (r : Run) : Run := { r with inFlight := false, pins := 0, hold := 0 }

/-- The Map Store's contents as the events up to now leave them (Table 11-1). -/
def Part.image (p : Part) : Image :=
  { header := p.sv.header
    bm := { p.bm with bands := p.bm.bands.map Band.stored }
    extents := p.tu.extents
    regions := p.tu.regions
    runs := p.sl.runs.map Run.stored
    head := p.sl.head
    tail := p.sl.tail
    classes := p.sv.classes
    mode := p.sc.mode
    setups := p.re.setups
    settings := p.sv.settings
    mask := p.sv.mask }

/-- Start the Map Store update of an event that changed stored contents, or that a rule's later step waits for
(R177, log 6). -/
def Part.startUpdate (p : Part) (before : Image) : Part :=
  let after := p.image
  if after = before ∧ p.store.follows = [] then p
  else p.modStore fun s =>
    { base := if s.updates.isEmpty then before else s.base
      updates := s.updates ++ [{ id := s.next, follows := s.follows, after := after, done := false }]
      next := s.next + 1
      follows := [] }

/-- The updates in progress once the oldest that are durable have left, with the contents they leave. -/
def pruneUpdates (base : Image) : List StoreUpdate → Image × List StoreUpdate
  | [] => (base, [])
  | u :: us => if u.done then pruneUpdates u.after us else (base, u :: us)

/-- An update becomes durable. -/
def Part.markDone (p : Part) (id : Nat) : Part :=
  p.modStore fun s =>
    let r := pruneUpdates s.base (modWhere (fun u => decide (u.id = id)) (fun u => { u with done := true }) s.updates)
    { s with base := r.1, updates := r.2 }

/-- The updates that are certain to be kept: up to the last that is durable. -/
def certainUpdates (l : List StoreUpdate) : Nat :=
  l.length - (l.reverse.takeWhile fun u => !u.done).length

/-- The contents a cold start finds (R177, log 6): those of the present where no update is in progress, and else
those after a number of the updates in progress that is a free value. -/
def Part.found (p : Part) : Image :=
  let us := p.store.updates
  if us.isEmpty then p.image
  else
    let n := max (certainUpdates us) (Config.freeKept p.fresh % (us.length + 1))
    match us[n - 1]? with
    | some u => if n = 0 then p.store.base else u.after
    | none => p.store.base

/-! ### Device states (R178) -/

def Part.modDevice (p : Part) (d : DeviceState) : Part := p.modSv fun v => { v with device := d }

/-- The digest interval of the settings in milliseconds (R183). -/
def Part.digestLimit (p : Part) : Nat := p.settings.digestMinutes * 60000

/-- The digest timer is started from 0 (R183). -/
def Part.startDigestTimer (p : Part) : Part :=
  p.modSv fun v => { v with digestTimer := Timer.start p.digestLimit }

/-- Enter ONLINE: the digest timer starts, and the enabled channels become IDLE (R178). -/
def Part.enterOnline (p : Part) : Part := ((p.modDevice .online).startDigestTimer).startChannels

/-- Leave ONLINE for a state: the digest timer stops (R178). -/
def Part.leaveOnline (p : Part) (d : DeviceState) : Part :=
  p.modSv fun v => { v with device := d, digestTimer := .stopped }

/-- The stored digest does not match the stored tables (R183). -/
def Part.digestBad (p : Part) : Bool := decide (p.digest ≠ p.sv.header.digest)

/-- STOPPED or UNFORMATTED, by the format mark (R178). -/
def Part.restState (p : Part) : DeviceState := if p.sv.header.mark then .stopped else .unformatted

/-- The digest timer expires (R183, R184). -/
def Part.digestExpired (p : Part) : Part :=
  if p.sv.digestTimer.due ∧ p.sv.device = .online ∧ !p.resetting then
    let p := p.startDigestTimer
    if p.digestBad then (((p.leaveOnline .fenced).raise evFence).stopChannels .fence) else p
  else p

/-- The digest computation of a MOUNT ends (R180). -/
def Part.mountEnd (p : Part) : Part :=
  match p.sv.mount with
  | some m =>
    if p.sv.device = .mounting ∧ !p.resetting then
      let bad := p.digestBad
      let items (d : DeviceState) := [item 4 p.digest.toNat, item 4 p.sv.header.digest.toNat, item 1 d.code]
      let q := p.modSv fun v => { v with mount := none }
      if bad then
        ((q.modDevice .fenced).raise evFence).sayHeld (finalMsg .mount m.hold m.tag .fenced (items .fenced))
      else q.enterOnline.sayHeld (finalMsg .mount m.hold m.tag .ok (items .online))
    else p
  | none => p

/-! ### QUIESCE (R181) -/

/-- The drain has ended. -/
def Part.drained (p : Part) : Bool :=
  p.tx.queue.isEmpty && p.tx.txns.isEmpty && (p.su.all fun s => decide (s.state = .free))
    && (p.re.chans.all fun k => decide (k.state = .disabled))

/-- The end of the drain (R181). -/
def Part.drainEnd (p : Part) : Part :=
  match p.sv.quiesce with
  | some w =>
    if p.sv.device = .quiescing ∧ !p.resetting ∧ p.drained then
      (p.modSv fun v => { v with quiesce := none, device := .stopped }).sayHeld
        (finalMsg .quiesce w.hold w.tag .ok [item 1 w.closed, item 1 w.refused])
    else p
  | none => p

/-- A QUIESCE is taken: the state, the stops, and the streams that close at once (R181), in ascending stream number,
which is the order in which their bands join a parked list (R30). DESIGN CHOICE, log 40. -/
def Part.startQuiesce (p : Part) (tag : Nat) (hold : Bool) : Part :=
  let p := (p.leaveOnline .quiescing).modSv fun v =>
    { v with quiesce := some { tag := tag, hold := hold, closed := 0, refused := 0 } }
  let p := p.stopChannels .quiesce
  ((List.range 16).foldl (fun p i => p.quiesceClose (i + 1)) p).note .drain

/-! ### The hour count (R182) -/

/-- The hour accumulator has reached one hour: it starts again from 0, and H advances (log 3). -/
def Part.hourPassed (p : Part) : Part :=
  if Config.hourMs ≤ p.sv.hourAcc then
    let p := p.modSv fun v => { v with hourAcc := 0 }
    if p.sv.device = .unformatted ∨ Config.hourCap ≤ p.hours then p
    else
      (p.modSv fun v => { v with header := { v.header with hours := v.header.hours + 1 } }).note
        (.hour p.hours (p.hours + 1))
  else p

/-! ### FORMAT (R42, R63, R101, R151, R179) -/

/-- The second update of FORMAT: the empty and default tables, with the digest rewritten in the same update (R1). -/
def Part.formatTables (p : Part) (g : Geometry) (retired : List Nat) : Part :=
  let q := p.modBm fun _ =>
    { geom := g, retired := retired, pendingRetire := [],
      bands := List.replicate (2 * pairCount g) Band.blank, parked := List.replicate 8 [] }
  let q := q.modTu fun _ => { extents := [], regions := [], remaps := [], reserveTotal := 0 }
  let q := q.modSl fun _ => { runs := [], head := 0, tail := 0, held := false }
  let q := q.modRe fun r => { r with setups := List.replicate 4 ChanSetup.default }
  let q := q.modSc fun s => { s with mode := .rnu }
  let q := q.modSv fun v => { v with classes := defaultClasses, settings := defaultSettings }
  (q.rewriteDigest.setMask 0).levelChecks p

/-- The third update of FORMAT: the header. -/
def Part.formatHeader (p : Part) : Part :=
  p.modSv fun v => { v with header := { mark := true, digest := p.digest, hours := 0 } }

/-- The end of a FORMAT (R179). While a RESET request is in progress the device state stays as it was (R178). -/
def Part.formatDone (p : Part) (tag : Nat) : Part :=
  (p.modSv fun v => { v with format := none, device := if p.resetting then v.device else .stopped
                             hourAcc := 0 }).sayHeld (replyMsg tag .ok .format [])

/-- A FORMAT in progress goes on once its present update is durable (R179). -/
def Part.formatNext (p : Part) : Part :=
  match p.sv.format with
  | none => p
  | some w =>
    let set (ph : FormatPhase) (p : Part) := p.modSv fun v => { v with format := some { w with phase := ph } }
    match w.phase with
    | .unmark => (set .tables (p.formatTables w.geom w.retired)).follow .format
    | .tables => (set .header p.formatHeader).follow .format
    | .header => p.formatDone w.tag

/-! ### RESTORE (R5, R184) -/

/-- The update of a RESTORE is durable (R184). While a RESET request is in progress the device state stays as it
was (R178). -/
def Part.restoreDone (p : Part) : Part :=
  match p.sv.restore with
  | some tag =>
    let q := p.modSv fun v => { v with restore := none }
    (if p.resetting then q else q.enterOnline).sayHeld (replyMsg tag .ok .restore [])
  | none => p

/-! ### The RESET request (R148, R175) -/

/-- A RESET request is taken: a reset is in progress, or the request joins it (R148, R175). -/
def Part.takeReset (p : Part) (tag : Nat) : Part :=
  match p.sv.reset with
  | none => (p.modSv fun v => { v with reset := some { tag := tag, count := 1, allTaken := false } }).mediaReset
  | some w =>
    let q := p.modSv fun v => { v with reset := some { w with tag := tag, count := w.count + 1 } }
    if p.mp.awaitAll then q.modMp fun m => { m with tx := m.tx ++ [.cancelAll] } else q

/-- The Media Port after a reset is carried out (R139, R148, R151); without a valid mark there is no fill to stand at
the urgent level (R1). -/
def Part.mediaCleared (p : Part) : Part :=
  p.modMp fun m => { m with
    orders := [], waiting := [], told := [], writeWait := [], favoured := laneFor (p.sv.header.mark && p.urgent), runCount := 0,
    lastChan := 3, idle := if m.ready then Timer.start p.settings.idleDelay else .stopped, awaitAll := false }

/-- The transmit queue after a reset: only a message that is being sent stays (R175). -/
def LinkIface.discardWaiting (l : LinkIface) : LinkIface :=
  { l with queue := if l.sending then l.queue.take 1 else [], reserved := 0 }

/-- FREE_LOW where the FREE count stands at or below the event free low mark, as at a cold start and at a reset's
completion (R186); in UNFORMATTED there is no Band Table (log 19). -/
def Part.freeLowNow (p : Part) : Part :=
  if p.sv.header.mark ∧ freeCount p.bm ≤ p.settings.eventFreeLow then p.raise evFreeLow else p

/-- MAP_HIGH where the entries in use stand at its level (R56, R63). -/
def Part.mapHighNow (p : Part) : Part := if Config.mapHigh ≤ p.entries then p.raise evMapHigh else p

/-- The reset steps of the stored tables, common to cold start and to the RESET request (R41, R63, R100). In
UNFORMATTED there is no valid table to treat (R63, R100). -/
def Part.tableResetSteps (p : Part) : Part :=
  let p := p.modTu fun t => { t with remaps := [], reserveTotal := 0 }
  if p.sv.header.mark then (p.bandResetSteps.mapHighNow.logResetSteps).resetLevels else p

/-- What a completed reset leaves of the steps placed after an update in progress: the checks of the bands and the
tail. The requests, transactions and remaps that the other steps belong to are discarded (R52, R61, R175). -/
def Follow.outlivesReset : Follow → Bool
  | .checks .. => true
  | _ => false

def Part.dropFollows (p : Part) : Part :=
  p.modStore fun s => { s with
    updates := s.updates.map fun u => { u with follows := u.follows.filter Follow.outlivesReset } }

/-- A reset in progress is completed (R148, R175, R178). No channel runs and no request waits then, so that no
report has a taker. -/
def Part.completeReset (p : Part) (w : ResetWork) : Part :=
  let p := p.tableResetSteps.freeLowNow.dropFollows
  let p := p.modSu fun _ => List.replicate 16 Stream.blank
  let p := (p.clearChannels).mediaCleared
  let p := p.modTx fun _ => { queue := [], txns := [] }
  let p := p.modLi LinkIface.discardWaiting
  let p := p.modSv fun v => { v with reset := none, mount := none, quiesce := none, device := p.restState,
                                     digestTimer := .stopped }
  let p := p.say (replyMsg w.tag .ok .reset [item 2 w.count])
  { p.announce (p.sv.events &&& ~~~p.sv.mask) with notes := [] }

/-- Complete the reset once CANCELLED ALL has been taken and no FORMAT or RESTORE is in progress (R148, R179,
R184). -/
def Part.tryCompleteReset (p : Part) : Part :=
  match p.sv.reset with
  | some w => if w.allTaken ∧ !p.tablesBusy then p.completeReset w else p
  | none => p

/-- CANCELLED ALL is taken (R146, R148). -/
def Part.cancelledAll (p : Part) : Part :=
  if p.mp.awaitAll then
    let p := p.modMp fun m => { m with orders := [], awaitAll := false }
    (p.modSv fun v => { v with reset := v.reset.map fun w => { w with allTaken := true } }).tryCompleteReset
  else p.strayReport

/-! ### Durable updates (R177) -/

/-- What a rule placed after an update is taken (R177). -/
def Part.followUp (p : Part) (f : Follow) : Part :=
  match f with
  | .reply m => p.sayHeld m
  | .format => p.formatNext.tryCompleteReset
  | .restore => p.restoreDone.tryCompleteReset
  | .place tag => p.placeEnd tag
  | .discard tag => p.discardEnd tag
  | .remap b off => p.settleApplied b off
  | .checks bands tail => p.updateChecks bands tail

/-- An update in progress, not yet durable, by number. -/
def Part.updateOf (p : Part) (id : Nat) : Option StoreUpdate :=
  p.store.updates.find? fun u => decide (u.id = id) && !u.done

/-- An update becomes durable, and the steps placed after it are taken (R177). -/
def Part.updateDurable (p : Part) (id : Nat) : Part :=
  match p.updateOf id with
  | some u => u.follows.foldl Part.followUp (p.markDone id)
  | none => p

/-- The update in progress that a step waits for becomes durable. -/
def Part.followDurable (p : Part) (f : Follow) : Part :=
  match p.store.updates.find? fun u => decide (f ∈ u.follows) && !u.done with
  | some u => p.updateDurable u.id
  | none => p

/-- FORMAT's third update becomes durable (R179). -/
def Part.formatComplete (p : Part) : Part :=
  match p.sv.format with
  | some w => if w.phase = .header then p.followDurable .format else p
  | none => p

/-! ### Cold start and power (R175, R178, R185) -/

/-- Every timer of the part stops (R185). -/
def Part.stopTimers (p : Part) : Part :=
  let q := p.modSv fun v => { v with digestTimer := .stopped }
  let q := q.modSu fun l => l.map fun s => { s with idle := .stopped }
  q.modMp fun m => { m with idle := .stopped, orders := m.orders.map fun o => { o with timer := .stopped } }

/-- PWRFAIL is asserted (R185): the updates in progress complete, no step placed after them is taken, and the
device is HALTED. -/
def Part.powerFail (p : Part) : Part :=
  (p.stopTimers.modDevice .halted).modStore fun s => { s with updates := [] }

/-- The contents a cold start finds, with the mark left invalid where a FORMAT was in progress (R179, log 7). -/
def Part.foundMarked (p : Part) : Image :=
  let f := p.found
  { f with header := { f.header with mark := f.header.mark && p.sv.format.isNone } }

/-- A HALTED part starts no frame (R185). -/
def Part.silence (p : Part) : Part := (p.powerFail).modLi fun l => { l with sending := false }

/-- The part at a cold start that finds these contents (R41, R63, R100, R151, R178, R186). -/
def Part.coldStart (p : Part) (found : Image) : Part :=
  let q := (Part.ofImage found (p.fresh + 1)).modStore fun s => { s with next := p.store.next }
  let q := if found.header.mark then q else q.modSv fun v => { v with mask := 0 }
  (q.tableResetSteps.freeLowNow).modDevice q.restState

/-! ### The settings (R188) -/

/-- The settings brought into range (R188). -/
def settingsInRange (v : TimerArgs) : TimerArgs :=
  { orderTimeout := clamp 10 10000 v.orderTimeout
    idleDelay := clamp 10 60000 v.idleDelay
    burst := clamp 1 15 v.burst
    reserve := clamp 2 64 v.reserve
    suspect := clamp 1 255 v.suspect
    highMark := clamp 4 15 v.highMark
    digestMinutes := clamp 1 1440 v.digestMinutes
    eventFreeLow := clamp 1 255 v.eventFreeLow }

/-- Store the settings, with the tests that follow a change of the high mark (R93) and of the event free low mark
(R186). -/
def Part.storeSettings (p : Part) (v : TimerArgs) : Part :=
  let q := p.modSv fun s => { s with settings := settingsInRange v }
  let q := q.levelChecks p
  let n := freeCount p.bm
  if p.sv.header.mark ∧ p.settings.eventFreeLow < n ∧ n ≤ (settingsInRange v).eventFreeLow then q.raise evFreeLow else q

/-- The settings as sent (R188). -/
def settingItems (v : TimerArgs) : List Item :=
  [item 2 v.orderTimeout, item 2 v.idleDelay, item 1 v.burst, item 1 v.reserve, item 1 v.suspect, item 1 v.highMark,
    item 2 v.digestMinutes, item 1 v.eventFreeLow]

/-! ### STATUS (R93, R151, R164, R166, R188) -/

/-- Minutes to the next digest check, rounded up; 0 while the timer is stopped (log 21). -/
def digestMinutesLeft (t : Timer) : Nat := if t.isRunning then (t.limit - t.elapsed + 59999) / 60000 else 0

/-- The QUEUED orders of the owners that meet a test. -/
def Part.queuedOf (p : Part) (f : Owner → Bool) : Nat := p.mp.orders.countP fun o => o.queued && f o.owner

/-- The orders in a state. -/
def Part.ordersIn (p : Part) (s : OrderState) : Nat := p.mp.orders.countP fun o => decide (o.state = s)

/-- The body of a STATUS reply. In UNFORMATTED, where R1 leaves what depends on the tables open, C_stg, the high mark
and the urgent level are computed from the stored tables as they stand. DESIGN CHOICE, log 18. -/
def Part.statusItems (p : Part) : List Item :=
  [item 1 p.sv.device.code, flagItem p.sv.reset.isSome, flagItem p.sv.format.isSome, flagItem p.sv.mount.isSome,
    flagItem p.sv.quiesce.isSome, flagItem p.sv.restore.isSome, flagItem p.sv.header.mark, item 4 p.hours,
    item 2 (digestMinutesLeft p.sv.digestTimer)]
  ++ (p.su.map fun s => item 1 s.state.code)
  ++ (p.re.chans.map fun k => item 1 k.state.code)
  ++ [item 1 p.tx.queue.length, item 1 p.tx.txns.length]
  ++ [item 4 p.sl.head, item 4 p.sl.tail, item 4 (fill p.sl), item 4 (stgCap p.bm), item 2 p.sl.runs.length,
    flagItem p.fillHigh, flagItem p.urgent, flagItem p.sl.held]
  ++ [item 1 (p.queuedOf fun w => decide (ownerLane w = .foreground)),
    item 1 (p.queuedOf fun w => decide (ownerLane w = .background))]
  ++ (channels.map fun c => item 1 (p.queuedOf fun w => decide (w = .chan c)))
  ++ [item 1 (p.ordersIn .issued), item 1 (p.ordersIn .cancelling), item 1 (if p.mp.ready then 0 else 1),
    item 1 (if p.mp.favoured = .foreground then 0 else 1), item 2 p.mp.stray, item 2 p.mp.linkErrors,
    item 2 p.li.frameErrors, item 2 p.li.unanswered]

end Sys2Proof.Machine
end

