-- ==== Sys2Proof/Machine/Events.lean ====
section
/-! DEFINITION. One event: the work list of reports between blocks (log 4), the Map Store update it starts, and the
millisecond of the time base; and the Media Port's reports and timeouts with all they bring about (R142 to R145). -/

namespace Sys2Proof.Machine

/-! ### The work list (log 4) -/

/-- One report between blocks. From the arrival of a RESET request no channel acts (R123). -/
def Part.handle (p : Part) (n : Note) : Part :=
  match n with
  | .destagers => p.onDestagers
  | .drain => p.drainEnd
  | .freeCount old new => if p.resetting then p else p.onFreeCount old new
  | .parkJoined => if p.resetting then p else p.wakeStalled
  | .demand old new => if p.resetting then p else p.onDemand old new
  | .logInput => if p.resetting then p else p.onLogInput
  | .hour old new => if p.resetting then p else p.onHour old new
  | .victim b => if p.resetting then p else p.onVictim b
  | .service c => if p.resetting then p else p.startService c
  | .select c => if p.resetting then p else p.selectStep c
  | .move c => if p.resetting then p else p.moveOn c
  | .settle c => if p.resetting then p else p.settleCheck c
  | .copy c => if p.resetting then p else p.copyCheck c
  | .piece c => if p.resetting then p else p.pieceStep c

/-- Work off reports, oldest first. -/
def drain : Nat → Part → Part
  | 0, p => p
  | fuel + 1, p =>
    match p.notes with
    | [] => p
    | n :: rest => drain fuel (({ p with notes := rest } : Part).handle n)

/-- No report waits. -/
def Part.noNotes (p : Part) : Part := { p with notes := [] }

/-- Work off the reports of an event (log 4). -/
def Part.drainAll (p : Part) : Part := (drain Config.cascadeFuel p).noNotes

/-- An event: what it does, the reports it makes, and the Map Store update it starts. -/
def Part.event (p : Part) (f : Part → Part) : Part := (f p).drainAll.beginSending.startUpdate p.image

/-- The part takes nothing: its RESET line is asserted, or it is HALTED (R178, R185). -/
def State.deaf (s : State) : Bool := s.pins.resetLine || decide (s.part.sv.device = .halted)

/-- A command that is an event of the part; a part that takes nothing stays as it is (log 23). -/
def State.taken (s : State) (f : Part → Part) : Host.Outcome State Fault Refusal :=
  if s.deaf then .next s else .next { s with part := s.part.event f }

/-- A command that changes no stored contents and makes no report between blocks. -/
def State.heard (s : State) (f : Part → Part) : Host.Outcome State Fault Refusal :=
  if s.deaf then .next s else .next { s with part := (f s.part).beginSending }

/-! ### The time base (log 2) -/

/-- A millisecond of the part's timers and of the hour accumulator. -/
def Part.tick (p : Part) : Part :=
  let q := p.modSv fun v => { v with
    timeBase := v.timeBase + 1, hourAcc := min Config.hourMs (v.hourAcc + 1), digestTimer := v.digestTimer.tick }
  let q := q.modSu fun l => l.map fun s => { s with idle := s.idle.tick }
  q.modMp fun m => { m with idle := m.idle.tick, orders := m.orders.map fun o => { o with timer := o.timer.tick } }

/-- A millisecond passes: the time base runs unless the part is HALTED or held in reset. -/
def State.idle (s : State) : State := if s.deaf then s else { s with part := s.part.tick }

/-! ### Reports on orders (R142 to R145, R149) -/

/-- What a report's status is taken as, with the blocks done (R142). -/
def settleStatus (st : ReportStatus) (done count : Nat) : ReportStatus × Nat :=
  match st with
  | .ok => if done = count then (.ok, done) else (.fault, min done count)
  | .fault => (.fault, if count ≤ done then count - 1 else done)
  | .cancelled => (.cancelled, done)

/-- The band of an order, if it has one. -/
def Order.band (o : Order) : Option Nat :=
  match o.place with
  | .band b _ => some b
  | .log _ => none

/-- The pin of a READ order falls (R31, R96). -/
def Part.unpinOrder (p : Part) (o : Order) : Part := if o.op = .read then p.unpin o.place o.count else p

/-- One more error of the band of an order (R34, R149). -/
def Part.orderError (p : Part) (o : Order) : Part :=
  match o.band with
  | some b => p.bandError b
  | none => p

/-- The owner is told a status. -/
def Part.tellReport (p : Part) (o : Order) (st : ReportStatus) (done : Nat) : Part :=
  match o.owner with
  | .txn t => p.txnReport t o st done
  | .chan c => p.chanReport c o st

/-- The owner is told TIMEOUT. -/
def Part.tellTimeout (p : Part) (o : Order) : Part :=
  match o.owner with
  | .txn t => p.txnTimeout t o
  | .chan c => p.chanTimeout c o

/-- The owner is told that an order has left the queue. -/
def Part.tellGone (p : Part) (o : Order) : Part :=
  match o.owner with
  | .txn t => p.txnGone t o
  | .chan c => p.chanGone c o

/-- A media fault against an order of a class: the tally and the flag (R149). -/
def Part.mediaFault (p : Part) (o : Order) (flag : EventBits) : Part := (p.count o.cls Tally.addFault).raise flag

/-- The REPORT of an ISSUED order (R142), step by step: what the owner's rules bring about is worked off before the
tally and the report of the freed place. -/
def Part.issuedReport (p : Part) (o : Order) (st : ReportStatus) (done : Nat) : Part :=
  let r := settleStatus st done o.count
  let p := (p.removeOrder o.id).unpinOrder o
  let p := if r.1 = .fault then p.orderError o else p
  let p := (p.tellReport o r.1 r.2).drainAll
  let p := if r.1 = .fault then p.mediaFault o evMediaErr else p
  p.placeFreed

/-- The REPORT of a CANCELLING order (R145). -/
def Part.lateReport (p : Part) (o : Order) (st : ReportStatus) : Part :=
  let p := ((p.removeOrder o.id).tellGone o).drainAll
  let p := if st = .cancelled then p else p.raise evLateReport
  p.placeFreed

/-- A REPORT (R142, R145, R146). -/
def Part.takeReport (p : Part) (id : Nat) (st : ReportStatus) (done : Nat) : Part :=
  if p.mp.awaitAll then p.strayReport
  else match p.order id with
    | none => p.strayReport
    | some o =>
      match o.state with
      | .queued => p.strayReport
      | .issued => p.issuedReport o st done
      | .cancelling => p.lateReport o st

/-- Send CANCEL for an order, and start its timer again (R144, R145). -/
def Part.sendCancel (p : Part) (id : Nat) : Part :=
  p.modMp fun m => { m with
    orders := modWhere (fun o => decide (o.id = id))
      (fun o => { o with state := .cancelling, timer := Timer.start p.settings.orderTimeout }) m.orders
    tx := m.tx ++ [.cancel id] }

/-- The timer of an ISSUED order expires (R144). -/
def Part.orderExpired (p : Part) (id : Nat) : Part :=
  match p.order id with
  | none => p
  | some o =>
    if o.state = .issued ∧ o.timer.due then
      ((((p.sendCancel id).unpinOrder o).orderError o).tellTimeout o).drainAll.mediaFault o evOrderTimeout
    else p

/-- The timer of a CANCELLING order expires (R145). -/
def Part.cancelAgain (p : Part) (id : Nat) : Part :=
  match p.order id with
  | none => p
  | some o => if o.state = .cancelling ∧ o.timer.due then p.sendCancel id else p

/-- The media idle timer reaches the idle delay (R141). -/
def Part.mediaIdled (p : Part) : Part :=
  if p.mp.idle.due then
    (p.modMp fun m => { m with idle := Timer.start p.settings.idleDelay }).onMediaIdle
  else p

/-- An owner told of a freed place joins again (R136). -/
def Part.rejoin (p : Part) (w : Owner) : Part :=
  if w ∈ p.mp.told ∧ !p.resetting then
    let p := p.modMp fun m => { m with told := without m.told w }
    match w with
    | .txn _ => p.joinOrders w []
    | .chan c => p.chanRejoin c
  else p

end Sys2Proof.Machine
end

