-- ==== Sys2Proof/Machine/ControlCmds.lean ====
section
/-! DEFINITION. The meanings of the control requests: STATUS, CANCEL, EVENTS, TALLY, BAND, TRIGGER and RESET. -/

namespace Sys2Proof.Machine

/-- A request taken with its REPLY OK queued in the same event. -/
def Part.answer (p : Part) (q : Req) (k : ReqKind) (items : List Item) : Verdict :=
  .take (p.say (replyMsg q.tag .ok k items))

/-- A request refused BAD_ARG with an empty body. -/
def badArg : Verdict := .refuse .badArg []

/-- STATUS (R188). -/
def execStatus (q : Req) (s : State) : Host.Outcome State Fault Refusal :=
  s.heard fun p => p.arrive .status q true (decide (q.bodyLen = 0)) fun p => p.answer q .status p.statusItems

/-- CANCEL (R174). -/
def execCancel (q : Req) (target : Nat) (s : State) : Host.Outcome State Fault Refusal :=
  s.taken fun p => p.arrive .cancel q true (decide (q.bodyLen = 1)) fun p =>
    let r := p.cancelTarget target
    .take (r.2.2.say (replyMsg q.tag r.1 .cancel r.2.1))

/-- EVENTS, read form (R186); a form that EVENTS does not have is refused. -/
def execEventsRead (q : Req) (form : Nat) (s : State) : Host.Outcome State Fault Refusal :=
  s.heard fun p => p.arrive .events q true (decide (q.bodyLen = 3)) fun p =>
    if form = 0 then p.answer q .events [eventItem p.sv.events, eventItem p.sv.mask] else badArg

/-- EVENTS, clear form (R186). -/
def execEventsClear (q : Req) (flags : EventBits) (s : State) : Host.Outcome State Fault Refusal :=
  s.heard fun p => p.arrive .events q true (decide (q.bodyLen = 3)) fun p =>
    (p.clearEvents flags).answer q .events [eventItem p.sv.events]

/-- EVENTS, mask form (R186): a set bit masks its flag (log 9). -/
def execEventsMask (q : Req) (mask : EventBits) (s : State) : Host.Outcome State Fault Refusal :=
  s.taken fun p => p.arrive .events q true (decide (q.bodyLen = 3)) fun p =>
    .take (((p.setMask mask).holdPlaces 1).follow (.reply (replyMsg q.tag .ok .events [])))

/-- The counters of a slot (R187). -/
def Part.tallyOf (p : Part) (slot : Nat) : Tally := p.sv.tallies.getD slot Tally.zero

/-- TALLY (R187). -/
def execTally (q : Req) (slot : Nat) (clear : Bool) (s : State) : Host.Outcome State Fault Refusal :=
  s.heard fun p => p.arrive .tally q true (decide (q.bodyLen = 2)) fun p =>
    if 15 < slot then badArg
    else
      (if clear then p.modSv fun v => { v with tallies := modAt v.tallies slot fun _ => Tally.zero } else p).answer q
        .tally (p.tallyOf slot).items

/-- A band's place on its class's parked list, from 1; 0 when it is on none (R40). -/
def Part.parkedPlace (p : Part) (b : Nat) : Nat :=
  match (p.parkedList (p.band b).cls).findIdx? fun x => decide (x = b) with
  | some i => i + 1
  | none => 0

/-- The body of a BAND reply (R40). -/
def Part.bandItems (p : Part) (b : Nat) : List Item :=
  let r := p.band b
  [item 1 r.state.code, item 3 r.wp, item 3 r.valid, item 1 (ownerCode r.owner), item 1 r.cls, item 4 r.closedHour,
    item 1 r.errors, flagItem r.suspectFlag, item 1 r.pins, item 2 r.pendingRemaps, item 2 r.inFlight,
    item 2 (span p.bm b), item 3 (room p.bm b), item 1 (if r.cls = 0 then 0 else p.parkedPlace b),
    item 2 (pendingOf p.bm b).length]

/-- BAND (R40). -/
def execBand (q : Req) (b : Nat) (s : State) : Host.Outcome State Fault Refusal :=
  s.heard fun p => p.arrive .band q true (decide (q.bodyLen = 2)) fun p =>
    if 2 * pairCount p.bm.geom ≤ b then badArg else p.answer q .band (p.bandItems b)

/-- The body of a TRIGGER reply (R108). -/
def Part.triggerItems (p : Part) (c : Nat) : List Item :=
  [flagItem (p.chan c).flag, item 1 (p.chan c).state.code]

/-- TRIGGER SET (R108), with the service it may start; an unknown action is refused. -/
def execTriggerSet (q : Req) (c action : Nat) (s : State) : Host.Outcome State Fault Refusal :=
  s.taken fun p => p.arrive .trigger q true (decide (q.bodyLen = 2)) fun p =>
    if 3 < c ∨ action ≠ 0 then badArg
    else if (p.chan c).state = .disabled ∨ (p.chan c).stop.isSome then .refuse .wrongState []
    else
      let p := (p.setFlag c).drainAll
      p.answer q .trigger (p.triggerItems c)

/-- TRIGGER CLEAR (R108). -/
def execTriggerClear (q : Req) (c : Nat) (s : State) : Host.Outcome State Fault Refusal :=
  s.heard fun p => p.arrive .trigger q true (decide (q.bodyLen = 2)) fun p =>
    if 3 < c then badArg
    else
      let p := p.modChan c fun k => { k with flag := false }
      p.answer q .trigger (p.triggerItems c)

/-- RESET (R165, R175): no transmit place is reserved for it; a body that is not empty is refused (log 13). -/
def execReset (q : Req) (s : State) : Host.Outcome State Fault Refusal :=
  s.taken fun p =>
    if q.bodyLen = 0 then p.takeReset q.tag
    else if p.li.canReserve 1 then p.say (replyMsg q.tag .badArg .reset [])
    else p.sayRefusal q.tag .badArg .reset

end Sys2Proof.Machine
end

