-- ==== Sys2Proof/Machine/SetupCmds.lean ====
section
/-! DEFINITION. The meanings of the setup requests: FORMAT, RETIRE, CLASS, REGION, SCORING, CHANNEL, TIMERS, MOUNT,
QUIESCE and RESTORE. -/

namespace Sys2Proof.Machine

/-- A setup request whose REPLY is queued after the Map Store update of this event (R177). -/
def Part.answerAfter (p : Part) (q : Req) (k : ReqKind) (items : List Item) : Verdict :=
  .take ((p.holdPlaces 1).follow (.reply (replyMsg q.tag .ok k items)))

/-- A long request is accepted: REPLY TAKEN where its hold flag is clear, and a place for its last message (R166,
R167). -/
def Part.acceptLong (p : Part) (k : ReqKind) (tag : Nat) (hold : Bool) : Part :=
  (if k.isLong && !hold then p.say (replyMsg tag .taken k []) else p).holdPlaces 1

/-! ### FORMAT and RESTORE -/

/-- FORMAT (R3, R179): its first update makes the mark invalid. -/
def execFormat (q : Req) (g : Geometry) (retired : List Nat) (s : State) : Host.Outcome State Fault Refusal :=
  s.taken fun p => p.arrive .format q true (decide (q.bodyLen = tablesLen g retired)) fun p =>
    match geometryFault g retired with
    | some k => .refuse .badArg [item 1 k]
    | none =>
      .take (((p.modSv fun v =>
        { v with header := { v.header with mark := false }
                 format := some { tag := q.tag, geom := g, retired := retired, phase := .unmark } }).holdPlaces
          1).follow .format)

/-- What RESTORE finds in use (R184). -/
def Part.restoreBusy (p : Part) : Bool :=
  !p.tx.txns.isEmpty || (p.su.any fun s => decide (s.state ≠ .free))
    || (p.re.chans.any fun k => decide (k.state ≠ .disabled))

/-- The carried tables of a RESTORE are written (R5, R184). -/
def Part.writeTables (p : Part) (g : Geometry) (retired : List Nat) : Part :=
  (p.modBm fun m => { m with geom := g, retired := retired }).levelChecks p

/-- RESTORE (R5, R184). -/
def execRestore (q : Req) (g : Geometry) (retired : List Nat) (s : State) : Host.Outcome State Fault Refusal :=
  s.taken fun p => p.arrive .restore q true (decide (q.bodyLen = tablesLen g retired)) fun p =>
    if p.restoreBusy then .refuse .wrongState []
    else match geometryFault g retired with
      | some k => .refuse .badArg [item 1 k]
      | none =>
        let d := digestOf g retired
        if d ≠ p.sv.header.digest then .refuse .badArg [item 4 d.toNat, item 4 p.sv.header.digest.toNat]
        else
          .take ((((p.writeTables g retired).modSv fun v => { v with restore := some q.tag }).holdPlaces 1).follow
            .restore)

/-! ### RETIRE -/

/-- The Retired Track List counts as full (R6, R37). -/
def Part.retiredFull (p : Part) : Bool :=
  decide (Config.retiredCap ≤ p.bm.retired.length + p.bm.pendingRetire.length)

/-- Insert an entry in the Pending Retirement List, which ascends by track (R38). -/
def insertPending (e : PendingTrack) : List PendingTrack → List PendingTrack
  | [] => [e]
  | x :: xs => if e.track < x.track then e :: x :: xs else x :: insertPending e xs

/-- A track of a band's written span waits for the band's retirement (R37, R38). -/
def Part.retireLater (p : Part) (t b : Nat) : Part :=
  (p.modBm fun m => { m with pendingRetire := insertPending { track := t, band := b } m.pendingRetire }).bindSuspect b

/-- A track that is free in its pair retires at once, and the room of both bands is tested (R15, R28, R37), the
ascending band first. DESIGN CHOICE, log 37. -/
def Part.retireNow (p : Part) (t pair : Nat) : Part :=
  ((p.retireTracks [t]).closeTest (2 * pair)).closeTest (2 * pair + 1)

/-- The answer to a RETIRE (R37, in the order of its table). -/
def Part.retire (p : Part) (q : Req) (t : Nat) : Verdict :=
  let c := classify p.bm t
  if Config.maxTrack < t ∨ c = .staging ∨ c = .unassigned then badArg
  else if t ∈ p.bm.retired then p.answer q .retire [item 1 0]
  else match p.bm.pendingRetire.find? fun e => decide (e.track = t) with
    | some e => p.answer q .retire [item 1 1, item 2 e.band]
    | none => match c with
      | .written b =>
        if p.retiredFull || decide (Config.pendingRetireCap ≤ p.bm.pendingRetire.length) then .refuse .noSpace []
        else (p.retireLater t b).answer q .retire [item 1 1, item 2 b]
      | .freeIn pair =>
        if p.retiredFull then .refuse .noSpace [] else (p.retireNow t pair).answer q .retire [item 1 2]
      | .staging | .unassigned => badArg

/-- RETIRE (R37). -/
def execRetire (q : Req) (t : Nat) (s : State) : Host.Outcome State Fault Refusal :=
  s.taken fun p => p.arrive .retire q true (decide (q.bodyLen = 4)) fun p => p.retire q t

/-! ### CLASS -/

def isClass (c : Nat) : Bool := decide (1 ≤ c ∧ c ≤ 8)

/-- A class record brought into range (R65). -/
def classInRange (v : ClassArgs) : ClassRec :=
  let a := min 31 v.firstZone
  let b := min 31 v.lastZone
  { firstZone := min a b, lastZone := max a b, quota := clamp 1 16384 v.quota, weight := clamp 1 31 v.weight,
    slot := min 15 v.slot }

/-- The body of a CLASS reply (R65). -/
def Part.classItems (p : Part) (c : Nat) : List Item :=
  let r := p.classRec c
  [item 1 r.firstZone, item 1 r.lastZone, item 2 r.quota, item 1 r.weight, item 1 r.slot, item 2 (classCount p.bm c),
    item 1 (p.parkedList c).length] ++ (p.parkedList c).map (item 2)

/-- CLASS, read form (R65). -/
def execClassRead (q : Req) (c form : Nat) (s : State) : Host.Outcome State Fault Refusal :=
  s.heard fun p => p.arrive .cls q true (formLenOk [2, 8] form q.bodyLen) fun p =>
    if form ≠ 0 ∨ !isClass c then badArg else p.answer q .cls (p.classItems c)

/-- CLASS, write form (R65). The band count and the parked list of its REPLY are those of the request's own event.
DESIGN CHOICE, log 42. -/
def execClassWrite (q : Req) (c : Nat) (v : ClassArgs) (s : State) : Host.Outcome State Fault Refusal :=
  s.taken fun p => p.arrive .cls q true (formLenOk [2, 8] 1 q.bodyLen) fun p =>
    if !isClass c then badArg
    else
      let p := p.modSv fun x => { x with classes := modAt x.classes (c - 1) fun _ => classInRange v }
      p.answerAfter q .cls (p.classItems c)

/-! ### REGION -/

/-- A region record at fault, by its index and the record before it (R68). A list of more than 32 records is at fault
at index 32, where no record before is. DESIGN CHOICE, log 43. -/
def regionBad (L i : Nat) (prev : Option Region) (r : Region) : Bool :=
  decide (32 ≤ i ∨ r.len = 0 ∨ L < r.start + r.len ∨ 8 < r.cls ∨ 2 < r.tail ∨ 2 < r.verify) ||
    match prev with
    | none => false
    | some x => decide (r.start ≤ x.start ∨ r.start < x.start + x.len)

/-- The index of the first record at fault (R68). -/
def regionFault (L : Nat) : (i : Nat) → (prev : Option Region) → List Region → Option Nat
  | _, _, [] => none
  | i, prev, r :: rs => if regionBad L i prev r then some i else regionFault L (i + 1) (some r) rs

/-- The body of a REGION reply (R68). -/
def regionItems (l : List Region) : List Item :=
  item 1 l.length ::
    (l.map fun r => [item 5 r.start, item 5 r.len, item 1 r.cls, item 1 r.tail, item 1 r.verify]).flatten

/-- The body lengths of REGION: 1 to read, 2 + 13 for each record to write (Table 10-10); a form it does not have
may come with either. -/
def regionLenOk (form n : Nat) : Bool :=
  decide (n = 1) || (decide (form ≠ 0 ∧ 2 ≤ n ∧ (n - 2) % 13 = 0))

/-- REGION, read form (R68). -/
def execRegionRead (q : Req) (form : Nat) (s : State) : Host.Outcome State Fault Refusal :=
  s.heard fun p => p.arrive .region q true (regionLenOk form q.bodyLen) fun p =>
    if form ≠ 0 then badArg else p.answer q .region (regionItems p.tu.regions)

/-- REGION, write form (R68). -/
def execRegionWrite (q : Req) (l : List Region) (s : State) : Host.Outcome State Fault Refusal :=
  s.taken fun p => p.arrive .region q true (decide (q.bodyLen = 2 + 13 * l.length)) fun p =>
    match regionFault p.bm.geom.L 0 none l with
    | some i => .refuse .badArg [item 1 i]
    | none => (p.modTu fun t => { t with regions := l }).answerAfter q .region (regionItems l)

/-! ### SCORING -/

/-- The saturation flag cleared where the clear field is set (R133). -/
def Part.clearSaturated (p : Part) (clear : Bool) : Part :=
  if clear then p.modSc fun x => { x with saturated := false } else p

/-- SCORING, read form (R133). -/
def execScoringRead (q : Req) (form : Nat) (clear : Bool) (s : State) : Host.Outcome State Fault Refusal :=
  s.heard fun p => p.arrive .scoring q true (formLenOk [2, 3, 4] form q.bodyLen) fun p =>
    if form ≠ 0 then badArg
    else (p.clearSaturated clear).answer q .scoring [item 1 p.sc.mode.code, flagItem p.sc.saturated]

/-- SCORING, write form (R133). -/
def execScoringWrite (q : Req) (clear : Bool) (mode : Nat) (s : State) : Host.Outcome State Fault Refusal :=
  s.taken fun p => p.arrive .scoring q true (formLenOk [2, 3, 4] 1 q.bodyLen) fun p =>
    match roundOf mode with
    | none => badArg
    | some m =>
      ((p.clearSaturated clear).modSc fun x => { x with mode := m }).answerAfter q .scoring
        [item 1 m.code, flagItem p.sc.saturated]

/-- The body of an evaluation (R134). The candidate item and the mark for a raw score above 65,535 are one character,
0 or 1, the mark sent with every score. DESIGN CHOICE, log 47. -/
def Part.evaluateItems (p : Part) (b : Nat) (clear : Bool) : List Item :=
  let r := p.band b
  let x := p.score b
  [item 1 r.state.code, item 1 r.cls, flagItem (decide ((r.state = .closed ∨ r.state = .suspect) ∧ 1 ≤ r.valid)),
    item 3 r.valid, item 3 r.wp, item 2 (ageOf p.hours r.closedHour), item 1 (p.weightOf b)]
  ++ (if 1 ≤ r.valid then
      [item 3 x.u, item 5 x.N, item 3 x.D, item 3 x.raw, item 2 x.score, flagItem x.saturated] else [])
  ++ (if clear then [flagItem p.sc.saturated] else [])

/-- SCORING, evaluate form (R134). -/
def execScoringEvaluate (q : Req) (clear : Bool) (b : Nat) (s : State) : Host.Outcome State Fault Refusal :=
  s.heard fun p => p.arrive .scoring q true (formLenOk [2, 3, 4] 2 q.bodyLen) fun p =>
    if 2 * pairCount p.bm.geom ≤ b then badArg
    else (p.clearSaturated clear).answer q .scoring (p.evaluateItems b clear)

/-! ### CHANNEL -/

/-- The setup a CHANNEL write carries, brought into range (R103); none where a field is refused. -/
def setupOf (v : ChannelArgs) : Option ChanSetup :=
  match jobOf v.job, sourceOf v.source, modeOf v.mode with
  | some job, some source, some mode =>
    if v.enable ≤ 1 ∧ v.destClass ≤ 8 ∧ v.victims &&& ~~~0x01FE#16 = 0 then
      some { enable := decide (v.enable = 1), job := job, source := source, mode := mode,
             count := clamp 1 65535 v.count, destClass := v.destClass, victims := v.victims, handle := v.handle,
             compareHour := v.compareHour, period := v.period, freeLow := clamp 1 255 v.freeLow }
    else none
  | _, _, _ => none

/-- A resume point's items (R104): its kind, and its place. -/
def Resume.items : Resume → List Item
  | .none => [item 1 0]
  | .destage pos off => [item 1 1, item 4 pos, item 2 off]
  | .reclaim b c => [item 1 2, item 2 b, item 5 c]

/-- The body of a CHANNEL reply (R103): the setup and the state record. -/
def Part.channelItems (p : Part) (c : Nat) : List Item :=
  let s := p.setup c
  let k := p.chan c
  [flagItem s.enable, item 1 s.job.code, item 1 s.source.code, item 1 s.mode.code, item 2 s.count, item 1 s.destClass,
    item 2 s.victims.toNat, item 4 s.handle, item 4 s.compareHour, item 4 s.period, item 1 s.freeLow,
    item 1 k.state.code, flagItem k.flag, item 1 (stopCode k.stop), optItem k.owned, optItem k.victim]
  ++ k.resume.items ++ [item 2 k.amount, item 1 (copyCode k.copy)]

/-- CHANNEL, read form (R103). -/
def execChannelRead (q : Req) (c form : Nat) (s : State) : Host.Outcome State Fault Refusal :=
  s.heard fun p => p.arrive .channel q true (formLenOk [2, 25] form q.bodyLen) fun p =>
    if form ≠ 0 ∨ 3 < c then badArg else p.answer q .channel (p.channelItems c)

/-- A setup is stored and takes effect (R103, R105, R121); the level condition of the new setting is evaluated as at
a rise. -/
def Part.storeSetup (p : Part) (c : Nat) (v : ChanSetup) : Part :=
  let q := (p.modSetup c fun _ => v).note .destagers
  if !v.enable then q.beginStop c .disable
  else if (p.chan c).state = .disabled then q.becomeIdle c
  else if q.levelHolds c then q.setFlag c
  else q

/-- CHANNEL, write form (R103). -/
def execChannelWrite (q : Req) (c : Nat) (v : ChannelArgs) (s : State) : Host.Outcome State Fault Refusal :=
  s.taken fun p => p.arrive .channel q true (formLenOk [2, 25] 1 q.bodyLen) fun p =>
    if 3 < c then badArg
    else match setupOf v with
      | none => badArg
      | some n =>
        if (p.chan c).state ≠ .disabled ∧ (n.job ≠ (p.setup c).job ∨ n.handle ≠ (p.setup c).handle) then
          .refuse .wrongState []
        else
          let p := (p.storeSetup c n).drainAll
          p.answerAfter q .channel (p.channelItems c)

/-! ### TIMERS, MOUNT, QUIESCE -/

/-- TIMERS, read form (R188). -/
def execTimersRead (q : Req) (form : Nat) (s : State) : Host.Outcome State Fault Refusal :=
  s.heard fun p => p.arrive .timers q true (formLenOk [1, 13] form q.bodyLen) fun p =>
    if form ≠ 0 then badArg else p.answer q .timers (settingItems p.settings)

/-- TIMERS, write form (R188). -/
def execTimersWrite (q : Req) (v : TimerArgs) (s : State) : Host.Outcome State Fault Refusal :=
  s.taken fun p => p.arrive .timers q true (formLenOk [1, 13] 1 q.bodyLen) fun p =>
    (p.storeSettings v).answerAfter q .timers (settingItems (settingsInRange v))

/-- MOUNT (R180). -/
def execMount (q : Req) (hold : Bool) (s : State) : Host.Outcome State Fault Refusal :=
  s.taken fun p => p.arrive .mount q hold (decide (q.bodyLen = 1)) fun p =>
    .take ((p.acceptLong .mount q.tag hold).modSv fun v =>
      { v with device := .mounting, mount := some { tag := q.tag, hold := hold } })

/-- QUIESCE (R181). -/
def execQuiesce (q : Req) (hold : Bool) (s : State) : Host.Outcome State Fault Refusal :=
  s.taken fun p => p.arrive .quiesce q hold (decide (q.bodyLen = 1)) fun p =>
    .take ((p.acceptLong .quiesce q.tag hold).startQuiesce q.tag hold)

end Sys2Proof.Machine
end

