-- ==== Sys2Proof/Machine/DataCmds.lean ====
section
/-! DEFINITION. The meanings of the data requests' arrivals and of the admissions at the head of the Request
Queue. -/

namespace Sys2Proof.Machine

/-! ### Arrivals (R152, R160, R165, R171, R53, R73, R74) -/

/-- A data request that passes its argument checks joins the Request Queue, where it has space (R165 check 6). -/
def Part.enqueue (p : Part) (q : Req) (hold : Bool) (r : DataReq) : Verdict :=
  if Config.requestCap ≤ p.tx.queue.length then .refuse .queueFull []
  else
    .take ((p.modTx fun x => { x with queue := x.queue ++ [{ tag := q.tag, hold := hold, req := r }] }).acceptLong
      r.kind q.tag hold)

/-- A data request arrives. -/
def Part.arriveData (p : Part) (q : Req) (hold : Bool) (len : Nat) (r : DataReq) (argsOk : Part → Bool) : Part :=
  p.arrive r.kind q hold (decide (q.bodyLen = len)) fun p => if argsOk p then p.enqueue q hold r else badArg

/-- A range lies in the logical space and has a length the kind takes. -/
def Part.rangeOk (p : Part) (top start len : Nat) : Bool :=
  decide (1 ≤ len ∧ len ≤ top ∧ start + len ≤ p.bm.geom.L)

/-- Attribute fields in the ranges of Table 4-2. -/
def attrsOk (cls tail verify : Nat) : Bool := decide (cls ≤ 8 ∧ tail ≤ 2 ∧ verify ≤ 2)

/-- PLACE (R75, R171). -/
def execPlace (q : Req) (hold : Bool) (a : PlaceArgs) (s : State) : Host.Outcome State Fault Refusal :=
  s.heard fun p => p.arriveData q hold 16 (.place a) fun p =>
    p.rangeOk Config.placeLen a.start a.len && decide (a.stream ≤ 16) && attrsOk a.cls a.tail a.verify

/-- FETCH (R152). -/
def execFetch (q : Req) (hold : Bool) (start len handle : Nat) (s : State) : Host.Outcome State Fault Refusal :=
  s.heard fun p => p.arriveData q hold 12 (.fetch start len handle) fun p => p.rangeOk Config.placeLen start len

/-- DISCARD (R53). -/
def execDiscard (q : Req) (hold : Bool) (start len : Nat) (s : State) : Host.Outcome State Fault Refusal :=
  s.heard fun p => p.arriveData q hold 11 (.discard start len) fun p => p.rangeOk Config.discardLen start len

/-- LOCATE (R160). -/
def execLocate (q : Req) (start len : Nat) (s : State) : Host.Outcome State Fault Refusal :=
  s.heard fun p => p.arriveData q true 9 (.locate start len) fun p => p.rangeOk Config.locateLen start len

/-- STREAM OPEN (R73). -/
def execStreamOpen (q : Req) (stream cls tail verify idle : Nat) (s : State) : Host.Outcome State Fault Refusal :=
  s.heard fun p => p.arriveData q true 8 (.streamOpen stream cls tail verify idle) fun _ =>
    isStream stream && attrsOk cls tail verify

/-- STREAM CLOSE (R74). -/
def execStreamClose (q : Req) (stream : Nat) (s : State) : Host.Outcome State Fault Refusal :=
  s.heard fun p => p.arriveData q true 1 (.streamClose stream) fun _ => isStream stream

/-! ### Admissions (R168, R169) -/

/-- PLACE_ADMISSION (R77, R169, R171). -/
def execPlaceAdmission (s : State) : Host.Outcome State Fault Refusal := s.taken fun p => p.admitHead .place

/-- FETCH_ADMISSION (R153, R154). -/
def execFetchAdmission (s : State) : Host.Outcome State Fault Refusal := s.taken fun p => p.admitHead .fetch

/-- DISCARD_ADMISSION (R53). -/
def execDiscardAdmission (s : State) : Host.Outcome State Fault Refusal := s.taken fun p => p.admitHead .discard

/-- LOCATE_ADMISSION (R160, R161). -/
def execLocateAdmission (s : State) : Host.Outcome State Fault Refusal := s.taken fun p => p.admitHead .locate

/-- STREAM_OPEN_ADMISSION (R73). -/
def execStreamOpenAdmission (s : State) : Host.Outcome State Fault Refusal :=
  s.taken fun p => p.admitHead .streamOpen

/-- STREAM_CLOSE_ADMISSION (R74). -/
def execStreamCloseAdmission (s : State) : Host.Outcome State Fault Refusal :=
  s.taken fun p => p.admitHead .streamClose

/-- HEAD_REFUSAL (R55, R90, R168). -/
def execHeadRefusal (s : State) : Host.Outcome State Fault Refusal := s.taken Part.refuseHead

end Sys2Proof.Machine
end

