-- ==== Sys2Proof/Machine/LineCmds.lean ====
section
/-! DEFINITION. The meanings of the line events and of the frames that reach no request: COLD_START to
BAD_KIND_REQUEST, and FRAME_SENT. -/

namespace Sys2Proof.Machine

/-- The part after a cold start and the update it starts (R178, log 6); HALTED while PWRFAIL is asserted. No
channel runs and no request waits, so that no report has a taker. -/
def Part.started (p : Part) (pwrfail : Bool) : Part :=
  let f := p.foundMarked
  let q := (p.coldStart f).noNotes.beginSending
  let q := if f.header.mark then q.startUpdate f else q
  if pwrfail then q.silence else q

/-- COLD_START (R178, R189): the straps are sampled and the RESET line is released. -/
def execColdStart (straps : Nat) (s : State) : Host.Outcome State Fault Refusal :=
  .next { s with part := s.part.started s.pins.pwrfail
                 pins := { s.pins with straps := straps, resetLine := false } }

/-- RESET_LINE_ASSERT (R178): the part is held in reset. -/
def execResetLineAssert (s : State) : Host.Outcome State Fault Refusal :=
  .next { s with pins := { s.pins with resetLine := true } }

/-- PWRFAIL_ASSERT (R185); a part held in reset takes nothing until its cold start. -/
def execPwrfailAssert (s : State) : Host.Outcome State Fault Refusal :=
  .next { s with part := if s.pins.resetLine then s.part else s.part.powerFail
                 pins := { s.pins with pwrfail := true } }

/-- PWRFAIL_NEGATE (R185): only the line's level changes (log 24). -/
def execPwrfailNegate (s : State) : Host.Outcome State Fault Refusal :=
  .next { s with pins := { s.pins with pwrfail := false } }

/-- FRAME_DISCARD (R164): every cause has the same effect. -/
def execFrameDiscard (_cause : FrameFault) (s : State) : Host.Outcome State Fault Refusal := s.heard Part.frameLost

/-- BAD_KIND_REQUEST (R165 checks 1 and 2). -/
def execBadKindRequest (tag kindCode : Nat) (s : State) : Host.Outcome State Fault Refusal :=
  s.heard fun p =>
    if p.li.canReserve 1 then p.say (replyMsg tag .badKind (.unknown kindCode) [])
    else p.sayRefusal tag .queueFull (.unknown kindCode)

/-- The Media Link's transmitter (R163): the oldest frame has gone; a HALTED part starts no further one (R185). -/
def Part.mediaSent (p : Part) (silent : Bool) : Part :=
  p.modMp fun m => { m with tx := if silent then [] else m.tx.drop 1 }

/-- FRAME_SENT (R166, R167, R185): a frame whose sending has begun is sent to its end in HALTED too. -/
def execFrameSent (link : Link) (s : State) : Host.Outcome State Fault Refusal :=
  if s.pins.resetLine then .next s
  else
    let halted := decide (s.part.sv.device = .halted)
    .next { s with part := match link with
      | .command => s.part.modLi fun l => l.sent halted
      | .media => s.part.mediaSent halted }

end Sys2Proof.Machine
end

