-- ==== Sys2Proof/Machine/MediaCmds.lean ====
section
/-! DEFINITION. The meanings of the sequencer's messages, of the timer events, of the Media Port's issue and joins,
and of the ends the owners reach. -/

namespace Sys2Proof.Machine

/-! ### The sequencer's messages (R142, R146 to R148) -/

/-- REPORT (R142, R145, R146). -/
def execReport (id : Nat) (status : ReportStatus) (done : Nat) (s : State) : Host.Outcome State Fault Refusal :=
  s.taken fun p => p.takeReport id status done

/-- CANCELLED_ALL (R146, R148). -/
def execCancelledAll (s : State) : Host.Outcome State Fault Refusal := s.taken Part.cancelledAll

/-- READY (R147); the issue it allows is ORDER_ISSUE. -/
def execReady (s : State) : Host.Outcome State Fault Refusal := s.heard Part.setReady

/-- NOT_READY (R147). -/
def execNotReady (s : State) : Host.Outcome State Fault Refusal := s.heard Part.setNotReady

/-- MEDIA_FRAME_DISCARD (R146, R164): every cause has the same effect. -/
def execMediaFrameDiscard (_cause : MediaFault) (s : State) : Host.Outcome State Fault Refusal :=
  s.heard Part.mediaLinkError

/-! ### Timer events (R84, R141, R144, R145, R180, R182, R183) -/

/-- ORDER_TIMER_EXPIRY (R144). -/
def execOrderTimerExpiry (id : Nat) (s : State) : Host.Outcome State Fault Refusal :=
  s.taken fun p => p.orderExpired id

/-- CANCEL_REPEAT (R145). -/
def execCancelRepeat (id : Nat) (s : State) : Host.Outcome State Fault Refusal := s.heard fun p => p.cancelAgain id

/-- MEDIA_IDLE (R108, R141). -/
def execMediaIdle (s : State) : Host.Outcome State Fault Refusal := s.taken Part.mediaIdled

/-- STREAM_IDLE_EXPIRY (R84). -/
def execStreamIdleExpiry (stream : Nat) (s : State) : Host.Outcome State Fault Refusal :=
  s.taken fun p => p.streamExpired stream

/-- DIGEST_CHECK (R183, R184). -/
def execDigestCheck (s : State) : Host.Outcome State Fault Refusal := s.taken Part.digestExpired

/-- HOUR_ADVANCE (R182). -/
def execHourAdvance (s : State) : Host.Outcome State Fault Refusal := s.taken Part.hourPassed

/-- MOUNT_DIGEST_END (R180). -/
def execMountDigestEnd (s : State) : Host.Outcome State Fault Refusal := s.taken Part.mountEnd

/-! ### Durability (R52, R53, R60, R173, R177, R179, R184) -/

/-- FORMAT_COMPLETE (R179): the third update becomes durable. -/
def execFormatComplete (s : State) : Host.Outcome State Fault Refusal := s.taken Part.formatComplete

/-- RESTORE_COMPLETE (R184). -/
def execRestoreComplete (s : State) : Host.Outcome State Fault Refusal :=
  s.taken fun p => p.followDurable .restore

/-- STORE_UPDATE_DURABLE (R177). -/
def execStoreUpdateDurable (update : Nat) (s : State) : Host.Outcome State Fault Refusal :=
  s.taken fun p => p.updateDurable update

/-- PLACE_UPDATE_DURABLE (R173). -/
def execPlaceUpdateDurable (tag : Nat) (s : State) : Host.Outcome State Fault Refusal :=
  s.taken fun p => p.followDurable (.place tag)

/-- DISCARD_UPDATE_DURABLE (R53). -/
def execDiscardUpdateDurable (tag : Nat) (s : State) : Host.Outcome State Fault Refusal :=
  s.taken fun p => p.followDurable (.discard tag)

/-- REMAP_UPDATE_DURABLE (R60). -/
def execRemapUpdateDurable (dstBand dstOff : Nat) (s : State) : Host.Outcome State Fault Refusal :=
  s.taken fun p => p.followDurable (.remap dstBand dstOff)

/-! ### Issue, joins and ends (R114, R121, R136, R140, R155, R156, R173, R181) -/

/-- ORDER_ISSUE (R138 to R140). -/
def execOrderIssue (s : State) : Host.Outcome State Fault Refusal := s.heard Part.tryIssue

/-- ORDER_REJOIN (R136). -/
def execOrderRejoin (owner : Owner) (s : State) : Host.Outcome State Fault Refusal := s.taken fun p => p.rejoin owner

/-- What stands still from the arrival of a RESET request (R123, R162, R175). -/
def Part.unlessReset (p : Part) (f : Part → Part) : Part := if p.resetting then p else f p

/-- FETCH_RETRY_JOIN (R156). -/
def execFetchRetryJoin (tag lba : Nat) (s : State) : Host.Outcome State Fault Refusal :=
  s.taken fun p => p.unlessReset fun p => p.fetchRetryJoin tag lba

/-- A waiting piece of a channel's copy is posted again (R114). -/
def Part.repost (p : Part) (c : Nat) : Part :=
  match (p.chan c).copy.bind Copy.waitingPiece with
  | some i => p.postPiece c i
  | none => p

/-- REMAP_POST_RETRY (R114). -/
def execRemapPostRetry (c : Nat) (s : State) : Host.Outcome State Fault Refusal :=
  s.taken fun p => p.unlessReset fun p => p.repost c

/-- PLACE_MAP_UPDATE (R173). -/
def execPlaceMapUpdate (tag : Nat) (s : State) : Host.Outcome State Fault Refusal :=
  s.taken fun p => p.unlessReset fun p => p.placeMap tag

/-- TRANSACTION_CANCELLING_END (R173). -/
def execTransactionCancellingEnd (tag : Nat) (s : State) : Host.Outcome State Fault Refusal :=
  s.taken fun p => p.unlessReset fun p => (p.landPositions tag).cancellingEnd tag

/-- FETCH_END (R155). -/
def execFetchEnd (tag : Nat) (s : State) : Host.Outcome State Fault Refusal :=
  s.taken fun p => p.unlessReset fun p => p.fetchEnd tag

/-- QUIESCE_DRAIN_END (R181). -/
def execQuiesceDrainEnd (s : State) : Host.Outcome State Fault Refusal := s.taken Part.drainEnd

/-- A channel's stop goes on to its end (R121). -/
def Part.stopEnd (p : Part) (c : Nat) : Part :=
  if (p.chan c).stop.isSome then
    (if (p.chan c).copy.isNone then p.completeStop c else p.copyCheck c)
  else p

/-- CHANNEL_STOP_COMPLETE (R121). -/
def execChannelStopComplete (c : Nat) (s : State) : Host.Outcome State Fault Refusal :=
  s.taken fun p => p.unlessReset fun p => p.stopEnd c

end Sys2Proof.Machine
end

