-- ==== Sys2Proof/Machine/Dispatch.lean ====
section
/-! DEFINITION. The meaning of each command, one arm for each row of spec/opcode_table.json. -/

namespace Sys2Proof.Machine

def exec (i : Instr) (s : State) : Host.Outcome State Fault Refusal :=
  match i with
  | .coldStart straps => Sys2Proof.Machine.execColdStart straps s
  | .resetLineAssert => Sys2Proof.Machine.execResetLineAssert s
  | .pwrfailAssert => Sys2Proof.Machine.execPwrfailAssert s
  | .pwrfailNegate => Sys2Proof.Machine.execPwrfailNegate s
  | .frameDiscard cause => Sys2Proof.Machine.execFrameDiscard cause s
  | .badKindRequest tag kindCode => Sys2Proof.Machine.execBadKindRequest tag kindCode s
  | .status q => Sys2Proof.Machine.execStatus q s
  | .cancel q target => Sys2Proof.Machine.execCancel q target s
  | .eventsRead q form => Sys2Proof.Machine.execEventsRead q form s
  | .eventsClear q flags => Sys2Proof.Machine.execEventsClear q flags s
  | .eventsMask q mask => Sys2Proof.Machine.execEventsMask q mask s
  | .tally q slot clear => Sys2Proof.Machine.execTally q slot clear s
  | .band q band => Sys2Proof.Machine.execBand q band s
  | .triggerSet q channel action => Sys2Proof.Machine.execTriggerSet q channel action s
  | .triggerClear q channel => Sys2Proof.Machine.execTriggerClear q channel s
  | .reset q => Sys2Proof.Machine.execReset q s
  | .format q g retired => Sys2Proof.Machine.execFormat q g retired s
  | .retire q track => Sys2Proof.Machine.execRetire q track s
  | .classRead q cls form => Sys2Proof.Machine.execClassRead q cls form s
  | .classWrite q cls v => Sys2Proof.Machine.execClassWrite q cls v s
  | .regionRead q form => Sys2Proof.Machine.execRegionRead q form s
  | .regionWrite q records => Sys2Proof.Machine.execRegionWrite q records s
  | .scoringRead q form clear => Sys2Proof.Machine.execScoringRead q form clear s
  | .scoringWrite q clear mode => Sys2Proof.Machine.execScoringWrite q clear mode s
  | .scoringEvaluate q clear band => Sys2Proof.Machine.execScoringEvaluate q clear band s
  | .channelRead q channel form => Sys2Proof.Machine.execChannelRead q channel form s
  | .channelWrite q channel v => Sys2Proof.Machine.execChannelWrite q channel v s
  | .timersRead q form => Sys2Proof.Machine.execTimersRead q form s
  | .timersWrite q v => Sys2Proof.Machine.execTimersWrite q v s
  | .mount q hold => Sys2Proof.Machine.execMount q hold s
  | .quiesce q hold => Sys2Proof.Machine.execQuiesce q hold s
  | .restore q g retired => Sys2Proof.Machine.execRestore q g retired s
  | .place q hold a => Sys2Proof.Machine.execPlace q hold a s
  | .fetch q hold start len handle => Sys2Proof.Machine.execFetch q hold start len handle s
  | .discard q hold start len => Sys2Proof.Machine.execDiscard q hold start len s
  | .locate q start len => Sys2Proof.Machine.execLocate q start len s
  | .streamOpen q stream cls tail verify idle => Sys2Proof.Machine.execStreamOpen q stream cls tail verify idle s
  | .streamClose q stream => Sys2Proof.Machine.execStreamClose q stream s
  | .report id status done => Sys2Proof.Machine.execReport id status done s
  | .cancelledAll => Sys2Proof.Machine.execCancelledAll s
  | .ready => Sys2Proof.Machine.execReady s
  | .notReady => Sys2Proof.Machine.execNotReady s
  | .mediaFrameDiscard cause => Sys2Proof.Machine.execMediaFrameDiscard cause s
  | .frameSent link => Sys2Proof.Machine.execFrameSent link s
  | .orderTimerExpiry id => Sys2Proof.Machine.execOrderTimerExpiry id s
  | .cancelRepeat id => Sys2Proof.Machine.execCancelRepeat id s
  | .mediaIdle => Sys2Proof.Machine.execMediaIdle s
  | .streamIdleExpiry stream => Sys2Proof.Machine.execStreamIdleExpiry stream s
  | .digestCheck => Sys2Proof.Machine.execDigestCheck s
  | .hourAdvance => Sys2Proof.Machine.execHourAdvance s
  | .mountDigestEnd => Sys2Proof.Machine.execMountDigestEnd s
  | .formatComplete => Sys2Proof.Machine.execFormatComplete s
  | .restoreComplete => Sys2Proof.Machine.execRestoreComplete s
  | .storeUpdateDurable update => Sys2Proof.Machine.execStoreUpdateDurable update s
  | .placeUpdateDurable tag => Sys2Proof.Machine.execPlaceUpdateDurable tag s
  | .discardUpdateDurable tag => Sys2Proof.Machine.execDiscardUpdateDurable tag s
  | .remapUpdateDurable dstBand dstOff => Sys2Proof.Machine.execRemapUpdateDurable dstBand dstOff s
  | .placeAdmission => Sys2Proof.Machine.execPlaceAdmission s
  | .fetchAdmission => Sys2Proof.Machine.execFetchAdmission s
  | .discardAdmission => Sys2Proof.Machine.execDiscardAdmission s
  | .locateAdmission => Sys2Proof.Machine.execLocateAdmission s
  | .streamOpenAdmission => Sys2Proof.Machine.execStreamOpenAdmission s
  | .streamCloseAdmission => Sys2Proof.Machine.execStreamCloseAdmission s
  | .headRefusal => Sys2Proof.Machine.execHeadRefusal s
  | .orderIssue => Sys2Proof.Machine.execOrderIssue s
  | .orderRejoin owner => Sys2Proof.Machine.execOrderRejoin owner s
  | .fetchRetryJoin tag lba => Sys2Proof.Machine.execFetchRetryJoin tag lba s
  | .remapPostRetry channel => Sys2Proof.Machine.execRemapPostRetry channel s
  | .placeMapUpdate tag => Sys2Proof.Machine.execPlaceMapUpdate tag s
  | .transactionCancellingEnd tag => Sys2Proof.Machine.execTransactionCancellingEnd tag s
  | .fetchEnd tag => Sys2Proof.Machine.execFetchEnd tag s
  | .quiesceDrainEnd => Sys2Proof.Machine.execQuiesceDrainEnd s
  | .channelStopComplete channel => Sys2Proof.Machine.execChannelStopComplete channel s

end Sys2Proof.Machine
end

