-- ==== Sys2Proof/Machine/Receive.lean ====
section
/-! DEFINITION. Reception: the receivers of the two links, from characters to frames (R163, R164), and the command
that a frame carries, from its kind and its body (R176, Tables 10-6, 10-7, 10-9, 10-10). -/

namespace Sys2Proof.Machine

/-! ### Characters to frames (R163, R164) -/

/-- A number from its characters, most significant first (R176). -/
def charsNat (cs : List Byte) : Nat := cs.foldl (fun n c => 256 * n + c.toNat) 0

/-- What a receiver passes on with a character: nothing, a frame whose check matches, or a discard. -/
inductive Received where
  | nothing
  | frame (kind tag : Nat) (body : List Byte)
  | discard (cause : FrameFault)
  deriving DecidableEq, Repr

/-- The body length of a frame, from its first two characters after the start. -/
def frameLen (chars : List Byte) : Nat := charsNat (chars.take 2)

/-- What the characters of a frame from its length on come to when the last of them has arrived: more are to come, or
the frame is passed on or discarded. A length above 6,449 is known with its second character (R164). -/
def assembled (chars : List Byte) : Receiver × Received :=
  let n := frameLen chars
  if chars.length < 2 then (.assembling chars, .nothing)
  else if Config.bodyCap < n then (.hunting, .discard .oversize)
  else if chars.length < n + 6 then (.assembling chars, .nothing)
  else
    let covered := chars.take (n + 4)
    if (crc16 covered).toNat = charsNat (chars.drop (n + 4)) then
      (.hunting, .frame (charsNat ((covered.drop 2).take 1)) (charsNat ((covered.drop 3).take 1)) (covered.drop 4))
    else (.hunting, .discard .badCheck)

/-- A receiver takes a character (R163, R164). A hunting receiver begins at a C3h, and passes over every other
character, one with a stop-bit error too. -/
def Receiver.take (r : Receiver) (c : LineChar) : Receiver × Received :=
  match r, c with
  | .hunting, .byte b => (if b = 0xC3#8 then .assembling [] else .hunting, .nothing)
  | .hunting, .stopError => (.hunting, .nothing)
  | .assembling l, .byte b => assembled (l ++ [b])
  | .assembling _, .stopError => (.hunting, .discard .stopBit)

/-- A receiver takes characters one after another: where it comes to, and all it passes on but nothings. -/
def Receiver.takeAll (r : Receiver) (cs : List LineChar) : Receiver × List Received :=
  cs.foldl (fun acc c =>
    let x := acc.1.take c
    (x.1, if x.2 = .nothing then acc.2 else acc.2 ++ [x.2])) (r, [])

/-! ### Fields of a body (R176) -/

/-- The number in `n` characters of a body from character `i` on; characters that are not there count as 0. A body
that is too short is refused by its length, whatever its fields are. -/
def field (body : List Byte) (i n : Nat) : Nat :=
  charsNat ((List.range n).map fun k => body.getD (i + k) 0#8)

/-- Bit 0 of a flags character; its other bits are ignored (R176). -/
def flagOf (body : List Byte) (i : Nat) : Bool := decide (field body i 1 % 2 = 1)

/-- A set of event flags in two characters; bits not assigned are ignored (R176). -/
def eventsOf (body : List Byte) (i : Nat) : EventBits := BitVec.ofNat 12 (field body i 2)

/-- Records of `size` characters each, from character `i` on. -/
def recordsOf {α : Type} (count size i : Nat) (f : Nat → α) : List α :=
  (List.range count).map fun k => f (i + size * k)

/-- A zone record of FORMAT or RESTORE (Table 10-10). -/
def zoneOf (body : List Byte) (i : Nat) : Zone :=
  { first := field body i 3, pairs := field body (i + 3) 2, T := field body (i + 5) 2, S := field body (i + 7) 2 }

/-- The Geometry Table and the Retired Track List of FORMAT or RESTORE (Table 10-10). -/
def tablesOf (body : List Byte) : Geometry × List Nat :=
  let i := 2 + 9 * field body 1 1
  ({ K := field body 0 1
     zones := recordsOf (field body 1 1) 9 2 (zoneOf body)
     stgFirst := field body i 3
     stgCount := field body (i + 3) 3
     stgS := field body (i + 6) 2
     L := field body (i + 8) 5 },
    recordsOf (field body (i + 13) 2) 3 (i + 15) fun j => field body j 3)

/-- A record of REGION (Table 10-10). -/
def regionAt (body : List Byte) (i : Nat) : Region :=
  { start := field body i 5, len := field body (i + 5) 5, cls := field body (i + 10) 1, tail := field body (i + 11) 1
    verify := field body (i + 12) 1 }

/-- The fields of CLASS's write form (Table 10-10). -/
def classArgsOf (body : List Byte) : ClassArgs :=
  { firstZone := field body 2 1, lastZone := field body 3 1, quota := field body 4 2, weight := field body 6 1
    slot := field body 7 1 }

/-- The fields of CHANNEL's write form (Table 10-10). -/
def channelArgsOf (body : List Byte) : ChannelArgs :=
  { enable := field body 2 1, job := field body 3 1, source := field body 4 1, mode := field body 5 1
    count := field body 6 2, destClass := field body 8 1, victims := BitVec.ofNat 16 (field body 9 2)
    handle := field body 11 4, compareHour := field body 15 4, period := field body 19 4, freeLow := field body 23 2 }

/-- The fields of TIMERS' write form (Table 10-10). -/
def timerArgsOf (body : List Byte) : TimerArgs :=
  { orderTimeout := field body 1 2, idleDelay := field body 3 2, burst := field body 5 1, reserve := field body 6 1
    suspect := field body 7 1, highMark := field body 8 1, digestMinutes := field body 9 2
    eventFreeLow := field body 11 2 }

/-- The fields of a PLACE (Table 10-7). -/
def placeArgsOf (body : List Byte) : PlaceArgs :=
  { stream := field body 1 1, cls := field body 2 1, tail := field body 3 1, verify := field body 4 1
    start := field body 5 5, len := field body 10 2, handle := field body 12 4 }

/-! ### Frames to commands (Tables 10-6, 10-7, 10-9, 10-10) -/

/-- The command that a Command Link frame carries: the request of its kind code and form, or BAD_KIND_REQUEST. -/
def requestCommand (kind tag : Nat) (body : List Byte) : Instr :=
  let q : Req := { tag := tag, bodyLen := body.length }
  let at_ := field body
  match kind with
  | 0x01 => .status q
  | 0x02 => .cancel q (at_ 0 1)
  | 0x03 => match at_ 0 1 with
    | 1 => .eventsClear q (eventsOf body 1)
    | 2 => .eventsMask q (eventsOf body 1)
    | f => .eventsRead q f
  | 0x04 => .tally q (at_ 0 1) (flagOf body 1)
  | 0x05 => .band q (at_ 0 2)
  | 0x06 => match at_ 1 1 with
    | 1 => .triggerClear q (at_ 0 1)
    | a => .triggerSet q (at_ 0 1) a
  | 0x07 => .reset q
  | 0x10 => .format q (tablesOf body).1 (tablesOf body).2
  | 0x11 => .retire q (at_ 0 4)
  | 0x12 => match at_ 1 1 with
    | 1 => .classWrite q (at_ 0 1) (classArgsOf body)
    | f => .classRead q (at_ 0 1) f
  | 0x13 => match at_ 0 1 with
    | 1 => .regionWrite q (recordsOf (at_ 1 1) 13 2 (regionAt body))
    | f => .regionRead q f
  | 0x14 => match at_ 0 1 with
    | 1 => .scoringWrite q (flagOf body 1) (at_ 2 1)
    | 2 => .scoringEvaluate q (flagOf body 1) (at_ 2 2)
    | f => .scoringRead q f (flagOf body 1)
  | 0x15 => match at_ 1 1 with
    | 1 => .channelWrite q (at_ 0 1) (channelArgsOf body)
    | f => .channelRead q (at_ 0 1) f
  | 0x16 => match at_ 0 1 with
    | 1 => .timersWrite q (timerArgsOf body)
    | f => .timersRead q f
  | 0x17 => .mount q (flagOf body 0)
  | 0x18 => .quiesce q (flagOf body 0)
  | 0x19 => .restore q (tablesOf body).1 (tablesOf body).2
  | 0x20 => .place q (flagOf body 0) (placeArgsOf body)
  | 0x21 => .fetch q (flagOf body 0) (at_ 1 5) (at_ 6 2) (at_ 8 4)
  | 0x22 => .locate q (at_ 0 5) (at_ 5 4)
  | 0x23 => .discard q (flagOf body 0) (at_ 1 5) (at_ 6 5)
  | 0x24 => .streamOpen q (at_ 0 1) (at_ 1 1) (at_ 2 1) (at_ 3 1) (at_ 4 4)
  | 0x25 => .streamClose q (at_ 0 1)
  | k => .badKindRequest tag k

/-- The status of a REPORT (Table 10-9). -/
def reportStatusOf : Nat → Option ReportStatus
  | 0 => some .ok
  | 1 => some .fault
  | 2 => some .cancelled
  | _ => none

/-- The body length of a kind that the part takes from the sequencer (Table 10-9). -/
def mediaBodyLen : Nat → Option Nat
  | 0x68 => some 3
  | 0x69 | 0x6A | 0x6B => some 0
  | _ => none

/-- The command that a Media Link frame carries (Table 10-9), or its discard: of a kind that the part does not take
from the sequencer, and of a body length other than its kind's (R164). A REPORT whose status the table does not list
is discarded like a kind that is not taken. DESIGN CHOICE, log 36. -/
def mediaCommand (kind tag : Nat) (body : List Byte) : Instr :=
  match mediaBodyLen kind with
  | none => .mediaFrameDiscard .badKind
  | some n =>
    if body.length ≠ n then .mediaFrameDiscard .badLength
    else match kind with
      | 0x68 => match reportStatusOf (field body 0 1) with
        | some st => .report tag st (field body 1 2)
        | none => .mediaFrameDiscard .badKind
      | 0x69 => .cancelledAll
      | 0x6A => .ready
      | _ => .notReady

/-- The discard of a Media Link frame (R146, R164). -/
def mediaFault : FrameFault → MediaFault
  | .stopBit => .stopBit
  | .oversize => .oversize
  | .badCheck => .badCheck

/-- The command that a receiver's finding brings. -/
def receivedCommand (l : Link) (r : Received) : Option Instr :=
  match l, r with
  | _, .nothing => none
  | .command, .frame kind tag body => some (requestCommand kind tag body)
  | .command, .discard cause => some (.frameDiscard cause)
  | .media, .frame kind tag body => some (mediaCommand kind tag body)
  | .media, .discard cause => some (.mediaFrameDiscard (mediaFault cause))

/-! ### The receivers of the part -/

/-- The receiver of a link. -/
def Part.receiver (p : Part) : Link → Receiver
  | .command => p.li.rx
  | .media => p.mp.rx

def Part.setReceiver (p : Part) (l : Link) (r : Receiver) : Part :=
  match l with
  | .command => p.modLi fun x => { x with rx := r }
  | .media => p.modMp fun x => { x with rx := r }

/-- The part takes a character from a link; what a frame or a discard brings waits as a command (log 36). A part that
takes nothing does not receive it (R178, R185). -/
def State.receive (s : State) (a : Arrival) : State :=
  if s.deaf then s
  else
    let r := (s.part.receiver a.link).take a.char
    { s with part := s.part.setReceiver a.link r.1
             pending := s.pending ++ (receivedCommand a.link r.2).toList }

end Sys2Proof.Machine
end

