-- ==== Sys2Proof/Machine/Step.lean ====
section
/-! DEFINITION. One step: the command at the front of the queue is taken; on an empty queue a receiver takes the
oldest character on the links (log 36), and where there is none a millisecond passes (log 2). -/

namespace Sys2Proof.Machine

/-- A step without a command. -/
def State.rest (s : State) : State :=
  match s.line with
  | [] => s.idle
  | a :: more => ({ s with line := more } : State).receive a

/-- Take the command at the front of the queue. -/
def step (s : State) : Host.Outcome State Fault Refusal :=
  match s.pending with
  | [] => .next s.rest
  | c :: rest => exec c { s with pending := rest }

/-- The state with the command that a word spells at the front of its queue; no word spells one. -/
def State.withFetchWord (s : State) (nbits w : Nat) : State :=
  match decodeTableWord nbits w with
  | some c => { s with pending := c :: s.pending }
  | none => s

end Sys2Proof.Machine
end

