-- ==== Sys2Proof/Safety.lean ====
section
/-! DEFINITION. What counts as a safe step, and the properties of the state that every step is to keep. -/

namespace Sys2Proof.Machine

/-- The step neither faults nor is refused. -/
def State.safe (s : State) : Bool :=
  match step s with
  | .next _ => true
  | .fault _ => false
  | .refused _ => false

/-- The Order Queue within its bounds (R136, R138): at most 64 orders, each with an id of its own from 0 to 63, at
most 8 of them ISSUED or CANCELLING, and a QUEUED order's timer stopped. -/
structure OrderQueueOk (l : List Order) : Prop where
  places : l.length ≤ Config.orderCap
  ids : (l.map Order.id).Nodup
  range : ∀ o ∈ l, o.id < Config.orderCap
  window : windowCount l ≤ Config.windowCap
  timers : ∀ o ∈ l, o.state = .queued → o.timer = .stopped

/-- ALERT is asserted exactly while an unmasked flag is pending (R186). -/
def Part.AlertOk (p : Part) : Prop := p.sv.alert = alertLevel p.sv.events p.sv.mask

/-- A message is being sent only while one stands in the transmit queue (R166). -/
def Part.SendingOk (p : Part) : Prop := p.li.sending = true → p.li.queue ≠ []

/-- Between two events no report between blocks waits (log 4), and no step waits for an update that has not been
started (log 6). -/
def Part.Rested (p : Part) : Prop := p.notes = [] ∧ p.store.follows = []

/-- No report between blocks has a taker: every channel is DISABLED, no QUIESCE is in progress, and no PLACE is held
for staging space. -/
def Part.Still (p : Part) : Prop :=
  (∀ k ∈ p.re.chans, k.state = .disabled ∧ k.copy = none) ∧ p.sv.quiesce = none ∧ p.sl.held = false

end Sys2Proof.Machine
end

