-- ==== Sys2Proof/WellFormed.lean ====
section
/-! DEFINITION. Which commands a frame or an event can carry: every operand fits in the characters that Tables
10-5, 10-7, 10-9 and 10-10 give it, and a form character is not another row's. -/

namespace Sys2Proof

/-- A value fits in a number of characters (R176). -/
def fits (chars v : Nat) : Bool := decide (v < 256 ^ chars)

def Req.wf (q : Req) : Bool := fits 1 q.tag && decide (q.bodyLen ≤ Config.bodyCap)

def Zone.wf (z : Zone) : Bool := fits 3 z.first && fits 2 z.pairs && fits 2 z.T && fits 2 z.S

def Geometry.wf (g : Geometry) : Bool :=
  fits 1 g.K && fits 1 g.zones.length && g.zones.all Zone.wf && fits 3 g.stgFirst && fits 3 g.stgCount
    && fits 2 g.stgS && fits 5 g.L

def Region.wf (r : Region) : Bool :=
  fits 5 r.start && fits 5 r.len && fits 1 r.cls && fits 1 r.tail && fits 1 r.verify

def ClassArgs.wf (v : ClassArgs) : Bool :=
  fits 1 v.firstZone && fits 1 v.lastZone && fits 2 v.quota && fits 1 v.weight && fits 1 v.slot

def ChannelArgs.wf (v : ChannelArgs) : Bool :=
  fits 1 v.enable && fits 1 v.job && fits 1 v.source && fits 1 v.mode && fits 2 v.count && fits 1 v.destClass
    && fits 4 v.handle && fits 4 v.compareHour && fits 4 v.period && fits 2 v.freeLow

def TimerArgs.wf (v : TimerArgs) : Bool :=
  fits 2 v.orderTimeout && fits 2 v.idleDelay && fits 1 v.burst && fits 1 v.reserve && fits 1 v.suspect
    && fits 1 v.highMark && fits 2 v.digestMinutes && fits 2 v.eventFreeLow

def PlaceArgs.wf (a : PlaceArgs) : Bool :=
  fits 1 a.stream && fits 1 a.cls && fits 1 a.tail && fits 1 a.verify && fits 5 a.start && fits 2 a.len
    && fits 4 a.handle

/-- The tables of a FORMAT or RESTORE fit the body that carries them (R176). -/
def tablesWf (g : Geometry) (retired : List Nat) : Bool :=
  g.wf && fits 2 retired.length && retired.all (fits 3)

/-- A request kind's code (Table 10-6): a frame of another kind is BAD_KIND_REQUEST's. -/
def isRequestCode (k : Nat) : Bool :=
  (1 ≤ k && k ≤ 7) || (0x10 ≤ k && k ≤ 0x19) || (0x20 ≤ k && k ≤ 0x25)

def Owner.wf : Owner → Bool
  | .txn t => fits 1 t
  | .chan c => decide (c < 4)

/-- A command that a frame, a line or a unit of the part can bring. -/
def Instr.wf : Instr → Bool
  | .coldStart straps => decide (straps < 4)
  | .resetLineAssert => true
  | .pwrfailAssert => true
  | .pwrfailNegate => true
  | .frameDiscard _ => true
  | .badKindRequest tag k => fits 1 tag && fits 1 k && !isRequestCode k
  | .status q => q.wf
  | .cancel q t => q.wf && fits 1 t
  | .eventsRead q f => q.wf && fits 1 f && f != 1 && f != 2
  | .eventsClear q _ => q.wf
  | .eventsMask q _ => q.wf
  | .tally q slot _ => q.wf && fits 1 slot
  | .band q b => q.wf && fits 2 b
  | .triggerSet q c a => q.wf && fits 1 c && fits 1 a && a != 1
  | .triggerClear q c => q.wf && fits 1 c
  | .reset q => q.wf
  | .format q g r => q.wf && tablesWf g r
  | .retire q t => q.wf && fits 4 t
  | .classRead q c f => q.wf && fits 1 c && fits 1 f && f != 1
  | .classWrite q c v => q.wf && fits 1 c && v.wf
  | .regionRead q f => q.wf && fits 1 f && f != 1
  | .regionWrite q rs => q.wf && fits 1 rs.length && rs.all Region.wf
  | .scoringRead q f _ => q.wf && fits 1 f && f != 1 && f != 2
  | .scoringWrite q _ m => q.wf && fits 1 m
  | .scoringEvaluate q _ b => q.wf && fits 2 b
  | .channelRead q c f => q.wf && fits 1 c && fits 1 f && f != 1
  | .channelWrite q c v => q.wf && fits 1 c && v.wf
  | .timersRead q f => q.wf && fits 1 f && f != 1
  | .timersWrite q v => q.wf && v.wf
  | .mount q _ => q.wf
  | .quiesce q _ => q.wf
  | .restore q g r => q.wf && tablesWf g r
  | .place q _ a => q.wf && a.wf
  | .fetch q _ s l h => q.wf && fits 5 s && fits 2 l && fits 4 h
  | .discard q _ s l => q.wf && fits 5 s && fits 5 l
  | .locate q s l => q.wf && fits 5 s && fits 4 l
  | .streamOpen q s c t v i => q.wf && fits 1 s && fits 1 c && fits 1 t && fits 1 v && fits 4 i
  | .streamClose q s => q.wf && fits 1 s
  | .report id _ done => fits 1 id && fits 2 done
  | .cancelledAll => true
  | .ready => true
  | .notReady => true
  | .mediaFrameDiscard _ => true
  | .frameSent _ => true
  | .orderTimerExpiry id => decide (id < Config.orderCap)
  | .cancelRepeat id => decide (id < Config.orderCap)
  | .mediaIdle => true
  | .streamIdleExpiry s => decide (1 ≤ s ∧ s ≤ 16)
  | .digestCheck => true
  | .hourAdvance => true
  | .mountDigestEnd => true
  | .formatComplete => true
  | .restoreComplete => true
  | .storeUpdateDurable _ => true
  | .placeUpdateDurable t => fits 1 t
  | .discardUpdateDurable t => fits 1 t
  | .remapUpdateDurable _ _ => true
  | .placeAdmission => true
  | .fetchAdmission => true
  | .discardAdmission => true
  | .locateAdmission => true
  | .streamOpenAdmission => true
  | .streamCloseAdmission => true
  | .headRefusal => true
  | .orderIssue => true
  | .orderRejoin o => o.wf
  | .fetchRetryJoin t _ => fits 1 t
  | .remapPostRetry c => decide (c < 4)
  | .placeMapUpdate t => fits 1 t
  | .transactionCancellingEnd t => fits 1 t
  | .fetchEnd t => fits 1 t
  | .quiesceDrainEnd => true
  | .channelStopComplete c => decide (c < 4)

end Sys2Proof
end

