-- ==== Sys2Proof/Certificates/Slice0/Obligations.lean ====
section
/-! DEFINITION. The statements for the provers, and the words they are stated in (namespace Sys2Proof.Spec). -/

namespace Sys2Proof.Spec

open Sys2Proof.Machine

/-! ### Words of the statements -/

/-- The part takes commands: its RESET line is negated and it is not HALTED. -/
def Hears (s : State) : Prop := s.pins.resetLine = false ∧ s.part.sv.device ≠ .halted

/-- The state after an event that changes nothing stored: an idle transmitter begins (log 16). -/
def tell (s : State) (p : Part) : State := { s with part := p.beginSending }

/-- The state after an event: an idle transmitter begins, and the Map Store update of what the event changed, or of
what waits for it, is started (R177). -/
def commit (s : State) (p : Part) : State := { s with part := p.beginSending.startUpdate s.part.image }

/-- The state after an event whose reports between blocks are worked off first (log 4). -/
def after (s : State) (p : Part) : State := commit s p.drainAll

/-- A step waits for the Map Store update of this event, and a place is reserved for the message it queues (R166,
R177). -/
def waits (p : Part) (f : Follow) : Part :=
  { p with
    li := { p.li with reserved := p.li.reserved + 1 }
    store := { p.store with follows := p.store.follows ++ [f] } }

/-- A long request is taken: REPLY TAKEN where its hold flag is clear, and a place is reserved for its last message
(R166, R167). -/
def long (p : Part) (k : ReqKind) (tag : Nat) (hold : Bool) : Part :=
  let q := if hold then p else p.say { tag := tag, place := .ordinary, payload := .reply .taken k [] }
  { q with li := { q.li with reserved := q.li.reserved + 1 } }

/-- The last message of a long request: DONE, or REPLY where its hold flag is set (R167). -/
def last (k : ReqKind) (hold : Bool) (tag : Nat) (r : Result) (items : List Item) : Message :=
  { tag := tag, place := .ordinary, payload := if hold then .reply r k items else .done r k items }

/-- So many ordinary places of the transmit queue can be reserved (R166). -/
def Room (p : Part) (n : Nat) : Prop :=
  (p.li.queue.countP fun m => decide (m.place = .ordinary)) + p.li.reserved + n ≤ 70

/-- A tag is not in the tag set (R165). -/
def TagFree (p : Part) (tag : Nat) : Prop :=
  (∀ x ∈ p.tx.queue, x.tag ≠ tag) ∧ (∀ t ∈ p.tx.txns, t.tag ≠ tag) ∧ p.sv.mount.map MountWork.tag ≠ some tag ∧
    p.sv.quiesce.map QuiesceWork.tag ≠ some tag ∧ p.sv.format.map FormatWork.tag ≠ some tag ∧
    p.sv.restore ≠ some tag

/-- A request of a kind passes the checks of R165 up to its kind's arguments: it owes so many messages, and its body
has the length it must have. -/
structure Arrives (s : State) (k : ReqKind) (q : Req) (owes len : Nat) : Prop where
  hears : Hears s
  places : Room s.part owes
  tag : k = .cancel ∨ TagFree s.part q.tag
  reset : k = .status ∨ s.part.sv.reset = none
  length : q.bodyLen = len
  tables : k.isSetup = true → s.part.sv.format = none ∧ s.part.sv.restore = none
  state : k.takenIn s.part.sv.device = true

/-- The REPLY OK of a request, with its items. -/
def okReply (q : Req) (k : ReqKind) (items : List Item) : Message :=
  { tag := q.tag, place := .ordinary, payload := .reply .ok k items }

/-- The REPLY that refuses a request. -/
def refusal (q : Req) (k : ReqKind) (r : Result) (items : List Item) : Message :=
  { tag := q.tag, place := .ordinary, payload := .reply r k items }

/-- The kind, the request and the hold flag of a request command but RESET; a request without a hold flag counts as
held, since it owes one message. -/
def requestOf : Instr → Option (ReqKind × Req × Bool)
  | .status q => some (.status, q, true)
  | .cancel q _ => some (.cancel, q, true)
  | .eventsRead q _ => some (.events, q, true)
  | .eventsClear q _ => some (.events, q, true)
  | .eventsMask q _ => some (.events, q, true)
  | .tally q _ _ => some (.tally, q, true)
  | .band q _ => some (.band, q, true)
  | .triggerSet q _ _ => some (.trigger, q, true)
  | .triggerClear q _ => some (.trigger, q, true)
  | .format q _ _ => some (.format, q, true)
  | .retire q _ => some (.retire, q, true)
  | .classRead q _ _ => some (.cls, q, true)
  | .classWrite q _ _ => some (.cls, q, true)
  | .regionRead q _ => some (.region, q, true)
  | .regionWrite q _ => some (.region, q, true)
  | .scoringRead q _ _ => some (.scoring, q, true)
  | .scoringWrite q _ _ => some (.scoring, q, true)
  | .scoringEvaluate q _ _ => some (.scoring, q, true)
  | .channelRead q _ _ => some (.channel, q, true)
  | .channelWrite q _ _ => some (.channel, q, true)
  | .timersRead q _ => some (.timers, q, true)
  | .timersWrite q _ => some (.timers, q, true)
  | .mount q hold => some (.mount, q, hold)
  | .quiesce q hold => some (.quiesce, q, hold)
  | .restore q _ _ => some (.restore, q, true)
  | .place q hold _ => some (.place, q, hold)
  | .fetch q hold _ _ _ => some (.fetch, q, hold)
  | .discard q hold _ _ => some (.discard, q, hold)
  | .locate q _ _ => some (.locate, q, true)
  | .streamOpen q _ _ _ _ _ => some (.streamOpen, q, true)
  | .streamClose q _ => some (.streamClose, q, true)
  | _ => none

/-- The body length of a request is one its kind and form allow (Tables 10-7 and 10-10). A form that the kind does not
have may come with any of the kind's lengths. -/
def LengthOk : Instr → Prop
  | .status q => q.bodyLen = 0
  | .cancel q _ => q.bodyLen = 1
  | .eventsRead q _ => q.bodyLen = 3
  | .eventsClear q _ => q.bodyLen = 3
  | .eventsMask q _ => q.bodyLen = 3
  | .tally q _ _ => q.bodyLen = 2
  | .band q _ => q.bodyLen = 2
  | .triggerSet q _ _ => q.bodyLen = 2
  | .triggerClear q _ => q.bodyLen = 2
  | .format q g l => q.bodyLen = 17 + 9 * g.zones.length + 3 * l.length
  | .retire q _ => q.bodyLen = 4
  | .classRead q _ form => if form = 0 then q.bodyLen = 2 else if form = 1 then q.bodyLen = 8 else
      q.bodyLen = 2 ∨ q.bodyLen = 8
  | .classWrite q _ _ => q.bodyLen = 8
  | .regionRead q form => q.bodyLen = 1 ∨ (form ≠ 0 ∧ 2 ≤ q.bodyLen ∧ (q.bodyLen - 2) % 13 = 0)
  | .regionWrite q l => q.bodyLen = 2 + 13 * l.length
  | .scoringRead q form _ => if form = 0 then q.bodyLen = 2 else if form = 1 then q.bodyLen = 3 else
      if form = 2 then q.bodyLen = 4 else q.bodyLen = 2 ∨ q.bodyLen = 3 ∨ q.bodyLen = 4
  | .scoringWrite q _ _ => q.bodyLen = 3
  | .scoringEvaluate q _ _ => q.bodyLen = 4
  | .channelRead q _ form => if form = 0 then q.bodyLen = 2 else if form = 1 then q.bodyLen = 25 else
      q.bodyLen = 2 ∨ q.bodyLen = 25
  | .channelWrite q _ _ => q.bodyLen = 25
  | .timersRead q form => if form = 0 then q.bodyLen = 1 else if form = 1 then q.bodyLen = 13 else
      q.bodyLen = 1 ∨ q.bodyLen = 13
  | .timersWrite q _ => q.bodyLen = 13
  | .mount q _ => q.bodyLen = 1
  | .quiesce q _ => q.bodyLen = 1
  | .restore q g l => q.bodyLen = 17 + 9 * g.zones.length + 3 * l.length
  | .place q _ _ => q.bodyLen = 16
  | .fetch q _ _ _ _ => q.bodyLen = 12
  | .discard q _ _ _ => q.bodyLen = 11
  | .locate q _ _ => q.bodyLen = 9
  | .streamOpen q _ _ _ _ _ => q.bodyLen = 8
  | .streamClose q _ => q.bodyLen = 1
  | _ => True

/-- The lines after a command: only the four line commands change them (R178, R185, R189). -/
def pinsAfter (c : Instr) (l : Pins) : Pins :=
  match c with
  | .coldStart straps => { straps := straps, resetLine := false, pwrfail := l.pwrfail }
  | .resetLineAssert => { l with resetLine := true }
  | .pwrfailAssert => { l with pwrfail := true }
  | .pwrfailNegate => { l with pwrfail := false }
  | _ => l

/-- A live transaction holds a request back by its range (R169). -/
def Conflicts (r : DataReq) (t : Txn) : Prop :=
  ∃ a b, r.range = some a ∧ t.req.range = some b ∧ a.1 < b.1 + b.2 ∧ b.1 < a.1 + a.2 ∧
    (t.req.kind = .place ∨ t.req.kind = .discard ∨
      ((r.kind = .place ∨ r.kind = .discard) ∧ t.req.kind = .fetch))

/-- A request stands at the head of the Request Queue, is of a kind that is taken in the device's state, and meets the
conditions of R169 but for the map reserve, the staging space and the Order Queue's places. -/
structure Heads (s : State) (h : Queued) : Prop where
  hears : Hears s
  rested : s.part.Rested
  admits : s.part.sv.reset = none ∧ s.part.sv.restore = none
  front : s.part.tx.queue.head? = some h
  state : h.req.kind.takenIn s.part.sv.device = true
  record : s.part.tx.txns.length < 24
  range : ∀ t ∈ s.part.tx.txns, ¬Conflicts h.req t
  stream : ∀ i, h.req = .streamClose i → ∀ t ∈ s.part.tx.txns, t.req.stream ≠ some i

/-- Where the map holds an LBA: a place, or none for a hole (R43, R45). -/
def placeAt (l : List Extent) (x : Nat) : Option Place :=
  (l.find? fun e => decide (e.start ≤ x ∧ x < e.start + e.len)).map fun e => e.place.shift (x - e.start)

/-- A band with its volatile counts and its owner cleared (R41). -/
def quiet (r : Band) : Band := { r with owner := none, pins := 0, pendingRemaps := 0, inFlight := 0 }

/-- A band that has been rewound: RETIRED where its suspect flag is set, else FREE (R33). -/
def rewound (r : Band) : Band :=
  if r.suspectFlag then { r with state := .retired, wp := 0, owner := none }
  else { r with state := .free, wp := 0, owner := none, cls := 0, closedHour := 0 }

/-- A band as the release check of a reset leaves it: rewound where it holds no valid block (R41 step 4). -/
def released (r : Band) : Band := if r.valid = 0 then rewound r else r

/-- A band after the release check: rewound where it is CLOSED or SUSPECT and all four of its counts are 0 (R32). -/
def checked (r : Band) : Band :=
  if (r.state = .closed ∨ r.state = .suspect) ∧ r.valid = 0 ∧ r.pins = 0 ∧ r.pendingRemaps = 0 ∧ r.inFlight = 0 then
    rewound r
  else r

/-- The streams after a requester has been told that it owns no band from now on (R23, R78). -/
def streamsWithout (w : Option Requester) (l : List Stream) : List Stream :=
  match w with
  | some (.stream i) => l.modify (i - 1) fun x => { x with state := .dormant, band := none }
  | _ => l

/-- The channels after a requester has been told that it owns no band from now on (R23). -/
def chansWithout (w : Option Requester) (l : List Chan) : List Chan :=
  match w with
  | some (.chan c) => l.modify c fun k => { k with owned := none }
  | _ => l

/-- The run records of a staged part that begins at an LBA: each but the last of 8,192 blocks, in flight, with no live
block, no pin and no hold (R88, R89). -/
def recordsOfPart (cls start : Nat) (x : StagedPart) : List Run :=
  (List.range ((x.len + 8191) / 8192)).map fun i =>
    { pos := x.pos + 8192 * i, len := min 8192 (x.len - 8192 * i), start := start + 8192 * i, live := 0, cls := cls
      inFlight := true, pins := 0, hold := 0 }

/-- A log range has blocks in a run record. -/
abbrev Meets (pos len : Nat) (r : Run) : Prop := max pos r.pos < min (pos + len) (r.pos + r.len)

/-- The Run List after the tail check: the records without live blocks, flag, pins and hold are gone from its old end,
and the tail stands at the oldest that is left, or at the head (R97). -/
def logTrimmed (l : LogUnit) : LogUnit :=
  let rest := l.runs.dropWhile fun r => decide (r.live = 0 ∧ r.inFlight = false ∧ r.pins = 0 ∧ r.hold = 0)
  { l with
    runs := rest
    tail := if rest.length = l.runs.length then l.tail else match rest with
      | r :: _ => r.pos
      | [] => l.head }

/-- What the reset steps of R41 make of band x at hour H; `listed` says that it stood on a parked list. A PARKED band,
and an OPEN one that has been parked, may be pushed off its list and closed. -/
def BandAfterReset (H : Nat) (listed : Prop) (x y : Band) : Prop :=
  let closed := released { quiet x with state := .closed, closedHour := H }
  match x.state with
  | .free | .retired => ¬listed → y = quiet x
  | .closed | .suspect => ¬listed → y = released (quiet x)
  | .reclaiming => ¬listed → y = released { quiet x with state := if x.suspectFlag then .suspect else .closed }
  | .parked => y = quiet x ∨ y = closed
  | .opened => ¬listed → (x.wp = 0 → y = rewound (quiet x)) ∧
      (x.wp ≠ 0 → y = { quiet x with state := .parked } ∨ y = closed)

/-- The Band Table and the parked lists after the reset steps of R41, from the tables m, at hour H. -/
structure BandsReset (H : Nat) (m n : BandManager) : Prop where
  geom : n.geom = m.geom
  bands : n.bands.length = m.bands.length
  each : ∀ b x y, m.bands[b]? = some x → n.bands[b]? = some y →
    y.valid = x.valid ∧ y.errors = x.errors ∧ y.suspectFlag = x.suspectFlag ∧
      BandAfterReset H (∃ l ∈ m.parked, b ∈ l) x y
  rest : ∀ y ∈ n.bands, y.owner = none ∧ y.pins = 0 ∧ y.pendingRemaps = 0 ∧ y.inFlight = 0 ∧ y.state ≠ .opened ∧
    y.state ≠ .reclaiming ∧ (y.state = .closed ∨ y.state = .suspect → 1 ≤ y.valid)
  lists : n.parked.length = m.parked.length ∧
    ((∀ l ∈ m.parked, l.length ≤ 4) → ∀ l ∈ n.parked, l.length ≤ 4)

/-- The Run List after the reset steps of R100: no flag, pin or hold, and the records without live blocks gone from its
old end. -/
def logAfterReset (l : LogUnit) : LogUnit :=
  let all := l.runs.map fun r => { r with inFlight := false, pins := 0, hold := 0 }
  let rest := all.dropWhile fun r => decide (r.live = 0)
  { runs := rest
    head := l.head
    tail := if rest.length = all.length then l.tail else match rest with
      | r :: _ => r.pos
      | [] => l.head
    held := false }

/-- Fill stands at so many sixteenths of C_stg or above (R93). -/
abbrev FillAt (p : Part) (m : Nat) : Prop := 0 < stgCap p.bm ∧ m * stgCap p.bm ≤ 16 * fill p.sl

/-- Orders ask to join one after another: the Order Queue after it, and the orders refused, in their order. One is
refused where the queue holds 64, and where a WRITE of another owner waits for a lower offset of its band (R136,
R137). -/
def joins (waits : List WriteWait) : List Order → List Order → List Order × List Order
  | q, [] => (q, [])
  | q, o :: os =>
    if q.length < 64 ∧ behind waits o = false then
      joins waits (q ++ [{ o with id := freeId q, state := .queued, timer := .stopped }]) os
    else
      let r := joins waits q os
      (r.1, o :: r.2)

/-- The Media Port after an owner has asked for the joins of a list of orders: what is refused makes it wait, and
stands in the write-wait list (R136, R137). -/
def joinedPort (m : MediaPort) (w : Owner) (l : List Order) : MediaPort :=
  let r := joins m.writeWait m.orders l
  { m with
    orders := r.1
    writeWait := (m.writeWait.filter fun e => decide (e.owner ≠ w)) ++ waitEntries w r.2
    waiting := if r.2 = [] then m.waiting else if w ∈ m.waiting then m.waiting else m.waiting ++ [w] }

/-- The blocks of a list of places that lie in a band. -/
def inBand (b : Nat) (l : List (Place × Nat)) : Nat :=
  (l.map fun x => match x.1 with
    | .band c _ => if c = b then x.2 else 0
    | .log _ => 0).sum

/-- The blocks of a list of places that lie in a run record. -/
def inRun (r : Run) (l : List (Place × Nat)) : Nat :=
  (l.map fun x => match x.1 with
    | .band _ _ => 0
    | .log pos => min (pos + x.2) (r.pos + r.len) - max pos r.pos).sum

/-- The kind code and the body of a request's frame (Tables 10-6, 10-7 and 10-10). -/
def frameOf : Instr → Option (Nat × List Byte)
  | .status _ => some (0x01, [])
  | .cancel _ t => some (0x02, natChars 1 t)
  | .eventsRead _ form => some (0x03, natChars 1 form ++ natChars 2 0)
  | .eventsClear _ e => some (0x03, natChars 1 1 ++ natChars 2 e.toNat)
  | .eventsMask _ e => some (0x03, natChars 1 2 ++ natChars 2 e.toNat)
  | .tally _ slot clear => some (0x04, natChars 1 slot ++ natChars 1 clear.toNat)
  | .band _ b => some (0x05, natChars 2 b)
  | .triggerSet _ c action => some (0x06, natChars 1 c ++ natChars 1 action)
  | .triggerClear _ c => some (0x06, natChars 1 c ++ natChars 1 1)
  | .reset _ => some (0x07, [])
  | .format _ g l => some (0x10, tablesChars g l)
  | .retire _ t => some (0x11, natChars 4 t)
  | .classRead _ c form => some (0x12, natChars 1 c ++ natChars 1 form)
  | .classWrite _ c v => some (0x12, natChars 1 c ++ natChars 1 1 ++ natChars 1 v.firstZone ++ natChars 1 v.lastZone ++
      natChars 2 v.quota ++ natChars 1 v.weight ++ natChars 1 v.slot)
  | .regionRead _ form => some (0x13, natChars 1 form)
  | .regionWrite _ l => some (0x13, natChars 1 1 ++ natChars 1 l.length ++ (l.map fun r =>
      natChars 5 r.start ++ natChars 5 r.len ++ natChars 1 r.cls ++ natChars 1 r.tail ++ natChars 1 r.verify).flatten)
  | .scoringRead _ form clear => some (0x14, natChars 1 form ++ natChars 1 clear.toNat)
  | .scoringWrite _ clear mode => some (0x14, natChars 1 1 ++ natChars 1 clear.toNat ++ natChars 1 mode)
  | .scoringEvaluate _ clear b => some (0x14, natChars 1 2 ++ natChars 1 clear.toNat ++ natChars 2 b)
  | .channelRead _ c form => some (0x15, natChars 1 c ++ natChars 1 form)
  | .channelWrite _ c v => some (0x15, natChars 1 c ++ natChars 1 1 ++ natChars 1 v.enable ++ natChars 1 v.job ++
      natChars 1 v.source ++ natChars 1 v.mode ++ natChars 2 v.count ++ natChars 1 v.destClass ++
      natChars 2 v.victims.toNat ++ natChars 4 v.handle ++ natChars 4 v.compareHour ++ natChars 4 v.period ++
      natChars 2 v.freeLow)
  | .timersRead _ form => some (0x16, natChars 1 form)
  | .timersWrite _ v => some (0x16, natChars 1 1 ++ natChars 2 v.orderTimeout ++ natChars 2 v.idleDelay ++
      natChars 1 v.burst ++ natChars 1 v.reserve ++ natChars 1 v.suspect ++ natChars 1 v.highMark ++
      natChars 2 v.digestMinutes ++ natChars 2 v.eventFreeLow)
  | .mount _ hold => some (0x17, natChars 1 hold.toNat)
  | .quiesce _ hold => some (0x18, natChars 1 hold.toNat)
  | .restore _ g l => some (0x19, tablesChars g l)
  | .place _ hold a => some (0x20, natChars 1 hold.toNat ++ natChars 1 a.stream ++ natChars 1 a.cls ++ natChars 1 a.tail ++
      natChars 1 a.verify ++ natChars 5 a.start ++ natChars 2 a.len ++ natChars 4 a.handle)
  | .fetch _ hold st n h => some (0x21, natChars 1 hold.toNat ++ natChars 5 st ++ natChars 2 n ++ natChars 4 h)
  | .locate _ st n => some (0x22, natChars 5 st ++ natChars 4 n)
  | .discard _ hold st n => some (0x23, natChars 1 hold.toNat ++ natChars 5 st ++ natChars 5 n)
  | .streamOpen _ i c t v n => some (0x24, natChars 1 i ++ natChars 1 c ++ natChars 1 t ++ natChars 1 v ++ natChars 4 n)
  | .streamClose _ i => some (0x25, natChars 1 i)
  | _ => none
where
  /-- The body of FORMAT and RESTORE (Table 10-10). -/
  tablesChars (g : Geometry) (l : List Nat) : List Byte :=
    natChars 1 g.K ++ natChars 1 g.zones.length ++
      (g.zones.map fun z => natChars 3 z.first ++ natChars 2 z.pairs ++ natChars 2 z.T ++ natChars 2 z.S).flatten ++
      natChars 3 g.stgFirst ++ natChars 3 g.stgCount ++ natChars 2 g.stgS ++ natChars 5 g.L ++ natChars 2 l.length ++
      (l.map (natChars 3)).flatten

/-- The tag and the body length that a request command carries. -/
def reqOf : Instr → Option Req
  | .reset q => some q
  | i => (requestOf i).map fun x => x.2.1

/-- An LBA lies in a range of a length. -/
def within (x a n : Nat) : Prop := a ≤ x ∧ x < a + n

end Sys2Proof.Spec

section

open Sys2Proof Sys2Proof.Machine Sys2Proof.Spec

/-! ### The machine as a whole -/

/-- A step takes the command at the front of the queue: it is that command's exec with the queue's rest.
The model's choice it rests on: log 1. -/
def Obligations.StepTakesTheFrontCommand : Prop :=
  ∀ (s : State) (c : Instr) (rest : List Instr), s.pending = c :: rest →
    step s = exec c { s with pending := rest }

/-- On an empty queue, with no character on the links, a millisecond passes (the model's choice, log 2): every running
timer and the hour accumulator count one, up to their limits, unless the part is HALTED or held in reset. With a
character on the links its receiver takes it instead, and the command that a frame or a discard brings waits; a part
that is HALTED or held in reset loses it (the model's choice, log 36). -/
def Obligations.EmptyQueuePassesOneMillisecond : Prop :=
  ∀ s : State, s.pending = [] →
    (∀ c more, s.line = ⟨.command, c⟩ :: more → Hears s →
      let r := s.part.li.rx.take c
      step s = .next { s with
        part := { s.part with li := { s.part.li with rx := r.1 } }
        pending := (receivedCommand .command r.2).toList
        line := more }) ∧
    (∀ c more, s.line = ⟨.media, c⟩ :: more → Hears s →
      let r := s.part.mp.rx.take c
      step s = .next { s with
        part := { s.part with mp := { s.part.mp with rx := r.1 } }
        pending := (receivedCommand .media r.2).toList
        line := more }) ∧
    (∀ a more, s.line = a :: more → ¬Hears s → step s = .next { s with line := more }) ∧
    (s.line = [] → Hears s → step s = .next { s with part := { s.part with
      su := s.part.su.map fun x => { x with idle := x.idle.tick }
      mp := { s.part.mp with
        idle := s.part.mp.idle.tick
        orders := s.part.mp.orders.map fun o => { o with timer := o.timer.tick } }
      sv := { s.part.sv with
        timeBase := s.part.sv.timeBase + 1
        hourAcc := min 3600000 (s.part.sv.hourAcc + 1)
        digestTimer := s.part.sv.digestTimer.tick } } }) ∧
    (s.line = [] → ¬Hears s → step s = .next s) ∧
    (∀ t : Timer, t.tick = if t.state = .running then { t with elapsed := min t.limit (t.elapsed + 1) } else t)

/-- Every command answers a next state in every state; the queue and the characters on the links stay as they are, and
only the line commands change the lines.
The model's choice it rests on: log 1. -/
def Obligations.EveryCommandAnswersANextState : Prop :=
  ∀ (c : Instr) (s : State), ∃ t, exec c s = .next t ∧ t.pending = s.pending ∧ t.line = s.line ∧
    t.pins = pinsAfter c s.pins

/-- A part that is HALTED or held in reset takes no command but the line commands and, when HALTED, the end of a frame
that is being sent (the reading of log 23). -/
def Obligations.DeafPartStaysAsItIs : Prop :=
  ∀ (c : Instr) (s : State), ¬Hears s →
    (match c with
      | .coldStart _ | .resetLineAssert | .pwrfailAssert | .pwrfailNegate => False
      | .frameSent _ => s.pins.resetLine = true
      | _ => True) →
    exec c s = .next s

/-- COLD_START with no Map Store update and no FORMAT in progress. The lines: the straps are sampled and the RESET line is
released. Kept as stored: the map, the regions, the classes, the settings, the setups, the geometry and the header's mark
and H. At their cold start values: streams, channels, requests, transactions, the Media Port's queue, transmit queue and
timers, the receivers, the Link Interface's counts, tallies and timers. With a valid mark the Band Table and its lists
take the steps of R41, the Run List those of R100, the favoured lane follows the stored fill, and STAGE_HIGH, MAP_HIGH and
FREE_LOW are pending where their levels stand; without one, the tables stay but for the volatile fields.
The model's choices it rests on: log 6, log 7, log 24. -/
def Obligations.ColdStartKeepsTheStoreAndClearsTheRest : Prop :=
  ∀ (s : State) (straps : Nat), s.part.store.updates = [] → s.part.sv.format = none →
    ∃ t, exec (.coldStart straps) s = .next t ∧
      t.pending = s.pending ∧ t.line = s.line ∧
      t.pins = { straps := straps, resetLine := false, pwrfail := s.pins.pwrfail } ∧
      t.part.sv.device = (if s.pins.pwrfail then .halted
        else if s.part.sv.header.mark then .stopped else .unformatted) ∧
      t.part.sv.header.mark = s.part.sv.header.mark ∧ t.part.sv.header.hours = s.part.sv.header.hours ∧
      t.part.bm.geom = s.part.bm.geom ∧ t.part.tu.extents = s.part.tu.extents ∧
      t.part.tu.regions = s.part.tu.regions ∧ t.part.re.setups = s.part.re.setups ∧
      t.part.sv.classes = s.part.sv.classes ∧ t.part.sv.settings = s.part.sv.settings ∧
      t.part.sc = { mode := s.part.sc.mode, saturated := false } ∧
      t.part.sv.mask = (if s.part.sv.header.mark then s.part.sv.mask else 0) ∧
      t.part.tu.remaps = [] ∧ t.part.tu.reserveTotal = 0 ∧
      t.part.su = List.replicate 16 Stream.blank ∧ t.part.re.chans = List.replicate 4 Chan.blank ∧
      t.part.tx = { queue := [], txns := [] } ∧
      t.part.mp.orders = [] ∧ t.part.mp.writeWait = [] ∧ t.part.mp.waiting = [] ∧ t.part.mp.ready = false ∧
      t.part.mp.runCount = 0 ∧ t.part.mp.lastChan = 3 ∧ t.part.mp.stray = 0 ∧ t.part.mp.linkErrors = 0 ∧
      t.part.li.reserved = 0 ∧ t.part.li.frameErrors = 0 ∧ t.part.li.unanswered = 0 ∧ t.part.li.gathered = 0 ∧
      t.part.sv.tallies = List.replicate 16 Tally.zero ∧ t.part.sv.hourAcc = 0 ∧
      t.part.sv.reset = none ∧ t.part.sv.mount = none ∧ t.part.sv.quiesce = none ∧ t.part.sv.restore = none ∧
      t.part.sv.alert = decide (t.part.sv.events &&& ~~~t.part.sv.mask ≠ 0) ∧
      (s.part.sv.header.mark = false → t.part.sv.events = 0 ∧ t.part.li.queue = []) ∧
      t.part.sv.format = none ∧ t.part.sv.digestTimer = .stopped ∧ t.part.mp.idle = .stopped ∧ t.part.mp.tx = [] ∧
      t.part.mp.told = [] ∧ t.part.mp.awaitAll = false ∧ t.part.mp.rx = .hunting ∧ t.part.li.rx = .hunting ∧
      t.part.mp.favoured = (if s.part.sv.header.mark = true ∧ FillAt t.part 15 then .background else .foreground) ∧
      (s.part.sv.header.mark = true →
        BandsReset s.part.sv.header.hours s.part.bm t.part.bm ∧ t.part.sl = logAfterReset s.part.sl ∧
        (FillAt t.part s.part.sv.settings.highMark → t.part.sv.events &&& evStageHigh ≠ 0) ∧
        (245760 ≤ s.part.tu.extents.length → t.part.sv.events &&& evMapHigh ≠ 0) ∧
        ((t.part.bm.bands.countP fun b => decide (b.state = .free)) ≤ s.part.sv.settings.eventFreeLow →
          t.part.sv.events &&& evFreeLow ≠ 0)) ∧
      (s.part.sv.header.mark = false →
        t.part.bm = { s.part.bm with bands := s.part.bm.bands.map quiet } ∧
        t.part.sl = { s.part.sl with
          runs := s.part.sl.runs.map fun r => { r with inFlight := false, pins := 0, hold := 0 }, held := false })

/-- RESET_LINE_ASSERT and PWRFAIL_NEGATE move only their line; PWRFAIL_ASSERT halts a part that is not held in reset:
every timer stops, and the Map Store updates in progress complete. ALERT keeps its level.
The model's choices it rests on: log 6, log 24. -/
def Obligations.LineCommandsActOnTheirLine : Prop :=
  ∀ s : State,
    exec .resetLineAssert s = .next { s with pins := { s.pins with resetLine := true } } ∧
    exec .pwrfailNegate s = .next { s with pins := { s.pins with pwrfail := false } } ∧
    (s.pins.resetLine = true → exec .pwrfailAssert s = .next { s with pins := { s.pins with pwrfail := true } }) ∧
    (s.pins.resetLine = false → exec .pwrfailAssert s = .next { s with
      pins := { s.pins with pwrfail := true }
      part := { s.part with
        sv := { s.part.sv with device := .halted, digestTimer := .stopped }
        su := s.part.su.map fun x => { x with idle := .stopped }
        mp := { s.part.mp with
          idle := .stopped
          orders := s.part.mp.orders.map fun o => { o with timer := .stopped } }
        store := { s.part.store with updates := [] } } })

/-! ### Events, frames and the checks of arrival -/

/-- Raising flags makes them pending and sets ALERT's level; the ones that were not pending and are unmasked go to a
NOTICE: a new one where none is queued, the one that waits, or the gathered set while a NOTICE is being sent.
The model's choice it rests on: log 9. -/
def Obligations.RaisedFlagGoesToTheEventSetAndANotice : Prop :=
  ∀ (p : Part) (f : EventBits),
    let new := f &&& ~~~p.sv.events &&& ~~~p.sv.mask
    (p.raise f).sv = { p.sv with
      events := p.sv.events ||| f, alert := decide ((p.sv.events ||| f) &&& ~~~p.sv.mask ≠ 0) } ∧
    (new = 0 → (p.raise f).li = p.li) ∧
    (new ≠ 0 → (∀ m ∈ p.li.queue, m.place ≠ .notice) → (p.raise f).li = { p.li with
      queue := p.li.queue ++ [{ tag := 0, place := .notice, payload := .notice new }] }) ∧
    (∀ m rest, new ≠ 0 → p.li.queue = m :: rest → m.place = .notice → p.li.sending = true →
      (p.raise f).li = { p.li with gathered := p.li.gathered ||| new }) ∧
    (∀ g, new ≠ 0 → p.li.queue = [{ tag := 0, place := .notice, payload := .notice g }] → p.li.sending = false →
      (p.raise f).li = { p.li with
        queue := [{ tag := 0, place := .notice, payload := .notice (g ||| new) }] }) ∧
    (∀ a b m g, new ≠ 0 → p.li.queue = a ++ { tag := 0, place := .notice, payload := .notice g } :: b → a = m :: a.tail →
      (∀ x ∈ a ++ b, x.place ≠ .notice) →
      (p.raise f).li = { p.li with
        queue := a ++ { tag := 0, place := .notice, payload := .notice (g ||| new) } :: b })

/-- A receiver that hunts passes over all but C3h, and then takes a frame of any kind, tag and body of up to 6,449
characters, which it passes on when the last of its characters has arrived, if its check matches. It discards a frame
with a stop-bit error, a length above 6,449, or a check that does not match, and hunts again. The sequencer's frames
bring the commands of Table 10-9; one of another kind or of another length is discarded, and so is a REPORT of an unlisted
status (log 36). A discarded frame is counted, whatever its fault: on the Command Link FRAME_ERR is raised too; on the
Media Link nothing else changes.
The model's choice it rests on: log 16. -/
def Obligations.DiscardedFramesAreCounted : Prop :=
  (∀ s : State, Hears s →
    (∀ cause, exec (.frameDiscard cause) s = .next (tell s (({ s.part with li := { s.part.li with
      frameErrors := min 65535 (s.part.li.frameErrors + 1), rx := .hunting } } : Part).raise evFrameErr))) ∧
    (∀ cause, exec (.mediaFrameDiscard cause) s = .next (tell s { s.part with mp := { s.part.mp with
      linkErrors := min 65535 (s.part.mp.linkErrors + 1), rx := .hunting } }))) ∧
  (∀ kind tag (body : List Byte), kind < 256 → tag < 256 → body.length ≤ 6449 →
    Receiver.hunting.takeAll ((frameChars kind tag body).map .byte) = (.hunting, [.frame kind tag body])) ∧
  (∀ b : Byte, Receiver.hunting.take (.byte b) = (if b = 0xC3#8 then .assembling [] else .hunting, .nothing)) ∧
  Receiver.hunting.take .stopError = (.hunting, .nothing) ∧
  (∀ l, (Receiver.assembling l).take .stopError = (.hunting, .discard .stopBit)) ∧
  (∀ a b : Byte, 6449 < 256 * a.toNat + b.toNat →
    Receiver.hunting.takeAll [.byte 0xC3#8, .byte a, .byte b] = (.hunting, [.discard .oversize])) ∧
  (∀ (k t x y : Byte) (body : List Byte), body.length ≤ 6449 →
    let covered := natChars 2 body.length ++ [k, t] ++ body
    256 * x.toNat + y.toNat ≠ (crc16 covered).toNat →
    Receiver.hunting.takeAll ((0xC3#8 :: covered ++ [x, y]).map .byte) = (.hunting, [.discard .badCheck])) ∧
  (∀ cause, receivedCommand .command (.discard cause) = some (.frameDiscard cause)) ∧
  (receivedCommand .media (.discard .stopBit) = some (.mediaFrameDiscard .stopBit) ∧
    receivedCommand .media (.discard .oversize) = some (.mediaFrameDiscard .oversize) ∧
    receivedCommand .media (.discard .badCheck) = some (.mediaFrameDiscard .badCheck)) ∧
  (∀ kind tag (body : List Byte), receivedCommand .media (.frame kind tag body) = some (
    if kind = 0x68 then match body with
      | [st, x, y] => if st = 0#8 then .report tag .ok (256 * x.toNat + y.toNat)
          else if st = 1#8 then .report tag .fault (256 * x.toNat + y.toNat)
          else if st = 2#8 then .report tag .cancelled (256 * x.toNat + y.toNat)
          else .mediaFrameDiscard .badKind
      | _ => .mediaFrameDiscard .badLength
    else if kind = 0x69 ∨ kind = 0x6A ∨ kind = 0x6B then
      (if body ≠ [] then .mediaFrameDiscard .badLength
        else if kind = 0x69 then .cancelledAll else if kind = 0x6A then .ready else .notReady)
    else .mediaFrameDiscard .badKind))

/-- A frame brings the request of its kind code and form, with every field of its body as Tables 10-7 and 10-10 lay it
out, and its tag and body length. A frame of a kind that is no request is refused BAD_KIND; where no place can be reserved it is refused QUEUE_FULL
through the refusal place, and where that is taken it is only counted.
The model's choices it rests on: log 16, log 34, log 36. -/
def Obligations.BadKindIsRefused : Prop :=
  (∀ (i : Instr) (k : Nat) (body : List Byte) (q : Req), i.wf = true → frameOf i = some (k, body) → reqOf i = some q →
    q.bodyLen = body.length → receivedCommand .command (.frame k q.tag body) = some i) ∧
  (∀ k tag (body : List Byte), isRequestCode k = false →
    receivedCommand .command (.frame k tag body) = some (.badKindRequest tag k)) ∧
  ∀ (s : State) (tag code : Nat), Hears s →
    (Room s.part 1 → exec (.badKindRequest tag code) s = .next (tell s (s.part.say
      { tag := tag, place := .ordinary, payload := .reply .badKind (.unknown code) [] }))) ∧
    (¬Room s.part 1 → (∀ m ∈ s.part.li.queue, m.place ≠ .refusal) →
      exec (.badKindRequest tag code) s = .next (tell s (s.part.say
        { tag := tag, place := .refusal, payload := .reply .queueFull (.unknown code) [] }))) ∧
    (¬Room s.part 1 → (∃ m ∈ s.part.li.queue, m.place = .refusal) →
      exec (.badKindRequest tag code) s = .next (tell s { s.part with li := { s.part.li with
        unanswered := min 65535 (s.part.li.unanswered + 1) } }))

/-- The oldest frame of a link has gone: its place is free and the next begins. After a NOTICE the gathered flags are
queued in a NOTICE of their own. A HALTED part ends the frame it is sending and starts none.
The model's choice it rests on: log 25. -/
def Obligations.SentFrameLeavesItsQueue : Prop :=
  ∀ s : State, s.pins.resetLine = false →
    (∀ m rest, s.part.li.queue = m :: rest → s.part.li.sending = true →
      exec (.frameSent .command) s = .next { s with part := { s.part with li :=
        if m.place = .notice ∧ s.part.li.gathered ≠ 0 then { s.part.li with
          queue := rest ++ [{ tag := 0, place := .notice, payload := .notice s.part.li.gathered }]
          gathered := 0
          sending := decide (s.part.sv.device ≠ .halted) }
        else { s.part.li with
          queue := rest, sending := decide (s.part.sv.device ≠ .halted ∧ rest ≠ []) } } }) ∧
    (s.part.li.sending = false → exec (.frameSent .command) s = .next s) ∧
    (exec (.frameSent .media) s = .next { s with part := { s.part with mp := { s.part.mp with
      tx := if s.part.sv.device = .halted then [] else s.part.mp.tx.drop 1 } } })

/-- Every request but RESET passes the checks of R165 in their order, and the first that fails decides the answer.
The model's choices it rests on: log 8, log 16, log 34. -/
def Obligations.ArrivalChecksInTheirOrder : Prop :=
  ∀ (c : Instr) (s : State) (k : ReqKind) (q : Req) (hold : Bool), requestOf c = some (k, q, hold) → Hears s →
    s.part.Rested →
    let owes := if k.isLong = true ∧ hold = false then 2 else 1
    (¬Room s.part owes → (∀ m ∈ s.part.li.queue, m.place ≠ .refusal) →
      exec c s = .next (tell s (s.part.say { refusal q k .queueFull [] with place := .refusal }))) ∧
    (¬Room s.part owes → (∃ m ∈ s.part.li.queue, m.place = .refusal) →
      exec c s = .next (tell s { s.part with li := { s.part.li with
        unanswered := min 65535 (s.part.li.unanswered + 1) } })) ∧
    (Room s.part owes → k ≠ .cancel → ¬TagFree s.part q.tag →
      exec c s = .next (tell s (s.part.say (refusal q k .tagBusy [])))) ∧
    (Room s.part owes → (k = .cancel ∨ TagFree s.part q.tag) → s.part.sv.reset ≠ none → k ≠ .status →
      exec c s = .next (tell s (s.part.say (refusal q k .wrongState [])))) ∧
    (Room s.part owes → (k = .cancel ∨ TagFree s.part q.tag) → (k = .status ∨ s.part.sv.reset = none) →
      ¬LengthOk c → exec c s = .next (tell s (s.part.say (refusal q k .badArg [])))) ∧
    (Room s.part owes → (k = .cancel ∨ TagFree s.part q.tag) → (k = .status ∨ s.part.sv.reset = none) → LengthOk c →
      k.isSetup = true → (s.part.sv.format ≠ none ∨ s.part.sv.restore ≠ none) →
      exec c s = .next (tell s (s.part.say (refusal q k .wrongState [])))) ∧
    (∀ r, Room s.part owes → (k = .cancel ∨ TagFree s.part q.tag) → (k = .status ∨ s.part.sv.reset = none) →
      LengthOk c → (k.isSetup = true → s.part.sv.format = none ∧ s.part.sv.restore = none) →
      stateRefusal k s.part.sv.device = some r →
      exec c s = .next (tell s (s.part.say (refusal q k r []))))

/-- The device states in which each kind is taken, and its refusal in the others (Table 11-2). -/
def Obligations.StateTableAsPrinted : Prop :=
  (∀ d, ∀ k ∈ [ReqKind.status, .cancel, .events, .tally, .reset], stateRefusal k d = none) ∧
  (∀ d, stateRefusal .band d = if d = .unformatted then some .wrongState else none) ∧
  (∀ d, stateRefusal .trigger d = if d = .online then none else some .wrongState) ∧
  (∀ d, stateRefusal .format d = if d = .unformatted ∨ d = .stopped then none
    else if d = .fenced then some .fenced else some .wrongState) ∧
  (∀ d, stateRefusal .retire d = if d = .stopped ∨ d = .online then none else some .wrongState) ∧
  (∀ d, ∀ k ∈ [ReqKind.cls, .region, .scoring, .channel, .timers], stateRefusal k d =
    if d = .stopped ∨ d = .online ∨ d = .fenced then none else some .wrongState) ∧
  (∀ d, stateRefusal .mount d = if d = .stopped then none else some .wrongState) ∧
  (∀ d, stateRefusal .quiesce d = if d = .online ∨ d = .fenced then none else some .wrongState) ∧
  (∀ d, stateRefusal .restore d = if d = .fenced then none else some .wrongState) ∧
  (∀ d, ∀ k ∈ [ReqKind.place, .discard, .streamOpen], stateRefusal k d =
    if d = .online then none else if d = .fenced then some .fenced else some .wrongState) ∧
  (∀ d, ∀ k ∈ [ReqKind.fetch, .locate, .streamClose], stateRefusal k d =
    if d = .online ∨ d = .fenced then none else some .wrongState)

/-! ### Requests that read -/

/-- STATUS is answered with the state of the part as it stands, and changes nothing.
The model's choices it rests on: log 10, log 16, log 21. -/
def Obligations.StatusReportsThePartAsItStands : Prop :=
  ∀ (s : State) (q : Req), Arrives s .status q 1 0 →
    let p := s.part
    let minutes := if p.sv.digestTimer.state = .running then
      (p.sv.digestTimer.limit - p.sv.digestTimer.elapsed + 59999) / 60000 else 0
    let queued (f : Owner → Bool) := p.mp.orders.countP fun o => decide (o.state = .queued) && f o.owner
    exec (.status q) s = .next (tell s (p.say (okReply q .status (
      [item 1 p.sv.device.code, flagItem p.sv.reset.isSome, flagItem p.sv.format.isSome, flagItem p.sv.mount.isSome,
        flagItem p.sv.quiesce.isSome, flagItem p.sv.restore.isSome, flagItem p.sv.header.mark,
        item 4 p.sv.header.hours, item 2 minutes]
      ++ (p.su.map fun x => item 1 x.state.code) ++ (p.re.chans.map fun k => item 1 k.state.code)
      ++ [item 1 p.tx.queue.length, item 1 p.tx.txns.length]
      ++ [item 4 p.sl.head, item 4 p.sl.tail, item 4 (fill p.sl), item 4 (stgCap p.bm), item 2 p.sl.runs.length,
        flagItem (decide (0 < stgCap p.bm ∧ p.settings.highMark * stgCap p.bm ≤ 16 * fill p.sl)),
        flagItem (decide (0 < stgCap p.bm ∧ 15 * stgCap p.bm ≤ 16 * fill p.sl)), flagItem p.sl.held]
      ++ [item 1 (queued fun w => decide (ownerLane w = .foreground)),
        item 1 (queued fun w => decide (ownerLane w = .background)),
        item 1 (queued fun w => decide (w = .chan 0)), item 1 (queued fun w => decide (w = .chan 1)),
        item 1 (queued fun w => decide (w = .chan 2)), item 1 (queued fun w => decide (w = .chan 3)),
        item 1 (p.mp.orders.countP fun o => decide (o.state = .issued)),
        item 1 (p.mp.orders.countP fun o => decide (o.state = .cancelling)),
        item 1 (if p.mp.ready then 0 else 1), item 1 (if p.mp.favoured = .foreground then 0 else 1),
        item 2 p.mp.stray, item 2 p.mp.linkErrors, item 2 p.li.frameErrors, item 2 p.li.unanswered]))))

/-- The read forms of EVENTS, REGION and TIMERS report what is held and change nothing; a form that the kind does not
have is refused BAD_ARG.
The model's choices it rests on: log 8, log 9, log 10, log 16. -/
def Obligations.EventsRegionAndTimersReads : Prop :=
  ∀ (s : State) (q : Req) (form : Nat),
    (Arrives s .events q 1 3 → exec (.eventsRead q form) s = .next (tell s (s.part.say
      (if form = 0 then okReply q .events [item 2 s.part.sv.events.toNat, item 2 s.part.sv.mask.toNat]
        else refusal q .events .badArg [])))) ∧
    (Arrives s .region q 1 1 → form = 0 → exec (.regionRead q form) s = .next (tell s (s.part.say
      (okReply q .region (item 1 s.part.tu.regions.length :: (s.part.tu.regions.map fun r =>
        [item 5 r.start, item 5 r.len, item 1 r.cls, item 1 r.tail, item 1 r.verify]).flatten))))) ∧
    (Arrives s .region q 1 1 → form ≠ 0 → exec (.regionRead q form) s = .next (tell s (s.part.say
      (refusal q .region .badArg [])))) ∧
    (Arrives s .timers q 1 1 → form = 0 → exec (.timersRead q form) s = .next (tell s (s.part.say
      (okReply q .timers [item 2 s.part.sv.settings.orderTimeout, item 2 s.part.sv.settings.idleDelay,
        item 1 s.part.sv.settings.burst, item 1 s.part.sv.settings.reserve, item 1 s.part.sv.settings.suspect,
        item 1 s.part.sv.settings.highMark, item 2 s.part.sv.settings.digestMinutes,
        item 1 s.part.sv.settings.eventFreeLow])))) ∧
    (Arrives s .timers q 1 1 → 1 < form → exec (.timersRead q form) s = .next (tell s (s.part.say
      (refusal q .timers .badArg []))))

/-- TALLY reports the seven counters of a slot and, with its clear field set, zeroes them in the same event; a slot
above 15 is refused.
The model's choices it rests on: log 10, log 16. -/
def Obligations.TallyReportsAndClears : Prop :=
  ∀ (s : State) (q : Req) (slot : Nat) (clear : Bool), Arrives s .tally q 1 2 →
    let t := s.part.sv.tallies.getD slot Tally.zero
    (slot ≤ 15 → exec (.tally q slot clear) s = .next (tell s
      (({ s.part with sv := { s.part.sv with
          tallies := if clear then s.part.sv.tallies.modify slot (fun _ => Tally.zero) else s.part.sv.tallies } } :
        Part).say (okReply q .tally [item 6 t.direct, item 6 t.staged, item 6 t.destaged, item 6 t.reclaimed,
          item 6 t.padded, item 6 t.fetched, item 6 t.faults])))) ∧
    (15 < slot → exec (.tally q slot clear) s = .next (tell s (s.part.say (refusal q .tally .badArg []))))

/-- The read form of SCORING reports the mode and the saturation flag as it stood, and its clear field clears the
flag; SCORE_SAT is not touched.
The model's choices it rests on: log 8, log 10, log 16. -/
def Obligations.ScoringReadReportsAndClears : Prop :=
  ∀ (s : State) (q : Req) (form : Nat) (clear : Bool),
    (Arrives s .scoring q 1 2 → form = 0 → exec (.scoringRead q form clear) s = .next (tell s
      (({ s.part with sc := { s.part.sc with saturated := s.part.sc.saturated && !clear } } : Part).say
        (okReply q .scoring [item 1 s.part.sc.mode.code, flagItem s.part.sc.saturated])))) ∧
    (Arrives s .scoring q 1 2 → 2 < form → exec (.scoringRead q form clear) s = .next (tell s
      (s.part.say (refusal q .scoring .badArg []))))

/-- BAND reports the record of a band with its span, room, place on its parked list and pending retirements; the
evaluate form of SCORING reports the inputs of its score and, where it holds valid blocks, the stages. Neither changes
a band, and a band number at or above 2P is refused by both. In UNFORMATTED, BAND is refused.
The model's choices it rests on: log 10, log 16, log 20. -/
def Obligations.BandAndEvaluateReportOneBand : Prop :=
  ∀ (s : State) (q : Req) (b : Nat) (clear : Bool),
    let p := s.part
    let r := p.band b
    let x := scoreOf p.sc.mode r.valid r.wp (min 4095 (p.sv.header.hours - r.closedHour)) (p.weightOf b)
    (Arrives s .band q 1 2 → b < 2 * pairCount p.bm.geom → exec (.band q b) s = .next (tell s (p.say
      (okReply q .band [item 1 r.state.code, item 3 r.wp, item 3 r.valid, item 1 (ownerCode r.owner), item 1 r.cls,
        item 4 r.closedHour, item 1 r.errors, flagItem r.suspectFlag, item 1 r.pins, item 2 r.pendingRemaps,
        item 2 r.inFlight, item 2 (span p.bm b), item 3 (room p.bm b),
        item 1 (if r.cls = 0 then 0 else match (p.parkedList r.cls).findIdx? (fun y => decide (y = b)) with
          | some i => i + 1
          | none => 0),
        item 2 (p.bm.pendingRetire.filter fun e => decide (e.band = b)).length])))) ∧
    (Arrives s .band q 1 2 → 2 * pairCount p.bm.geom ≤ b → exec (.band q b) s = .next (tell s (p.say
      (refusal q .band .badArg [])))) ∧
    (s.part.Rested → Hears s → Room p 1 → TagFree p q.tag → p.sv.reset = none → q.bodyLen = 2 → p.sv.device = .unformatted →
      exec (.band q b) s = .next (tell s (p.say (refusal q .band .wrongState [])))) ∧
    (Arrives s .scoring q 1 4 → b < 2 * pairCount p.bm.geom → exec (.scoringEvaluate q clear b) s = .next (tell s
      (({ p with sc := { p.sc with saturated := p.sc.saturated && !clear } } : Part).say (okReply q .scoring (
        [item 1 r.state.code, item 1 r.cls,
          flagItem (decide ((r.state = .closed ∨ r.state = .suspect) ∧ 1 ≤ r.valid)), item 3 r.valid, item 3 r.wp,
          item 2 (min 4095 (p.sv.header.hours - r.closedHour)), item 1 (p.weightOf b)]
        ++ (if 1 ≤ r.valid then [item 3 x.u, item 5 x.N, item 3 x.D, item 3 x.raw, item 2 x.score,
            flagItem x.saturated] else [])
        ++ (if clear then [flagItem p.sc.saturated] else [])))))) ∧
    (Arrives s .scoring q 1 4 → 2 * pairCount p.bm.geom ≤ b → exec (.scoringEvaluate q clear b) s = .next (tell s
      (p.say (refusal q .scoring .badArg []))))

/-- The read forms of CLASS and CHANNEL report the record of a class with its band count and parked list, and the
setup and state record of a channel; a number or a form that does not exist is refused.
The model's choices it rests on: log 8, log 10, log 16. -/
def Obligations.ClassAndChannelReads : Prop :=
  ∀ (s : State) (q : Req) (n : Nat),
    let p := s.part
    let r := p.classRec n
    let u := p.setup n
    let k := p.chan n
    (Arrives s .cls q 1 2 → 1 ≤ n → n ≤ 8 → exec (.classRead q n 0) s = .next (tell s (p.say
      (okReply q .cls ([item 1 r.firstZone, item 1 r.lastZone, item 2 r.quota, item 1 r.weight, item 1 r.slot,
        item 2 (classCount p.bm n), item 1 (p.parkedList n).length] ++ (p.parkedList n).map (item 2)))))) ∧
    (Arrives s .cls q 1 2 → (n = 0 ∨ 8 < n) → exec (.classRead q n 0) s = .next (tell s (p.say
      (refusal q .cls .badArg [])))) ∧
    (∀ form, 1 < form → Arrives s .cls q 1 2 → exec (.classRead q n form) s = .next (tell s (p.say
      (refusal q .cls .badArg [])))) ∧
    (Arrives s .channel q 1 2 → n ≤ 3 → exec (.channelRead q n 0) s = .next (tell s (p.say
      (okReply q .channel ([flagItem u.enable, item 1 u.job.code, item 1 u.source.code, item 1 u.mode.code,
        item 2 u.count, item 1 u.destClass, item 2 u.victims.toNat, item 4 u.handle, item 4 u.compareHour,
        item 4 u.period, item 1 u.freeLow, item 1 k.state.code, flagItem k.flag, item 1 (stopCode k.stop),
        optItem k.owned, optItem k.victim] ++ k.resume.items ++ [item 2 k.amount, item 1 (copyCode k.copy)]))))) ∧
    (Arrives s .channel q 1 2 → 3 < n → exec (.channelRead q n 0) s = .next (tell s (p.say
      (refusal q .channel .badArg [])))) ∧
    (∀ form, 1 < form → Arrives s .channel q 1 2 → exec (.channelRead q n form) s = .next (tell s (p.say
      (refusal q .channel .badArg []))))

/-! ### Requests that act at once -/

/-- The clear form of EVENTS reports the pending flags as they stood and clears the ones it names; ALERT follows. What
a NOTICE carries stays.
The model's choices it rests on: log 9, log 16. -/
def Obligations.EventsClearReportsThenClears : Prop :=
  ∀ (s : State) (q : Req) (flags : EventBits), Arrives s .events q 1 3 →
    exec (.eventsClear q flags) s = .next (tell s (({ s.part with sv := { s.part.sv with
      events := s.part.sv.events &&& ~~~flags
      alert := decide ((s.part.sv.events &&& ~~~flags) &&& ~~~s.part.sv.mask ≠ 0) } } : Part).say
        (okReply q .events [item 2 s.part.sv.events.toNat])))

/-- TRIGGER CLEAR clears a channel's flag; TRIGGER SET sets the flag of a channel that is at work, and of one that is
IDLE or STALLED it starts a service. The REPLY carries the flag and the state the channel is left in. A channel that
is DISABLED or being stopped, a channel number above 3 and an unknown action are refused. A service then goes the way of
R109, R110 and R116 to R120: its start; the selection of a run record or of a victim; the next copy of MOVE, or the end of
the record or of the scan; the victim's return or release in SETTLE; and its end, with the compare hour, the level source,
STALLED with CHANNEL_STALL for want of a band, the next service where the flag is set, and IDLE otherwise. What follows
within the event is a report between blocks (log 4).
The model's choices it rests on: log 6, log 8, log 16. -/
def Obligations.TriggerSetsAndClearsTheFlag : Prop :=
  (∀ (s : State) (q : Req) (c action : Nat), Arrives s .trigger q 1 2 → s.part.Rested →
    let k := s.part.chan c
    let r := ((s.part.modChan c fun k => { k with flag := true }).note (.service c)).drainAll
    (c ≤ 3 → exec (.triggerClear q c) s = .next (tell s ((s.part.modChan c fun k => { k with flag := false }).say
      (okReply q .trigger [flagItem ((s.part.modChan c fun k => { k with flag := false }).chan c).flag,
        item 1 k.state.code])))) ∧
    (3 < c → exec (.triggerClear q c) s = .next (tell s (s.part.say (refusal q .trigger .badArg [])))) ∧
    (c ≤ 3 → action = 0 → k.state ≠ .disabled → k.stop = none → exec (.triggerSet q c action) s =
      .next (commit s (r.say (okReply q .trigger [flagItem (r.chan c).flag, item 1 (r.chan c).state.code])))) ∧
    (c ≤ 3 → k.state = .select ∨ k.state = .move ∨ k.state = .settle →
      r = s.part.modChan c fun k => { k with flag := true }) ∧
    (c ≤ 3 → action = 0 → (k.state = .disabled ∨ k.stop ≠ none) → exec (.triggerSet q c action) s =
      .next (tell s (s.part.say (refusal q .trigger .wrongState [])))) ∧
    (3 < c ∨ action ≠ 0 → exec (.triggerSet q c action) s =
      .next (tell s (s.part.say (refusal q .trigger .badArg []))))) ∧
  ∀ (p : Part) (c : Nat),
    let k := p.chan c
    let u := p.setup c
    let limit := if k.mode = .successive then min 1024 (k.count - k.amount) else 1024
    ((k.state = .idle ∨ k.state = .stalled) → k.flag = true → p.startService c = (p.modChan c fun k =>
      { k with flag := false, amount := 0, mode := u.mode, count := u.count, state := .select, work := none }).note
        (.select c)) ∧
    ((k.state ≠ .idle ∧ k.state ≠ .stalled) ∨ k.flag = false → p.startService c = p) ∧
    (u.job = .destage →
      let named := match k.resume with
        | .destage pos _ => some pos
        | _ => none
      (p.destageWork named = none → p.selectSource c =
        (p.modChan c fun k => { k with resume := .none, state := .settle }).endService c false) ∧
      (∀ r, p.destageWork named = some r → p.selectSource c = (p.modChan c fun k => { k with
        work := some { pos := r.pos, len := r.len, start := r.start, cls := r.cls }, state := .move }).note (.move c))) ∧
    (u.job = .reclaim →
      let v := p.selectVictim u.victims
      (k.victim ≠ none → p.selectSource c = (p.modChan c fun k => { k with state := .move }).note (.move c)) ∧
      (k.victim = none → v.1 = none → p.selectSource c = v.2.endService c false) ∧
      (∀ b, k.victim = none → v.1 = some b → p.selectSource c =
        ((v.2.modBand b fun r => { r with state := .reclaiming }).modChan c fun k =>
          { k with victim := some b, resume := .reclaim b 0, state := .move }).note (.move c))) ∧
    (∀ w, k.state = .move → k.copy = none → k.stop = none → k.work = some w →
      let o := match k.resume with
        | .destage pos off => if pos = w.pos then off else 0
        | _ => 0
      let left := exactCheck p.tu.extents (w.start + o) (w.len - o) (.log (w.pos + o))
      let done := p.modChan c fun k => { k with resume := .destage ((w.pos + w.len) % stgCap p.bm) 0, work := none }
      (∀ x more, left = x :: more → p.moveOn c =
        p.startCopy c x.start (min x.len limit) (.log (w.pos + (x.start - w.start))) w.cls) ∧
      (left = [] → k.mode = .batch → p.moveOn c = done.endService c false) ∧
      (left = [] → k.mode ≠ .batch → p.moveOn c = (done.modChan c fun k => { k with state := .select }).note
        (.select c))) ∧
    (∀ b, k.state = .move → k.copy = none → k.stop = none → k.work = none → k.victim = some b →
      let start := match k.resume with
        | .reclaim _ x => x
        | _ => 0
      (∀ x n off, bandScan p.tu.extents b start limit = some (x, n, off) → p.moveOn c =
        p.startCopy c x n (.band b off) (p.band b).cls) ∧
      (bandScan p.tu.extents b start limit = none → p.moveOn c =
        (p.modChan c fun k => { k with state := .settle }).note (.settle c))) ∧
    (k.state = .move → k.copy = none → k.stop ≠ none → p.moveOn c = p.completeStop c) ∧
    (∀ b, k.state = .settle → k.victim = some b →
      let r := p.band b
      let finish (q : Part) := (q.modChan c fun k => { k with victim := none, resume := .none }).endService c false
      (0 < r.valid → p.settleCheck c = finish (p.returnVictim b)) ∧
      (r.valid = 0 → r.pins = 0 → r.pendingRemaps = 0 → r.inFlight = 0 → p.settleCheck c = finish (p.rewind b)) ∧
      (r.valid = 0 → 0 < r.pins ∨ 0 < r.pendingRemaps ∨ 0 < r.inFlight → p.settleCheck c = p)) ∧
    (let q : Part := { p with re := { p.re with setups := p.re.setups.modify c fun x => { x with
       compareHour := if x.source = .hourCompare then min 4294967295 (x.compareHour + x.period) else x.compareHour } } }
     let level : Prop := match (q.setup c).source with
       | .stageHigh => FillAt p p.sv.settings.highMark ∨ p.sl.held = true
       | .freeLow => (p.bm.bands.countP fun b => decide (b.state = .free)) ≤ (q.setup c).freeLow
       | .hourCompare => (q.setup c).compareHour ≤ p.sv.header.hours
       | _ => False
     let ended (flag stalled : Bool) := q.modChan c fun x => { x with
       flag := flag, lastEmpty := decide (k.amount = 0), copy := none, work := none
       state := if stalled then .stalled else .idle }
     ∀ again : Bool, (again = true ↔ k.flag = true ∨ (0 < k.amount ∧ level)) →
       p.endService c true = (ended again true).raise evChannelStall ∧
       p.endService c false = if again then (ended again false).note (.service c) else ended again false)

/-- CANCEL of a tag in the Request Queue removes the request, whose outcome CANCELLED goes to the host; of a tag that
is in neither table, or ENDED, it changes nothing and answers NOT_FOUND; of one in CANCELLING it changes nothing.
The model's choices it rests on: log 5, log 16. -/
def Obligations.CancelOfQueuedEndingAndUnknown : Prop :=
  ∀ (s : State) (q : Req) (target : Nat), Arrives s .cancel q 1 1 → s.part.Rested → s.part.Still →
    (∀ x, s.part.tx.queue.find? (fun y => decide (y.tag = target)) = some x →
      exec (.cancel q target) s = .next (tell s ((({ s.part with tx := { s.part.tx with
        queue := s.part.tx.queue.filter fun y => decide (y.tag ≠ target) } } : Part).sayHeld
          (finalMsg x.req.kind x.hold target .cancelled [])).say (okReply q .cancel [item 1 0])))) ∧
    ((∀ y ∈ s.part.tx.queue, y.tag ≠ target) → (∀ t ∈ s.part.tx.txns, t.tag = target → t.ended = true) →
      exec (.cancel q target) s = .next (tell s (s.part.say (refusal q .cancel .notFound [])))) ∧
    (∀ t, (∀ y ∈ s.part.tx.queue, y.tag ≠ target) → s.part.txn target = some t → t.ended = false →
      t.outcome ≠ none → exec (.cancel q target) s =
        .next (tell s (s.part.say (okReply q .cancel [item 1 2]))))

/-- CANCEL of a live transaction that has orders in the window: its outcome is CANCELLED, its QUEUED orders are
withdrawn, nothing of it is left to join, and it waits for the orders in the window.
The model's choice it rests on: log 5. -/
def Obligations.CancelOfLiveTransaction : Prop :=
  ∀ (s : State) (q : Req) (target : Nat) (t : Txn), Arrives s .cancel q 1 1 → s.part.Rested → s.part.Still →
    (∀ y ∈ s.part.tx.queue, y.tag ≠ target) → s.part.txn target = some t → t.ended = false → t.outcome = none →
    (∃ o ∈ s.part.mp.orders, o.owner = .txn target ∧ o.state ≠ .queued) →
    ∃ u, exec (.cancel q target) s = .next u ∧
      u.part.mp.orders = s.part.mp.orders.filter (fun o => !(decide (o.state = .queued) && decide (o.owner = .txn target))) ∧
      (∃ x, u.part.txn target = some x ∧ x.outcome = some .cancelled ∧ x.toJoin = [] ∧ x.retries = [] ∧ x.ended = false) ∧
      (∃ m ∈ u.part.li.queue, m = okReply q .cancel [item 1 1]) ∧ u.part.tu.extents = s.part.tu.extents


/-! ### Setup requests -/

/-- The mask form of EVENTS stores the mask, CLASS a record brought into range, REGION its list, and SCORING the
rounding mode; the REPLY is placed after the update is durable. A flag that the new mask uncovers goes to a NOTICE
(log 9).
The model's choices it rests on: log 6, log 10, log 16. -/
def Obligations.MaskClassRegionAndScoringWrites : Prop :=
  ∀ (s : State) (q : Req), s.part.Rested →
    (∀ mask, Arrives s .events q 1 3 →
      let p := { s.part with sv := { s.part.sv with mask := mask, alert := decide (s.part.sv.events &&& ~~~mask ≠ 0) } }
      let shown := s.part.sv.events &&& s.part.sv.mask &&& ~~~mask
      exec (.eventsMask q mask) s = .next (commit s (waits
        (if shown = 0 then p else { p with li := p.li.announce shown }) (.reply (okReply q .events []))))) ∧
    (∀ n v, Arrives s .cls q 1 8 → 1 ≤ n → n ≤ 8 →
      let p := { s.part with sv := { s.part.sv with classes := s.part.sv.classes.modify (n - 1) fun _ =>
        { firstZone := min (min 31 v.firstZone) (min 31 v.lastZone)
          lastZone := max (min 31 v.firstZone) (min 31 v.lastZone)
          quota := max 1 (min 16384 v.quota)
          weight := max 1 (min 31 v.weight)
          slot := min 15 v.slot } } }
      exec (.classWrite q n v) s = .next (commit s (waits p (.reply (okReply q .cls (p.classItems n)))))) ∧
    (∀ n v, Arrives s .cls q 1 8 → (n = 0 ∨ 8 < n) → exec (.classWrite q n v) s = .next (tell s (s.part.say
      (refusal q .cls .badArg [])))) ∧
    (∀ l, Arrives s .region q 1 (2 + 13 * l.length) →
      exec (.regionWrite q l) s = match regionFault s.part.bm.geom.L 0 none l with
        | some i => .next (tell s (s.part.say (refusal q .region .badArg [item 1 i])))
        | none => .next (commit s (waits { s.part with tu := { s.part.tu with regions := l } }
            (.reply (okReply q .region (regionItems l)))))) ∧
    (∀ (m : RoundMode) clear, Arrives s .scoring q 1 3 → exec (.scoringWrite q clear m.code) s = .next (commit s (waits
      { s.part with sc := { mode := m, saturated := s.part.sc.saturated && !clear } }
      (.reply (okReply q .scoring [item 1 m.code, flagItem s.part.sc.saturated]))))) ∧
    (∀ mode clear, Arrives s .scoring q 1 3 → 3 < mode → exec (.scoringWrite q clear mode) s = .next (tell s
      (s.part.say (refusal q .scoring .badArg []))))

/-- A region list is stored just where it holds at most 32 records, each of a length above 0 inside the logical space
with its fields in their ranges, in ascending order without overlap; and the index reported is that of the first
record at fault. -/
def Obligations.RegionListAcceptedWhenOrderedAndDisjoint : Prop :=
  ∀ (L : Nat) (l : List Region),
    (regionFault L 0 none l = none ↔
      l.length ≤ 32 ∧
      (∀ r ∈ l, 1 ≤ r.len ∧ r.start + r.len ≤ L ∧ r.cls ≤ 8 ∧ r.tail ≤ 2 ∧ r.verify ≤ 2) ∧
      (∀ i x y, l[i]? = some x → l[i + 1]? = some y → x.start < y.start ∧ x.start + x.len ≤ y.start)) ∧
    (∀ i, regionFault L 0 none l = some i → i < l.length ∧ regionFault L 0 none (l.take i) = none ∧
      regionFault L 0 none (l.take (i + 1)) = some i)

/-- The write form of TIMERS brings each setting into its range and stores it; a change of the high mark moves the
levels, and FREE_LOW is raised where the new mark reaches a FREE count that the old one did not.
The model's choices it rests on: log 4, log 6, log 16, log 19. -/
def Obligations.TimersWriteStoresSettingsInRange : Prop :=
  ∀ (s : State) (q : Req) (v : TimerArgs), Arrives s .timers q 1 13 →
    let new : TimerArgs :=
      { orderTimeout := max 10 (min 10000 v.orderTimeout)
        idleDelay := max 10 (min 60000 v.idleDelay)
        burst := max 1 (min 15 v.burst)
        reserve := max 2 (min 64 v.reserve)
        suspect := max 1 (min 255 v.suspect)
        highMark := max 4 (min 15 v.highMark)
        digestMinutes := max 1 (min 1440 v.digestMinutes)
        eventFreeLow := max 1 (min 255 v.eventFreeLow) }
    let p := ({ s.part with sv := { s.part.sv with settings := new } } : Part).levelChecks s.part
    let free := s.part.bm.bands.countP fun b => decide (b.state = .free)
    exec (.timersWrite q v) s = .next (after s (waits
      (if s.part.sv.header.mark = true ∧ s.part.sv.settings.eventFreeLow < free ∧ free ≤ new.eventFreeLow then
        p.raise evFreeLow else p)
      (.reply (okReply q .timers [item 2 new.orderTimeout, item 2 new.idleDelay, item 1 new.burst, item 1 new.reserve,
        item 1 new.suspect, item 1 new.highMark, item 2 new.digestMinutes, item 1 new.eventFreeLow]))))

/-- The levels of fill: STAGE_HIGH is raised when fill comes to the high mark from below, and the favoured lane and
the run count follow a change of the urgent state, which is fill at fifteen sixteenths. The Run List behind them: a
staging request is taken where its blocks and its records fit, refused where they can never fit or no channel destages,
and held otherwise; an append puts the records of its parts at the new end and moves the head; a tail check passes the
records without live blocks, flag, pins and hold, and is made when pins or a hold fall to 0 or a flag clears; and the
work for a destaging channel is the oldest record with live blocks that is not in flight, from the record that is named
where there is one (log 45). -/
def Obligations.LevelsOfFillRaiseStageHighAndTurnTheLane : Prop :=
  (∀ (p old : Part),
    let high (x : Part) : Prop := 0 < stgCap x.bm ∧ x.sv.settings.highMark * stgCap x.bm ≤ 16 * fill x.sl
    let urgent (x : Part) : Prop := 0 < stgCap x.bm ∧ 15 * stgCap x.bm ≤ 16 * fill x.sl
    (¬high old → high p → (p.levelChecks old).sv.events = p.sv.events ||| evStageHigh) ∧
    (high old ∨ ¬high p → (p.levelChecks old).sv = p.sv ∧ (p.levelChecks old).li = p.li) ∧
    (urgent p → ¬urgent old →
      (p.levelChecks old).mp = { p.mp with favoured := .background, runCount := 0 }) ∧
    (¬urgent p → urgent old →
      (p.levelChecks old).mp = { p.mp with favoured := .foreground, runCount := 0 }) ∧
    ((urgent p ↔ urgent old) → (p.levelChecks old).mp = p.mp) ∧
    (p.levelChecks old).bm = p.bm ∧ (p.levelChecks old).sl = p.sl ∧ (p.levelChecks old).tx = p.tx) ∧
  (∀ (p : Part) (n : Nat),
    let h := p.sl.head
    let C := stgCap p.bm
    let records := if h + n ≤ C then (n + 8191) / 8192 else (C - h + 8191) / 8192 + (n - (C - h) + 8191) / 8192
    let fits := fill p.sl + n ≤ C ∧ p.sl.runs.length + records ≤ 16384
    let never := C < n ∨ 16384 < records
    let destages := ∃ c, c < 4 ∧ (p.setup c).enable = true ∧ (p.setup c).job = .destage ∧
      (p.chan c).state ≠ .disabled ∧ (p.chan c).stop = none
    (fits → p.stagingTest n = .take) ∧
    (¬fits → never ∨ ¬destages → p.stagingTest n = .refuse) ∧
    (¬fits → ¬never → destages → p.stagingTest n = .hold)) ∧
  (∀ (p : Part) (x y : StagedPart) (start cls : Nat),
    (p.append [x] start cls).sl = { p.sl with
      runs := p.sl.runs ++ recordsOfPart cls start x, head := (p.sl.head + x.len) % stgCap p.bm } ∧
    (p.append [x, y] start cls).sl = { p.sl with
      runs := p.sl.runs ++ (recordsOfPart cls start x ++ recordsOfPart cls (start + x.len) y)
      head := (p.sl.head + (x.len + y.len)) % stgCap p.bm } ∧
    ((recordsOfPart cls start x).map Run.len).sum = x.len) ∧
  (∀ p : Part, p.tailCheck.sl = logTrimmed p.sl) ∧
  (∀ (p : Part) (pos len : Nat),
    let touched (f : Run → Run) : LogUnit :=
      { p.sl with runs := p.sl.runs.map fun r => if Meets pos len r then f r else r }
    let unpinned := touched fun r => { r with pins := r.pins - 1 }
    let unheld := touched fun r => { r with hold := r.hold - 1 }
    let landed := touched fun r => { r with inFlight := false }
    (p.pinRuns pos len).sl = touched (fun r => { r with pins := r.pins + 1 }) ∧
    (p.holdRuns pos len).sl = touched (fun r => { r with hold := r.hold + 1 }) ∧
    ((∃ r ∈ p.sl.runs, Meets pos len r ∧ r.pins = 1) → (p.unpinRuns pos len).sl = logTrimmed unpinned) ∧
    ((∀ r ∈ p.sl.runs, Meets pos len r → r.pins ≠ 1) → (p.unpinRuns pos len).sl = unpinned) ∧
    ((∃ r ∈ p.sl.runs, Meets pos len r ∧ r.hold = 1) → (p.unholdRuns pos len).sl = logTrimmed unheld) ∧
    ((∀ r ∈ p.sl.runs, Meets pos len r → r.hold ≠ 1) → (p.unholdRuns pos len).sl = unheld) ∧
    ((∃ r ∈ p.sl.runs, Meets pos len r ∧ r.inFlight = true) → (p.landRuns pos len).sl = logTrimmed landed) ∧
    ((∀ r ∈ p.sl.runs, Meets pos len r → r.inFlight = false) → (p.landRuns pos len).sl = landed)) ∧
  (∀ (p : Part) (pos : Nat),
    let work (l : List Run) := l.find? fun r => decide (0 < r.live ∧ r.inFlight = false)
    p.destageWork none = work p.sl.runs ∧
    ((∀ r ∈ p.sl.runs, r.pos ≠ pos) → p.destageWork (some pos) = work p.sl.runs) ∧
    (∀ a r b, p.sl.runs = a ++ r :: b → (∀ x ∈ a, x.pos ≠ pos) → r.pos = pos →
      p.destageWork (some pos) = work (r :: b)))

/-- The write form of CHANNEL: a code that names nothing is refused BAD_ARG (of the enable character too, log 33), a
change of the job or the buffer of a channel that is not DISABLED is refused WRONG_STATE; otherwise the setup is stored,
with its count and its free low mark brought into range. In a part that is not ONLINE a DISABLED channel changes in
nothing else.
The model's choices it rests on: log 6, log 10, log 16. -/
def Obligations.ChannelWriteStoresItsSetup : Prop :=
  ∀ (s : State) (q : Req) (c : Nat) (v : ChannelArgs), Arrives s .channel q 1 25 → s.part.Rested →
    (3 < c ∨ 1 < v.enable ∨ 1 < v.job ∨ 4 < v.source ∨ 2 < v.mode ∨ 8 < v.destClass ∨
        v.victims &&& ~~~0x01FE#16 ≠ 0 →
      exec (.channelWrite q c v) s = .next (tell s (s.part.say (refusal q .channel .badArg [])))) ∧
    (∀ n : ChanSetup, c ≤ 3 → v.destClass ≤ 8 → v.victims &&& ~~~0x01FE#16 = 0 →
      v.enable = (if n.enable then 1 else 0) → v.job = n.job.code → v.source = n.source.code → v.mode = n.mode.code →
      n.count = max 1 (min 65535 v.count) → n.destClass = v.destClass → n.victims = v.victims →
      n.handle = v.handle → n.compareHour = v.compareHour → n.period = v.period →
      n.freeLow = max 1 (min 255 v.freeLow) →
      ((s.part.chan c).state ≠ .disabled ∧ (n.job ≠ (s.part.setup c).job ∨ n.handle ≠ (s.part.setup c).handle) →
        exec (.channelWrite q c v) s = .next (tell s (s.part.say (refusal q .channel .wrongState [])))) ∧
      ((s.part.chan c).state = .disabled ∨ (n.job = (s.part.setup c).job ∧ n.handle = (s.part.setup c).handle) →
        let p := (s.part.storeSetup c n).drainAll
        (s.part.storeSetup c n).re.setups = (s.part.re.setups.modify c fun _ => n) ∧
        exec (.channelWrite q c v) s = .next (commit s (waits p (.reply (okReply q .channel (p.channelItems c)))))) ∧
      ((s.part.chan c).state = .disabled → s.part.sv.device ≠ .online → s.part.sl.held = false →
        (s.part.storeSetup c n).drainAll =
          { s.part with re := { s.part.re with setups := s.part.re.setups.modify c fun _ => n } }))

/-- No trigger flag is set of a channel that is DISABLED or being stopped: not by setFlag (a TRIGGER SET), by an input
report of any source, by the wake of the STALLED channels, or by a media idle, all of which leave its record as it is. A
media idle sets the flag of each channel whose source it is, whose setup is enabled and which is not stopped, in ONLINE.
A DISABLED channel becomes IDLE when its setup is enabled, the device ONLINE and no stop is given, and otherwise
becomeIdle changes nothing. -/
def Obligations.OnlyARunningChannelBecomesIdle : Prop :=
  ∀ (p : Part) (c : Nat),
    ((p.chan c).state = .disabled ∨ (p.chan c).stop ≠ none → p.setFlag c = p) ∧
    ((p.setup c).enable = false ∨ p.sv.device ≠ .online ∨ (p.chan c).stop ≠ none ∨ (p.chan c).state ≠ .disabled →
      p.becomeIdle c = p) ∧
    ((p.setup c).enable = true → p.sv.device = .online → (p.chan c).stop = none → (p.chan c).state = .disabled →
      c < p.re.chans.length → ((p.becomeIdle c).chan c).state = .idle) ∧
    ((p.chan c).state = .disabled ∨ (p.chan c).stop ≠ none →
      (∀ src old new, (p.inputReport src old new).chan c = p.chan c) ∧ p.wakeStalled.chan c = p.chan c ∧
      p.onMediaIdle.chan c = p.chan c) ∧
    (c < 4 → c < p.re.chans.length → p.onMediaIdle.chan c =
      if (p.setup c).source = .mediaIdle ∧ (p.setup c).enable = true ∧ p.sv.device = .online ∧
        (p.chan c).stop = none ∧ (p.chan c).state ≠ .disabled then { p.chan c with flag := true } else p.chan c)

/-- A RESET request is taken in every state and reserves no place: the first one stops the Media Port's timers, drops
its QUEUED orders and sends CANCEL ALL; a later one joins it, and sends CANCEL ALL again while its answer has not been
taken. One that has a body is refused (the model's choice, log 13).
The model's choices it rests on: log 16, log 35. -/
def Obligations.ResetTakenAndJoined : Prop :=
  ∀ (s : State) (q : Req), Hears s → s.part.Rested →
    (q.bodyLen = 0 → s.part.sv.reset = none → exec (.reset q) s = .next (tell s { s.part with
      sv := { s.part.sv with reset := some { tag := q.tag, count := 1, allTaken := false } }
      mp := { s.part.mp with
        orders := (s.part.mp.orders.filter fun o => decide (o.state ≠ .queued)).map fun o => { o with timer := .stopped }
        waiting := []
        told := []
        writeWait := []
        idle := .stopped
        awaitAll := true
        tx := s.part.mp.tx ++ [.cancelAll] } })) ∧
    (∀ w, q.bodyLen = 0 → s.part.sv.reset = some w → exec (.reset q) s = .next (tell s { s.part with
      sv := { s.part.sv with reset := some { tag := q.tag, count := w.count + 1, allTaken := w.allTaken } }
      mp := { s.part.mp with tx := if s.part.mp.awaitAll then s.part.mp.tx ++ [.cancelAll] else s.part.mp.tx } })) ∧
    (q.bodyLen ≠ 0 → Room s.part 1 → exec (.reset q) s = .next (tell s (s.part.say (refusal q .reset .badArg []))))

/-- CANCELLED ALL is stray where none is awaited. It empties the Order Queue; with a FORMAT or a RESTORE in progress
the reset waits for it, and otherwise it is completed: STOPPED or UNFORMATTED, with every stream FREE, every channel
DISABLED, no request, no transaction, no remap and no reserve. With a valid mark the Band Table and its lists take the
steps of R41, the Run List those of R100, and the favoured lane follows the fill. What waits in the transmit queue is
discarded, but for a message that is being sent; then one REPLY says how many requests it answers, and a NOTICE with what
is pending and unmasked follows it. Of the steps placed after an update in progress only its release and tail checks
stay.
The model's choices it rests on: log 16, log 19, log 35. -/
def Obligations.CancelledAllCompletesTheReset : Prop :=
  ∀ s : State, Hears s → s.part.Rested →
    (s.part.mp.awaitAll = false → exec .cancelledAll s = .next (tell s { s.part with
      mp := { s.part.mp with stray := min 65535 (s.part.mp.stray + 1) } })) ∧
    (∀ w, s.part.mp.awaitAll = true → s.part.sv.reset = some w →
      (s.part.sv.format ≠ none ∨ s.part.sv.restore ≠ none) → exec .cancelledAll s = .next (tell s { s.part with
        mp := { s.part.mp with orders := [], awaitAll := false }
        sv := { s.part.sv with reset := some { tag := w.tag, count := w.count, allTaken := true } } })) ∧
    (∀ w, s.part.mp.awaitAll = true → s.part.sv.reset = some w → s.part.sv.format = none → s.part.sv.restore = none →
      ∃ t, exec .cancelledAll s = .next t ∧ t.pins = s.pins ∧ t.pending = s.pending ∧
        t.part.sv.device = (if s.part.sv.header.mark then .stopped else .unformatted) ∧
        t.part.sv.reset = none ∧ t.part.sv.mount = none ∧ t.part.sv.quiesce = none ∧
        t.part.sv.digestTimer = .stopped ∧ t.part.sv.mask = s.part.sv.mask ∧
        t.part.sv.tallies = s.part.sv.tallies ∧ t.part.sv.classes = s.part.sv.classes ∧
        t.part.sv.settings = s.part.sv.settings ∧ t.part.sv.header.mark = s.part.sv.header.mark ∧
        t.part.sv.header.hours = s.part.sv.header.hours ∧ t.part.sv.hourAcc = s.part.sv.hourAcc ∧
        t.part.su = List.replicate 16 Stream.blank ∧ t.part.re.chans = List.replicate 4 Chan.blank ∧
        t.part.re.setups = s.part.re.setups ∧ t.part.sc = s.part.sc ∧
        t.part.tx = { queue := [], txns := [] } ∧ t.part.tu.extents = s.part.tu.extents ∧
        t.part.tu.regions = s.part.tu.regions ∧ t.part.tu.remaps = [] ∧ t.part.tu.reserveTotal = 0 ∧
        t.part.bm.geom = s.part.bm.geom ∧
        t.part.mp.orders = [] ∧ t.part.mp.writeWait = [] ∧ t.part.mp.waiting = [] ∧ t.part.mp.runCount = 0 ∧
        t.part.mp.lastChan = 3 ∧ t.part.mp.awaitAll = false ∧ t.part.mp.ready = s.part.mp.ready ∧
        t.part.mp.stray = s.part.mp.stray ∧ t.part.mp.linkErrors = s.part.mp.linkErrors ∧
        t.part.mp.idle = (if s.part.mp.ready then
          { state := .running, elapsed := 0, limit := s.part.sv.settings.idleDelay } else .stopped) ∧
        t.part.li.reserved = 0 ∧ t.part.li.frameErrors = s.part.li.frameErrors ∧
        t.part.li.unanswered = s.part.li.unanswered ∧
        { tag := w.tag, place := .ordinary, payload := .reply .ok .reset [item 2 w.count] } ∈ t.part.li.queue ∧
        t.line = s.line ∧ t.part.mp.told = [] ∧ t.part.mp.tx = s.part.mp.tx ∧
        t.part.mp.favoured = (if s.part.sv.header.mark = true ∧ FillAt t.part 15 then .background else .foreground) ∧
        (s.part.sv.header.mark = true →
          BandsReset s.part.sv.header.hours s.part.bm t.part.bm ∧ t.part.sl = logAfterReset s.part.sl ∧
          (FillAt t.part s.part.sv.settings.highMark → t.part.sv.events &&& evStageHigh ≠ 0) ∧
          (245760 ≤ s.part.tu.extents.length → t.part.sv.events &&& evMapHigh ≠ 0) ∧
          ((t.part.bm.bands.countP fun b => decide (b.state = .free)) ≤ s.part.sv.settings.eventFreeLow →
            t.part.sv.events &&& evFreeLow ≠ 0)) ∧
        (s.part.sv.header.mark = false → t.part.bm = s.part.bm ∧ t.part.sl = s.part.sl) ∧
        (∀ u ∈ t.part.store.updates, ∀ f ∈ u.follows, ∃ l b, f = .checks l b) ∧
        ((s.part.li.sending = true → s.part.li.queue ≠ []) →
          let kept := if s.part.li.sending then s.part.li.queue.take 1 else []
          let shown := t.part.sv.events &&& ~~~t.part.sv.mask
          t.part.li.queue = kept ++
            [{ tag := w.tag, place := .ordinary, payload := .reply .ok .reset [item 2 w.count] }] ++
            (if shown = 0 ∨ ∃ m ∈ kept, m.place = .notice then []
              else [{ tag := 0, place := .notice, payload := .notice shown }])))

/-- A FORMAT with a table at fault is refused with the lowest-numbered check that fails; otherwise its first update
makes the format mark invalid, and the rest waits for it.
The model's choices it rests on: log 6, log 16. -/
def Obligations.FormatRefusedOrStarted : Prop :=
  ∀ (s : State) (q : Req) (g : Geometry) (l : List Nat),
    Arrives s .format q 1 (17 + 9 * g.zones.length + 3 * l.length) → s.part.Rested →
    (∀ k, geometryFault g l = some k → exec (.format q g l) s = .next (tell s (s.part.say
      (refusal q .format .badArg [item 1 k])))) ∧
    (geometryFault g l = none → exec (.format q g l) s = .next (commit s (waits { s.part with
      sv := { s.part.sv with
        header := { s.part.sv.header with mark := false }
        format := some { tag := q.tag, geom := g, retired := l, phase := .unmark } } } .format)))

/-- The fourteen checks of the Geometry Table and the Retired Track List: the fault is the number of the first one
that fails. -/
def Obligations.GeometryFaultIsTheFirstFailingCheck : Prop :=
  ∀ (g : Geometry) (l : List Nat),
    let last (z : Zone) := z.first + z.pairs * z.T - 1
    let stg (t : Nat) : Prop := g.stgFirst ≤ t ∧ t < g.stgFirst + g.stgCount
    let P := (g.zones.map Zone.pairs).sum
    let passes (k : Nat) : Prop := match k with
      | 1 => 1 ≤ g.K ∧ g.K ≤ 4
      | 2 => 1 ≤ g.zones.length ∧ g.zones.length ≤ 32
      | 3 => (∀ z ∈ g.zones, 1 ≤ z.pairs) ∧ 1 ≤ P ∧ P ≤ 8192
      | 4 => ∀ z ∈ g.zones, 64 ≤ z.T ∧ z.T ≤ 2048
      | 5 => ∀ z ∈ g.zones, 128 ≤ z.S ∧ z.S ≤ 1024
      | 6 => ∀ z ∈ g.zones, last z ≤ 2 ^ 24 - 1
      | 7 => ∀ i x y, g.zones[i]? = some x → g.zones[i + 1]? = some y → last x < y.first
      | 8 => 16 ≤ g.stgCount ∧ g.stgCount ≤ 65536 ∧ 128 ≤ g.stgS ∧ g.stgS ≤ 1024 ∧
          g.stgFirst + g.stgCount - 1 ≤ 2 ^ 24 - 1
      | 9 => ∀ z ∈ g.zones, last z < g.stgFirst ∨ g.stgFirst + g.stgCount - 1 < z.first
      | 10 => l.length ≤ 2048 ∧ l.Pairwise (· < ·)
      | 11 => ∀ t ∈ l, (∃ z ∈ g.zones, z.first ≤ t ∧ t < z.first + z.pairs * z.T) ∨ stg t
      | 12 => 16 + (l.countP fun t => decide (g.stgFirst ≤ t ∧ t < g.stgFirst + g.stgCount)) ≤ g.stgCount
      | 13 => 1 ≤ g.L ∧ g.L ≤ 2 ^ 36
      | 14 => 100 * g.L ≤ 97 * (g.zones.map fun z => z.pairs * (z.T - g.K) * z.S).sum
      | _ => True
    (∀ k, geometryFault g l = some k ↔ 1 ≤ k ∧ k ≤ 14 ∧ ¬passes k ∧ ∀ j, 1 ≤ j → j < k → passes j) ∧
    (geometryFault g l = none ↔ ∀ j, 1 ≤ j → j ≤ 14 → passes j)

/-- A FORMAT goes on as its updates become durable: the empty and default tables with their digest, then the header with
a valid mark, the digest and H at 0, then STOPPED and the REPLY.
The model's choices it rests on: log 6, log 7, log 16, log 32. -/
def Obligations.FormatGoesOnToItsEnd : Prop :=
  ∀ (s : State) (w : FormatWork) (u : StoreUpdate), Hears s → s.part.Rested → s.part.Still →
    s.part.sv.format = some w → s.part.sv.reset = none → u.follows = [.format] → s.part.updateOf u.id = some u →
    (w.phase = .unmark → ∃ t, exec (.storeUpdateDurable u.id) s = .next t ∧
      t.part.bm = { geom := w.geom, retired := w.retired, pendingRetire := [], parked := List.replicate 8 []
                    bands := List.replicate (2 * pairCount w.geom) Band.blank } ∧
      t.part.tu = { extents := [], regions := [], remaps := [], reserveTotal := 0 } ∧
      t.part.sl = { runs := [], head := 0, tail := 0, held := false } ∧
      t.part.re.setups = List.replicate 4 ChanSetup.default ∧ t.part.sc.mode = .rnu ∧
      t.part.sv.classes = defaultClasses ∧ t.part.sv.settings = defaultSettings ∧ t.part.sv.mask = 0 ∧
      t.part.sv.format = some { w with phase := .tables } ∧
      t.part.sv.header = { s.part.sv.header with digest := digestOf w.geom w.retired } ∧
      t.part.sv.device = s.part.sv.device) ∧
    (w.phase = .tables → exec (.storeUpdateDurable u.id) s = .next (commit s { s.part.markDone u.id with
      sv := { s.part.sv with
        header := { mark := true, digest := digestOf s.part.bm.geom s.part.bm.retired, hours := 0 }
        format := some { w with phase := .header } }
      store := { (s.part.markDone u.id).store with follows := [.format] } })) ∧
    (w.phase = .header → (s.part.store.updates.find? fun x => decide (.format ∈ x.follows) && !x.done) = some u →
      exec .formatComplete s = .next (tell s (({ s.part.markDone u.id with
        sv := { s.part.sv with format := none, device := .stopped, hourAcc := 0 } } : Part).sayHeld
          { tag := w.tag, place := .ordinary, payload := .reply .ok .format [] })))

/-- The answers of RETIRE, in the order of its table: a track that is no shingled track, one that is retired, one that
waits, one of a band's written span, which binds the band for retirement, and one that is free, which retires at once and
may close its bands. And the way of a band from there: an error is counted up to 255, and binds the band where the count
has reached the threshold; a bound band goes to SUSPECT by the table of R35, loses its owner or its place on a parked
list, and is checked for release (a FREE, RETIRED or SUSPECT band stays as it is, log 38); the release check rewinds a
CLOSED or SUSPECT band whose four counts are 0; a rewind goes to FREE, or with the suspect flag set to RETIRED, where the
band's pending tracks join the retired ones with the digest and BAND_RETIRED is raised; and a victim returns to CLOSED or
SUSPECT.
The model's choices it rests on: log 4, log 6, log 16, log 22, log 37. -/
def Obligations.RetireAnswersInItsOrder : Prop :=
  (∀ (s : State) (q : Req) (t : Nat), Arrives s .retire q 1 4 → s.part.Rested →
    let p := s.part
    let shingled := t ≤ 2 ^ 24 - 1 ∧ classify p.bm t ≠ .staging ∧ classify p.bm t ≠ .unassigned
    let fresh := t ∉ p.bm.retired ∧ ∀ e ∈ p.bm.pendingRetire, e.track ≠ t
    let full := 2048 ≤ p.bm.retired.length + p.bm.pendingRetire.length
    (¬shingled → exec (.retire q t) s = .next (tell s (p.say (refusal q .retire .badArg [])))) ∧
    (shingled → t ∈ p.bm.retired → exec (.retire q t) s = .next (tell s (p.say (okReply q .retire [item 1 0])))) ∧
    (∀ e, shingled → t ∉ p.bm.retired → p.bm.pendingRetire.find? (fun x => decide (x.track = t)) = some e →
      exec (.retire q t) s = .next (tell s (p.say (okReply q .retire [item 1 1, item 2 e.band])))) ∧
    (∀ b, t ≤ 2 ^ 24 - 1 → classify p.bm t = .written b → fresh →
      if full ∨ 256 ≤ p.bm.pendingRetire.length then
        exec (.retire q t) s = .next (tell s (p.say (refusal q .retire .noSpace [])))
      else exec (.retire q t) s = .next (after s ((({ p with
        bm := { p.bm with pendingRetire := insertPending { track := t, band := b } p.bm.pendingRetire } } :
          Part).bindSuspect b).say (okReply q .retire [item 1 1, item 2 b])))) ∧
    (∀ n, t ≤ 2 ^ 24 - 1 → classify p.bm t = .freeIn n → fresh →
      if full then exec (.retire q t) s = .next (tell s (p.say (refusal q .retire .noSpace [])))
      else
        let bm := { p.bm with retired := insertAsc t p.bm.retired }
        exec (.retire q t) s = .next (after s ((((({ p with
          bm := bm
          sv := { p.sv with header := { p.sv.header with digest := digestOf bm.geom bm.retired } } } : Part).closeTest
            (2 * n)).closeTest (2 * n + 1)).say (okReply q .retire [item 1 2])))))) ∧
  ∀ (p : Part) (b : Nat), b < p.bm.bands.length →
    let r := p.band b
    let H := p.sv.header.hours
    let put (f : Band → Band) : Part := { p with bm := { p.bm with bands := p.bm.bands.modify b f } }
    let others (q : Part) : Prop := ∀ c, c ≠ b → q.band c = p.band c
    let counted := put fun x => { x with errors := min 255 (x.errors + 1) }
    (min 255 (r.errors + 1) < p.sv.settings.suspect → p.bandError b = counted) ∧
    (p.sv.settings.suspect ≤ min 255 (r.errors + 1) → p.bandError b = counted.bindSuspect b) ∧
    (let q := p.bindSuspect b
     (r.state = .free ∨ r.state = .retired ∨ r.state = .suspect → q = p) ∧
     (r.state = .reclaiming → q = put fun x => { x with suspectFlag := true }) ∧
     (r.state = .closed → others q ∧ q.sv.events &&& evBandSuspect = evBandSuspect ∧
       q.band b = checked { r with state := .suspect, suspectFlag := true }) ∧
     (r.state = .parked → others q ∧ q.sv.events &&& evBandSuspect = evBandSuspect ∧
       q.band b = checked { r with state := .suspect, suspectFlag := true, closedHour := H } ∧
       q.bm.parked = p.bm.parked.map fun l => l.filter fun x => decide (x ≠ b)) ∧
     (r.state = .opened → others q ∧ q.sv.events &&& evBandSuspect = evBandSuspect ∧
       q.band b = checked { r with state := .suspect, suspectFlag := true, closedHour := H, owner := none } ∧
       q.su = streamsWithout r.owner p.su ∧ q.re.chans = chansWithout r.owner p.re.chans)) ∧
    (let q := p.releaseCheck b
     q.band b = checked r ∧ others q ∧
     (¬((r.state = .closed ∨ r.state = .suspect) ∧ r.valid = 0 ∧ r.pins = 0 ∧ r.pendingRemaps = 0 ∧ r.inFlight = 0) →
       q = p)) ∧
    (let q := p.rewind b
     q.band b = rewound r ∧ others q ∧ q.bm.parked = p.bm.parked ∧
     (r.suspectFlag = false → q.bm.retired = p.bm.retired ∧ q.bm.pendingRetire = p.bm.pendingRetire ∧
       q.sv.header = p.sv.header) ∧
     (r.suspectFlag = true → q.sv.events &&& evBandRetired = evBandRetired ∧
       q.bm.pendingRetire = p.bm.pendingRetire.filter (fun e => decide (e.band ≠ b)) ∧
       (p.bm.retired.Pairwise (· < ·) → q.bm.retired.Pairwise (· < ·) ∧
         (∀ t, t ∈ q.bm.retired ↔ t ∈ p.bm.retired ∨ ∃ e ∈ p.bm.pendingRetire, e.band = b ∧ e.track = t) ∧
         q.sv.header = { p.sv.header with digest :=
           if q.bm.retired = p.bm.retired then p.sv.header.digest else digestOf p.bm.geom q.bm.retired }))) ∧
    p.takeVictim b = put (fun x => { x with state := .reclaiming }) ∧
    (let q := p.returnVictim b
     others q ∧ q.band b = checked { r with state := if r.suspectFlag then .suspect else .closed } ∧
     (r.suspectFlag = true → q.sv.events &&& evBandSuspect = evBandSuspect))

/-- MOUNT goes to MOUNTING. When the digest has been computed, the part is ONLINE with its digest timer started and its
enabled channels IDLE, or FENCED with FENCE raised where it does not match; the last message carries both digests and
the state.
The model's choices it rests on: log 4, log 6, log 10, log 16. -/
def Obligations.MountComputesTheDigest : Prop :=
  ∀ (s : State) (q : Req) (hold : Bool), s.part.Rested →
    (Arrives s .mount q (if hold then 1 else 2) 1 → exec (.mount q hold) s =
      .next (tell s { long s.part .mount q.tag hold with sv := { s.part.sv with
        device := .mounting, mount := some { tag := q.tag, hold := hold } } })) ∧
    (∀ m, Hears s → s.part.sv.device = .mounting → s.part.sv.reset = none → s.part.sv.mount = some m →
      let d := digestOf s.part.bm.geom s.part.bm.retired
      let items (x : Nat) := [item 4 d.toNat, item 4 s.part.sv.header.digest.toNat, item 1 x]
      (d ≠ s.part.sv.header.digest → exec .mountDigestEnd s = .next (tell s ((({ s.part with
        sv := { s.part.sv with mount := none, device := .fenced } } : Part).raise evFence).sayHeld
          (last .mount m.hold m.tag .fenced (items 5))))) ∧
      (d = s.part.sv.header.digest → exec .mountDigestEnd s = .next (after s (([0, 1, 2, 3].foldl Part.becomeIdle
        ({ s.part with sv := { s.part.sv with
          mount := none
          device := .online
          digestTimer := { state := .running, elapsed := 0
                           limit := s.part.sv.settings.digestMinutes * 60000 } } } : Part)).sayHeld
          (last .mount m.hold m.tag .ok (items 3))))))

/-- QUIESCE leaves ONLINE or FENCED for QUIESCING, stops the channels and closes the streams that no transaction names;
where nothing is left to drain it ends in the same event. The drain ends when no request, transaction, stream and
channel is left: the part is STOPPED, and the last message counts the streams closed and the requests refused.
The model's choices it rests on: log 4, log 5, log 6, log 16. -/
def Obligations.QuiesceDrainsToStopped : Prop :=
  ∀ (s : State) (q : Req) (hold : Bool), s.part.Rested →
    (Arrives s .quiesce q (if hold then 1 else 2) 1 → exec (.quiesce q hold) s =
      .next (after s (((List.range 16).foldl (fun (p : Part) i => p.quiesceClose (i + 1))
        ([0, 1, 2, 3].foldl (fun (p : Part) c => p.beginStop c .quiesce) { long s.part .quiesce q.tag hold with
          sv := { s.part.sv with
            device := .quiescing
            digestTimer := .stopped
            quiesce := some { tag := q.tag, hold := hold, closed := 0, refused := 0 } } })).note .drain))) ∧
    (Arrives s .quiesce q (if hold then 1 else 2) 1 → s.part.tx.queue = [] → s.part.tx.txns = [] →
      (∀ x ∈ s.part.su, x.state = .free) → (∀ k ∈ s.part.re.chans, k.state = .disabled) →
      exec (.quiesce q hold) s = .next (tell s (({ long s.part .quiesce q.tag hold with
        sv := { s.part.sv with device := .stopped, digestTimer := .stopped, quiesce := none } } : Part).sayHeld
          (last .quiesce hold q.tag .ok [item 1 0, item 1 0])))) ∧
    (∀ w, Hears s → s.part.sv.device = .quiescing → s.part.sv.reset = none → s.part.sv.quiesce = some w →
      s.part.tx.queue = [] → s.part.tx.txns = [] → (∀ x ∈ s.part.su, x.state = .free) →
      (∀ k ∈ s.part.re.chans, k.state = .disabled) →
      exec .quiesceDrainEnd s = .next (tell s (({ s.part with
        sv := { s.part.sv with quiesce := none, device := .stopped } } : Part).sayHeld
          (last .quiesce w.hold w.tag .ok [item 1 w.closed, item 1 w.refused])))) ∧
    (Hears s → (s.part.sv.quiesce = none ∨ s.part.tx.txns ≠ [] ∨ s.part.tx.queue ≠ []) →
      exec .quiesceDrainEnd s = .next (tell s s.part))

/-- RESTORE is refused while a transaction, a stream or a channel is in use, where its tables are at fault, and where
their digest is not the stored one; otherwise it writes the tables, and once they are durable the part is ONLINE.
The model's choices it rests on: log 4, log 6, log 16. -/
def Obligations.RestoreRefusedOrWritten : Prop :=
  ∀ (s : State) (q : Req) (g : Geometry) (l : List Nat), s.part.Rested →
    (Arrives s .restore q 1 (17 + 9 * g.zones.length + 3 * l.length) →
      let busy := s.part.tx.txns ≠ [] ∨ (∃ x ∈ s.part.su, x.state ≠ .free) ∨ ∃ k ∈ s.part.re.chans, k.state ≠ .disabled
      let d := digestOf g l
      (busy → exec (.restore q g l) s = .next (tell s (s.part.say (refusal q .restore .wrongState [])))) ∧
      (∀ k, ¬busy → geometryFault g l = some k → exec (.restore q g l) s = .next (tell s (s.part.say
        (refusal q .restore .badArg [item 1 k])))) ∧
      (¬busy → geometryFault g l = none → d ≠ s.part.sv.header.digest → exec (.restore q g l) s = .next (tell s
        (s.part.say (refusal q .restore .badArg [item 4 d.toNat, item 4 s.part.sv.header.digest.toNat])))) ∧
      (¬busy → geometryFault g l = none → d = s.part.sv.header.digest → exec (.restore q g l) s = .next (after s
        (waits { ({ s.part with bm := { s.part.bm with geom := g, retired := l } } : Part).levelChecks s.part with
          sv := { (({ s.part with bm := { s.part.bm with geom := g, retired := l } } : Part).levelChecks s.part).sv with
            restore := some q.tag } } .restore)))) ∧
    (∀ u tag, Hears s → s.part.sv.restore = some tag → s.part.sv.reset = none → u.follows = [.restore] →
      s.part.updateOf u.id = some u →
      (s.part.store.updates.find? fun x => decide (.restore ∈ x.follows) && !x.done) = some u →
      exec .restoreComplete s = .next (after s (([0, 1, 2, 3].foldl Part.becomeIdle
        ({ s.part.markDone u.id with sv := { s.part.sv with
          restore := none
          device := .online
          digestTimer := { state := .running, elapsed := 0
                           limit := s.part.sv.settings.digestMinutes * 60000 } } } : Part)).sayHeld
          { tag := tag, place := .ordinary, payload := .reply .ok .restore [] })))

/-! ### Data requests -/

/-- A data request whose arguments are in their ranges joins the back of the Request Queue, with REPLY TAKEN where it is
long and its hold flag clear; one that finds sixteen there is refused QUEUE_FULL, and one with an argument out of range
BAD_ARG.
The model's choice it rests on: log 16. -/
def Obligations.DataRequestsJoinTheRequestQueue : Prop :=
  ∀ (s : State) (q : Req) (hold : Bool) (c : Instr) (r : DataReq) (len : Nat) (ok : Prop),
    let L := s.part.bm.geom.L
    let attrs (a b c : Nat) : Prop := a ≤ 8 ∧ b ≤ 2 ∧ c ≤ 2
    (match r with
      | .place a => c = .place q hold a ∧ len = 16 ∧
          (ok ↔ (1 ≤ a.len ∧ a.len ≤ 8192 ∧ a.start + a.len ≤ L) ∧ a.stream ≤ 16 ∧ attrs a.cls a.tail a.verify)
      | .fetch st n h => c = .fetch q hold st n h ∧ len = 12 ∧ (ok ↔ 1 ≤ n ∧ n ≤ 8192 ∧ st + n ≤ L)
      | .discard st n => c = .discard q hold st n ∧ len = 11 ∧ (ok ↔ 1 ≤ n ∧ n ≤ 2 ^ 32 ∧ st + n ≤ L)
      | .locate st n => c = .locate q st n ∧ hold = true ∧ len = 9 ∧ (ok ↔ 1 ≤ n ∧ n ≤ 2 ^ 24 ∧ st + n ≤ L)
      | .streamOpen i a b v d => c = .streamOpen q i a b v d ∧ hold = true ∧ len = 8 ∧
          (ok ↔ 1 ≤ i ∧ i ≤ 16 ∧ attrs a b v)
      | .streamClose i => c = .streamClose q i ∧ hold = true ∧ len = 1 ∧ (ok ↔ 1 ≤ i ∧ i ≤ 16)) →
    Arrives s r.kind q (if hold then 1 else 2) len →
    (ok → s.part.tx.queue.length < 16 → exec c s = .next (tell s { long s.part r.kind q.tag hold with
      tx := { s.part.tx with queue := s.part.tx.queue ++ [{ tag := q.tag, hold := hold, req := r }] } })) ∧
    (ok → 16 ≤ s.part.tx.queue.length → exec c s = .next (tell s (s.part.say (refusal q r.kind .queueFull [])))) ∧
    (¬ok → exec c s = .next (tell s (s.part.say (refusal q r.kind .badArg []))))

/-! ### The head of the Request Queue -/

/-- A LOCATE at the head is answered with the segments of its range. A STREAM OPEN of a FREE stream makes it DORMANT with
the attributes it names and its idle limit in range, and is answered STREAM_BUSY of any other. A STREAM CLOSE parks the
band of an ACTIVE stream and makes the stream FREE. And what a park and a close do: a park pads the band to its next track
under PAD, clears its owner and rewinds it where nothing was reserved in it, closes it where less than a track of room is
left, and else puts it at the new end of its class's parked list, from which the oldest of four is closed; a close, which
the test of a band's room makes where less than 1 block is left of an OPEN or PARKED band, takes the owner and the place
on a parked list, sets the closed hour to H, and makes the release check.
The model's choices it rests on: log 4, log 6, log 10, log 16. -/
def Obligations.LocateAndStreamRequestsEndAtTheHead : Prop :=
  (∀ (s : State) (h : Queued), Heads s h →
    let p := s.part
    let done (p : Part) (r : Result) (items : List Item) : State :=
      after s ((p.popHead.sayHeld { tag := h.tag, place := .ordinary, payload := .reply r h.req.kind items }).note .drain)
    (∀ a n, h.req = .locate a n → exec .locateAdmission s = .next (done p .ok (p.locateItems a n))) ∧
    (∀ i a b v d, h.req = .streamOpen i a b v d → (p.stream i).state = .free →
      let limit := if d = 0 then 0 else max 10 (min 3600000 d)
      exec .streamOpenAdmission s = .next (done { p with su := p.su.modify (i - 1) fun _ =>
        { state := .dormant, cls := a, tail := b, verify := v, band := none, nextLba := none, park := .cont
          idleLimit := limit, idle := .stopped } } .ok [item 3 limit])) ∧
    (∀ i a b v d, h.req = .streamOpen i a b v d → (p.stream i).state ≠ .free →
      exec .streamOpenAdmission s = .next (done p .streamBusy [])) ∧
    (∀ i, h.req = .streamClose i → (p.stream i).state = .free →
      exec .streamCloseAdmission s = .next (done p .ok [item 2 0xFFFF, item 2 0])) ∧
    (∀ i, h.req = .streamClose i → (p.stream i).state ≠ .free →
      ((p.stream i).state ≠ .active ∨ (p.stream i).band = none) →
      exec .streamCloseAdmission s = .next (done { p with su := p.su.modify (i - 1) fun _ => Stream.blank } .ok
        [item 2 0xFFFF, item 2 0])) ∧
    (∀ i b, h.req = .streamClose i → (p.stream i).state = .active → (p.stream i).band = some b →
      let r := p.parkTallied b (p.stream i).park
      let q := r.2.modStream i fun _ => Stream.blank
      exec .streamCloseAdmission s = .next (done q .ok [item 2 b, item 1 (q.band b).state.code, item 2 r.1]))) ∧
  ∀ (p : Part) (b : Nat), b < p.bm.bands.length →
    let r := p.band b
    let S := (pairGeo p.bm.geom (b / 2)).S
    let closed (x : Band) := checked { x with state := .closed, closedHour := p.sv.header.hours, owner := none }
    let L := p.parkedList r.cls
    ((r.state = .opened ∨ r.state = .parked) ∧ room p.bm b < 1 → p.closeTest b = p.closeBand b) ∧
    (¬((r.state = .opened ∨ r.state = .parked) ∧ room p.bm b < 1) → p.closeTest b = p) ∧
    (let q := p.closeBand b
     q.band b = closed r ∧ (∀ c, c ≠ b → q.band c = p.band c) ∧
     q.bm.parked = p.bm.parked.map (fun l => l.filter fun x => decide (x ≠ b)) ∧
     q.su = streamsWithout r.owner p.su ∧ q.re.chans = chansWithout r.owner p.re.chans) ∧
    (∀ pol, r.state ≠ .opened → p.park b pol = (0, p)) ∧
    (∀ pol, r.state = .opened → 0 < S →
      let pad := match pol with
        | .cont => 0
        | .pad => if r.wp % S = 0 then 0 else S - r.wp % S
      let x : Band := { r with wp := r.wp + pad, owner := none }
      let left := room { p.bm with bands := p.bm.bands.modify b fun y => { y with wp := y.wp + pad } } b
      let q := (p.park b pol).2
      (p.park b pol).1 = pad ∧
      ((∀ o ∈ L, (p.band o).owner = none) →
        q.su = streamsWithout r.owner p.su ∧ q.re.chans = chansWithout r.owner p.re.chans) ∧
      (r.wp ≠ 0 → span { p.bm with bands := p.bm.bands.modify b fun y => { y with wp := y.wp + pad } } b =
        span p.bm b) ∧
      (r.wp = 0 → q.band b = rewound x ∧ q.bm.parked = p.bm.parked) ∧
      (r.wp ≠ 0 → left < S → q.band b = closed x ∧
        q.bm.parked = p.bm.parked.map (fun l => l.filter fun y => decide (y ≠ b))) ∧
      (r.wp ≠ 0 → S ≤ left → b ∉ L → r.cls - 1 < p.bm.parked.length →
        q.band b = { x with state := .parked } ∧
        (L.length < 4 → q.parkedList r.cls = L ++ [b] ∧ ∀ c, c ≠ b → q.band c = p.band c) ∧
        (∀ o more, 4 ≤ L.length → L = o :: more → o < p.bm.bands.length → (p.band o).owner = none →
          q.parkedList r.cls = (L.filter fun y => decide (y ≠ o)) ++ [b] ∧ q.band o = closed (p.band o) ∧
          ∀ c, c ≠ b → c ≠ o → q.band c = p.band c)))

/-- A PLACE at the head takes its map reserve, divides between its stream's bands and the log, and gets a record whose
pieces cover its range in order: the division's pieces in their bands, and what is left at the head of the log, in two
pieces where it passes the end of the region. Its WRITE orders, the runs of its pieces in order, join as far as they find
places, and the others wait; its stream gets its next LBA, its park policy and its idle timer. One that waits for staging
space is held, and holds nothing else. The division asks for bands: the stream's own, the oldest parked one of the class,
or the free band of the class's zones with the most unused tracks, within the reserve and the quota; without one the
stream is STARVED. A reservation by the owner of an OPEN band takes as much as there is room for, and keeps the pair
law.
The model's choices it rests on: log 4, log 6, log 14, log 16, log 30. -/
def Obligations.PlaceAdmittedWithPiecesThatCoverItsRange : Prop :=
  (∀ (s : State) (h : Queued) (a : PlaceArgs), Heads s h → h.req = .place a →
    (∀ t ∈ s.part.tx.txns, t.tag ≠ h.tag) →
    let p := s.part
    let streamed : Prop := 1 ≤ a.stream ∧ a.stream ≤ 16 ∧ (p.stream a.stream).state ≠ .free
    let attrs := p.resolve a
    let d := p.divide a attrs.cls
    ∀ n, (streamed → n = min 10 a.len + 2) → (¬streamed → n = min 2 a.len + 2) →
    p.tu.extents.length + p.tu.reserveTotal + n ≤ 262144 →
    (s.part.Still → (d.1.left = 0 ∨ d.2.stagingTest d.1.left = .take) → ∃ u, exec .placeAdmission s = .next u ∧
      u.part.tx.queue = p.tx.queue.tail ∧
      u.part.tu.extents = p.tu.extents ∧ u.part.tu.reserveTotal = p.tu.reserveTotal + n ∧
      ∃ t, u.part.txn h.tag = some t ∧ t.req = h.req ∧ t.hold = h.hold ∧ t.cls = attrs.cls ∧ t.reserve = n ∧
        t.outcome = none ∧ t.ended = false ∧ (t.pieces.map Piece.len).sum = a.len ∧
        ∀ i c, t.pieces[i]? = some c → c.lba = a.start + ((t.pieces.take i).map Piece.len).sum) ∧
    (d.1.left ≠ 0 → d.2.stagingTest d.1.left = .hold → exec .placeAdmission s = .next (after s (p.setHeld true))) ∧
    (d.1.left = 0 ∨ d.2.stagingTest d.1.left = .take →
      let m := d.2.bm
      let C := stgCap m
      let head := d.2.sl.head
      let left := d.1.left
      let fresh (lba len : Nat) (pl : Place) : Piece := { lba := lba, len := len, old := none, retryUsed := false
                                                          pos := { place := pl, update := p.store.next, ended := false }
                                                          verifying := false, succeeded := false }
      let pieces := (d.1.pieces.map fun x => fresh x.lba x.len (.band x.band x.off)) ++
        (if left = 0 then [] else if head + left ≤ C then [fresh d.1.lba left (.log head)]
          else [fresh d.1.lba (C - head) (.log head), fresh (d.1.lba + (C - head)) (left - (C - head)) (.log 0)])
      let orders := (pieces.zipIdx.map fun x => (cut m x.1.pos.place x.1.len).map fun r =>
        ({ id := 0, op := .write, track := r.track, sector := r.sector, dir := r.dir, count := r.count, place := r.place
           handle := a.handle, bufOff := x.1.lba - a.start + r.pieceOff, owner := .txn h.tag, cls := attrs.cls
           state := .queued, timer := .stopped, lba := x.1.lba + r.pieceOff, piece := x.2, attempt := 0
           retry := false, update := p.store.next } : Order)).flatten
      let q := d.2.admitPlace h a attrs n d.1
      exec .placeAdmission s = .next (after s q) ∧
      (∃ t, q.txn h.tag = some t ∧ t.req = h.req ∧ t.pieces = pieces ∧
        t.toJoin = (joins p.mp.writeWait p.mp.orders orders).2 ∧ t.verify = decide (attrs.verify = 1) ∧
        t.tail = (if attrs.tail = 1 then .pad else .cont)) ∧
      q.mp.orders = (joinedPort p.mp (.txn h.tag) orders).orders ∧
      q.mp.writeWait = (joinedPort p.mp (.txn h.tag) orders).writeWait ∧
      q.mp.waiting = (joinedPort p.mp (.txn h.tag) orders).waiting ∧
      q.bm = m ∧ q.sl.held = false ∧
      q.sl.runs = (if left = 0 then d.2.sl.runs
        else (d.2.append (stagedParts C head left) d.1.lba attrs.cls).sl.runs) ∧
      q.sl.head = (if left = 0 then head else (head + left) % C) ∧
      (streamed → q.stream a.stream = { d.2.stream a.stream with
        nextLba := if d.1.pieces ≠ [] ∨ (d.1.starved = true ∧ (d.2.stream a.stream).nextLba = some a.start) then
          some (a.start + a.len) else (d.2.stream a.stream).nextLba
        park := if d.1.pieces = [] then (d.2.stream a.stream).park else if attrs.tail = 1 then .pad else .cont
        idle := if (d.2.stream a.stream).idleLimit = 0 then (d.2.stream a.stream).idle
          else { state := .running, elapsed := 0, limit := (d.2.stream a.stream).idleLimit } }))) ∧
  (∀ (p : Part) (a : PlaceArgs) (cls : Nat),
    let none' : Division := { pieces := [], lba := a.start, left := a.len, starved := false }
    let streamed : Prop := 1 ≤ a.stream ∧ a.stream ≤ 16 ∧ (p.stream a.stream).state ≠ .free
    let direct : Prop := (p.stream a.stream).nextLba = none ∨ (p.stream a.stream).nextLba = some a.start ∨ 256 ≤ a.len
    (¬streamed ∨ ¬direct → p.divide a cls = (none', p)) ∧
    (streamed → direct → p.divide a cls = Part.divideSteps a.stream cls 8 p none')) ∧
  (∀ (p : Part) (i cls k : Nat) (d : Division),
    let b := p.bandRequest (.stream i) cls
    let starved (q : Part) : Division × Part :=
      ({ d with starved := true }, q.modStream i fun x => { x with state := .starved, band := none })
    (d.left = 0 ∨ k = 0 → Part.divideSteps i cls k p d = (d, p)) ∧
    (d.left ≠ 0 → b.1 = none → Part.divideSteps i cls (k + 1) p d = starved b.2) ∧
    (∀ x, d.left ≠ 0 → b.1 = some x →
      let r := b.2.reserve (.stream i) x d.left
      (r.2.1 = 0 → Part.divideSteps i cls (k + 1) p d = starved r.2.2) ∧
      (r.2.1 ≠ 0 → Part.divideSteps i cls (k + 1) p d = Part.divideSteps i cls k r.2.2 { d with
        pieces := d.pieces ++ [{ lba := d.lba, len := r.2.1, band := x, off := r.1 }]
        lba := d.lba + r.2.1, left := d.left - r.2.1 }))) ∧
  (∀ (p : Part) (w : Requester) (c : Nat),
    let held : Option Nat := match w with
      | .stream i => (p.stream i).band
      | .chan k => (p.chan k).owned
    let owns (b : Nat) : Prop := held = some b ∧ (p.band b).state = .opened ∧ (p.band b).owner = some w
    let g := p.bm.geom
    let top := g.zones.length - 1
    let zone (b : Nat) := (pairGeo g (b / 2)).zone
    let unused (b : Nat) := (pairGeo g (b / 2)).T - g.K - span p.bm (2 * (b / 2)) - span p.bm (2 * (b / 2) + 1)
    let fits (b : Nat) : Prop := b < p.bm.bands.length ∧ (p.band b).state = .free ∧
      min (p.classRec c).firstZone top ≤ zone b ∧ zone b ≤ min (p.classRec c).lastZone top ∧
      (pairGeo g (b / 2)).S ≤ room p.bm b
    let best (b : Nat) : Prop := fits b ∧ ∀ x, fits x → unused x < unused b ∨ (unused x = unused b ∧ b ≤ x)
    let may : Prop := classCount p.bm c < (p.classRec c).quota ∧ (match w with
      | .stream _ => p.sv.settings.reserve < p.bm.bands.countP fun b => decide (b.state = .free)
      | .chan _ => True)
    let q := p.bandRequest w c
    let given (b : Nat) (cls : Nat) : Prop := q.1 = some b ∧
      (b < p.bm.bands.length → q.2.band b = { p.band b with state := .opened, owner := some w, cls := cls }) ∧
      (∀ x, x ≠ b → q.2.band x = p.band x) ∧
      q.2.su = (match w with
        | .stream i => p.su.modify (i - 1) fun x => { x with state := .active, band := some b }
        | .chan _ => p.su) ∧
      q.2.re.chans = (match w with
        | .stream _ => p.re.chans
        | .chan k => p.re.chans.modify k fun x => { x with owned := some b })
    (∀ b, owns b → q = (some b, p)) ∧
    ((∀ b, ¬owns b) →
      (∀ b more, p.parkedList c = b :: more → given b (p.band b).cls ∧
        q.2.bm.parked = p.bm.parked.map fun l => l.filter fun x => decide (x ≠ b)) ∧
      (p.parkedList c = [] →
        (∀ b, may → best b → given b c ∧ q.2.bm.parked = p.bm.parked) ∧
        (¬may ∨ (∀ b, ¬fits b) → q = (none, p))))) ∧
  ∀ (p : Part) (w : Requester) (b n : Nat), b < p.bm.bands.length →
    let r := p.band b
    let got := min n (room p.bm b)
    let m : BandManager := { p.bm with
      bands := p.bm.bands.modify b fun x => { x with wp := x.wp + got, inFlight := x.inFlight + 1 } }
    (r.state ≠ .opened ∨ r.owner ≠ some w ∨ got = 0 → p.reserve w b n = (r.wp, 0, p)) ∧
    (r.state = .opened → r.owner = some w → got ≠ 0 →
      p.reserve w b n = (r.wp, got, (({ p with bm := m } : Part).closeTest b).closeTest (partner b)) ∧
      span m b + span m (partner b) + m.geom.K ≤ (pairGeo m.geom (b / 2)).T)

/-- A FETCH at the head for which the Order Queue has places gets its record and queues its READ orders together, at most
32; one that reads nothing ends in the same event. One that lacks places waits.
The model's choices it rests on: log 5, log 10, log 16. -/
def Obligations.FetchAdmittedWithItsReads : Prop :=
  ∀ (s : State) (h : Queued) (a n b : Nat), Heads s h → s.part.Still → h.req = .fetch a n b →
    (∀ t ∈ s.part.tx.txns, t.tag ≠ h.tag) → (∀ o ∈ s.part.mp.orders, o.owner ≠ .txn h.tag) →
    (∀ e ∈ s.part.mp.writeWait, e.owner ≠ .txn h.tag) →
    let p := s.part
    let f := p.fetchPlan a n
    f.runs.length ≤ 32 ∧
    (f.runs ≠ [] → p.mp.orders.length + f.runs.length ≤ 64 → ∃ u, exec .fetchAdmission s = .next u ∧
      u.part.tx.queue = p.tx.queue.tail ∧ u.part.tu = p.tu ∧
      (∃ t, u.part.txn h.tag = some t ∧ t.req = h.req ∧ t.holes = f.holes ∧ t.coveredEnd = f.stop ∧ t.outcome = none ∧
        t.toJoin = []) ∧
      ∃ new, u.part.mp.orders = p.mp.orders ++ new ∧ new.length = f.runs.length ∧
        ∀ (i : Nat) (o : Order) (r : LbaRun), new[i]? = some o → f.runs[i]? = some r → o.op = .read ∧ o.owner = .txn h.tag ∧ o.state = .queued ∧
          o.track = r.run.track ∧ o.sector = r.run.sector ∧ o.dir = r.run.dir ∧ o.count = r.run.count ∧
          o.handle = b ∧ o.bufOff = r.lba - a) ∧
    (f.runs = [] → p.mp.orders.length ≤ 64 → exec .fetchAdmission s = .next (tell s ((({ p with
      tx := { p.tx with queue := p.tx.queue.tail } } : Part).count 1 (Tally.addFetched 0)).sayHeld
        (last .fetch h.hold h.tag .ok ([item 5 f.stop, item 2 0, item 1 f.holes.length] ++
          (f.holes.map fun x => [item 5 x.start, item 2 x.len]).flatten))))) ∧
    (64 < p.mp.orders.length + f.runs.length → exec .fetchAdmission s = .next (tell s p))

/-- A DISCARD at the head empties its range of the map and touches no other block; where nothing is mapped there it ends
in the same event, and else its end waits for the update to be durable. -/
def Obligations.DiscardAdmittedEmptiesItsRange : Prop :=
  ∀ (s : State) (h : Queued) (a n : Nat), Heads s h → s.part.Still → h.req = .discard a n → 1 ≤ n → n ≤ 2 ^ 32 →
    (∀ t ∈ s.part.tx.txns, t.tag ≠ h.tag) → s.part.tu.extents.length + s.part.tu.reserveTotal + 1 ≤ 262144 →
    ∃ u, exec .discardAdmission s = .next u ∧ u.part.tx.queue = s.part.tx.queue.tail ∧
      (∀ x, within x a n → placeAt u.part.tu.extents x = none) ∧
      (∀ x, ¬within x a n → placeAt u.part.tu.extents x = placeAt s.part.tu.extents x) ∧
      ((∀ e ∈ s.part.tu.extents, e.start + e.len ≤ a ∨ a + n ≤ e.start) →
        u.part.tx.txns = s.part.tx.txns ∧ u.part.tu.extents = s.part.tu.extents ∧
        last .discard h.hold h.tag .ok [item 5 0] ∈ u.part.li.queue) ∧
      ((∃ e ∈ s.part.tu.extents, 1 ≤ e.len ∧ e.start < a + n ∧ a < e.start + e.len) →
        ∃ t x, u.part.txn h.tag = some t ∧ t.ended = true ∧ 1 ≤ t.removed ∧
          x ∈ u.part.store.updates ∧ .discard h.tag ∈ x.follows)

/-- The head is refused where the device's state does not take its kind, MAP_FULL where its map reserve cannot be taken
and nothing else holds one, and STAGING_FULL where its staged blocks can never fit or no channel destages; a head that is
not to be refused stays.
The model's choices it rests on: log 4, log 6, log 16. -/
def Obligations.HeadRefusedForItsReason : Prop :=
  ∀ (s : State) (h : Queued), Hears s → s.part.Rested → s.part.sv.reset = none →
    s.part.tx.queue.head? = some h →
    let p := s.part
    let refused (r : Result) : State :=
      after s (({ p with sv := { p.sv with quiesce := p.sv.quiesce.map fun w => { w with refused := w.refused + 1 } } } :
        Part).endAtHead h r [])
    (∀ r, stateRefusal h.req.kind p.sv.device = some r → exec .headRefusal s = .next (refused r)) ∧
    (∀ n, Heads s h → ((∃ a, h.req = .place a) ∨ ∃ a b, h.req = .discard a b) → p.reserveFor h.req = n →
      262144 < p.tu.extents.length + p.tu.reserveTotal + n → p.tx.txns = [] → p.tu.remaps = [] →
      exec .headRefusal s = .next (refused .mapFull)) ∧
    (∀ a, Heads s h → h.req = .place a →
      p.tu.extents.length + p.tu.reserveTotal + p.reserveFor h.req ≤ 262144 →
      (p.divide a (p.resolve a).cls).1.left ≠ 0 →
      (p.divide a (p.resolve a).cls).2.stagingTest (p.divide a (p.resolve a).cls).1.left = .refuse →
      exec .headRefusal s = .next (refused .stagingFull)) ∧
    (Heads s h → (∀ a, h.req ≠ .place a) → (∀ a b, h.req ≠ .discard a b) → exec .headRefusal s = .next (tell s p))

/-! ### The map -/

/-- A map update moves exactly the blocks of its items: a block of an item is at the item's new position, or a hole where
the item removes, and every other block is where it was. In the same update the valid count of each band and the live
count of each run record fall by the blocks the items' ranges held there and rise by those the items place there; the
release checks of the bands whose count fell, and the tail check where a record's live count fell to 0, wait for the
update to be durable.
The model's choice it rests on: log 41. -/
def Obligations.MapUpdateMovesExactlyItsBlocks : Prop :=
  (∀ (l : List Extent) (items : List MapItem) (x : Nat),
    items.Pairwise (fun i j => i.start + i.len ≤ j.start ∨ j.start + j.len ≤ i.start) →
    let m := applyInsertions (applyRemovals l items).1 items
    (∀ it ∈ items, within x it.start it.len → placeAt m x = it.place.map fun pl => pl.shift (x - it.start)) ∧
    ((∀ it ∈ items, ¬within x it.start it.len) → placeAt m x = placeAt l x)) ∧
  ∀ (p : Part) (items : List MapItem),
    items.Pairwise (fun i j => i.start + i.len ≤ j.start ∨ j.start + j.len ≤ i.start) →
    let q := (p.mapUpdate items).2
    let lost := (items.map fun it => p.tu.extents.filterMap fun e =>
      let a := max it.start e.start
      let b := min (it.start + it.len) (e.start + e.len)
      if a < b then some (e.place.shift (a - e.start), b - a) else none).flatten
    let gains := items.filterMap fun it => it.place.map fun pl => (pl, it.len)
    q.tu.extents = applyInsertions (applyRemovals p.tu.extents items).1 items ∧
    (∀ b, b < p.bm.bands.length → q.band b = { p.band b with
      valid := (p.band b).valid - inBand b lost + inBand b gains }) ∧
    q.sl.runs = (p.sl.runs.map fun r => { r with live := r.live - inRun r lost + inRun r gains }) ∧
    ∃ fell tail, q.store = { p.store with follows := p.store.follows ++ [.checks fell tail] } ∧
      (∀ b, b < p.bm.bands.length → (b ∈ fell ↔ (q.band b).valid < (p.band b).valid)) ∧
      (tail = true ↔ ∃ (i : Nat) (x y : Run), p.sl.runs[i]? = some x ∧ q.sl.runs[i]? = some y ∧ 0 < x.live ∧ y.live = 0)

/-- A REPORT whose id no ISSUED or CANCELLING order holds, and any REPORT while CANCELLED ALL is awaited, is counted and
changes nothing else; so is a CANCELLED ALL that is not awaited.
The model's choice it rests on: log 16. -/
def Obligations.StrayReportsAreCounted : Prop :=
  ∀ (s : State), Hears s → s.part.Rested →
    let counted := tell s { s.part with mp := { s.part.mp with stray := min 65535 (s.part.mp.stray + 1) } }
    (∀ id st done, (s.part.mp.awaitAll = true ∨ ∀ o ∈ s.part.mp.orders, o.id = id → o.state = .queued) →
      exec (.report id st done) s = .next counted) ∧
    (s.part.mp.awaitAll = false → exec .cancelledAll s = .next counted)

/-- The REPORT of an ISSUED READ order of a live FETCH, another of whose orders is in the window, from a band that holds
mapped blocks or from the log: the order leaves the queue. A report of OK with every block done adds the blocks to the FETCH's blocks read. Any other is a failure: of a
retry order it fixes the outcome MEDIA_ERROR with the failing LBA, withdraws the FETCH's QUEUED orders and drops its
waiting retries; of a first order it prepares a retry from a fresh lookup, whose orders join if each finds a place, and
which waits if not.
The model's choice it rests on: log 5. -/
def Obligations.ReportOnAnOrderOfAFetch : Prop :=
  ∀ (s : State) (id : Nat) (st : ReportStatus) (done : Nat) (o : Order) (tag : Nat) (t : Txn) (a n h : Nat),
    Hears s → s.part.Rested → s.part.Still → s.part.mp.awaitAll = false →
    s.part.order id = some o → o.state = .issued → o.op = .read → o.owner = .txn tag →
    s.part.txn tag = some t → t.tag = tag → t.req = .fetch a n h → t.outcome = none → t.toJoin = [] →
    (∃ x ∈ s.part.mp.orders, x.id ≠ id ∧ x.owner = .txn tag ∧ x.state ≠ .queued) →
    (∀ b off, o.place = .band b off → 0 < (s.part.band b).valid) →
    let left := s.part.mp.orders.filter fun x => decide (x.id ≠ id)
    let runs := s.part.runsOf (lookup s.part.tu.extents o.lba o.count)
    ∃ u, exec (.report id st done) s = .next u ∧ u.part.tu.extents = s.part.tu.extents ∧
      (st = .ok → done = o.count → u.part.mp.orders = left ∧
        u.part.txn tag = some { t with blocksRead := t.blocksRead + o.count }) ∧
      (¬(st = .ok ∧ done = o.count) →
        (o.retry = true →
          u.part.mp.orders = left.filter (fun x => !(decide (x.state = .queued) && decide (x.owner = .txn tag))) ∧
          ∃ x, u.part.txn tag = some x ∧ x.outcome = some .mediaError ∧ x.retries = [] ∧
            (st = .ok → x.failLba = some (o.lba + min done o.count)) ∧
            (st = .fault → done < o.count → x.failLba = some (o.lba + done)) ∧
            (st = .fault → o.count ≤ done → x.failLba = some (o.lba + (o.count - 1))) ∧
            (st = .cancelled → x.failLba = some o.lba)) ∧
        (o.retry = false → left.length + runs.length ≤ 64 → u.part.txn tag = some t ∧
          ∃ new, u.part.mp.orders = left ++ new ∧ new.length = runs.length ∧
            ∀ x ∈ new, x.op = .read ∧ x.state = .queued ∧ x.owner = .txn tag ∧ x.handle = h ∧ x.retry = true ∧
              x.bufOff = x.lba - a) ∧
        (o.retry = false → 64 < left.length + runs.length → u.part.mp.orders = left ∧ ∃ x, u.part.txn tag = some x ∧
          x.outcome = none ∧ x.blocksRead = t.blocksRead ∧ ({ lba := o.lba, len := o.count } : RetryRun) ∈ x.retries))

/-- The REPORT of an ISSUED order acts in the order of R142: queue, Band Manager, owner with all that its rules bring
about, tally and MEDIA_ERR, waiting owners. The REPORT of a CANCELLING order acts in that of R145, and LATE_REPORT
follows one that is not CANCELLED. The expiry of an ISSUED order's timer, which has reached its limit, acts in that of
R144; before its limit the command changes nothing.
The model's choices it rests on: log 3, log 4, log 6, log 16. -/
def Obligations.ReportsAndTimeoutsActInTheirOrder : Prop :=
  ∀ (s : State) (id : Nat) (o : Order), Hears s → s.part.Rested → s.part.order id = some o →
    (s.part.mp.awaitAll = false → o.state = .issued → ∀ st done,
      let settled : ReportStatus × Nat := match st with
        | .ok => if done = o.count then (.ok, done) else (.fault, min done o.count)
        | .fault => (.fault, min done (o.count - 1))
        | .cancelled => (.cancelled, done)
      let queue := (s.part.removeOrder o.id).unpinOrder o
      let band := if settled.1 = .fault then queue.orderError o else queue
      let owner := (band.tellReport o settled.1 settled.2).drainAll
      let tally := if settled.1 = .fault then (owner.count o.cls Tally.addFault).raise evMediaErr else owner
      exec (.report id st done) s = .next (after s tally.placeFreed)) ∧
    (s.part.mp.awaitAll = false → o.state = .cancelling → ∀ st done,
      let owner := ((s.part.removeOrder o.id).tellGone o).drainAll
      exec (.report id st done) s = .next (after s (if st = .cancelled then owner else owner.raise evLateReport).placeFreed)) ∧
    (o.state = .issued → o.timer.state = .running → o.timer.limit ≤ o.timer.elapsed →
      let owner := ((((s.part.sendCancel id).unpinOrder o).orderError o).tellTimeout o).drainAll
      exec (.orderTimerExpiry id) s = .next (after s ((owner.count o.cls Tally.addFault).raise evOrderTimeout))) ∧
    (o.state ≠ .issued ∨ o.timer.state ≠ .running ∨ o.timer.elapsed < o.timer.limit →
      exec (.orderTimerExpiry id) s = .next (tell s s.part))

/-- When the timer of an ISSUED order reaches its limit and its expiry is taken, CANCEL is sent for it, it becomes CANCELLING with its timer started again,
and ORDER_TIMEOUT is pending; the order is the first of a FETCH, which goes on, or a retry, whose timeout fixes the
outcome TIMEOUT with the failing LBA. When the timer of a CANCELLING order has reached its limit, CANCEL is sent again
and the timer starts again, and nothing else follows; at any other time that command does nothing.
The model's choices it rests on: log 3, log 16. -/
def Obligations.TimedOutOrderIsCancelled : Prop :=
  ∀ (s : State) (id : Nat) (o : Order), Hears s → s.part.Rested → s.part.order id = some o →
    let limit : Timer := { state := .running, elapsed := 0, limit := s.part.sv.settings.orderTimeout }
    let orders := s.part.mp.orders.map fun x => if x.id = id then { x with state := .cancelling, timer := limit } else x
    (∀ tag t a n h, s.part.Still → o.state = .issued → o.timer.state = .running → o.timer.limit ≤ o.timer.elapsed →
      o.op = .read → o.owner = .txn tag → s.part.txn tag = some t → t.tag = tag → t.req = .fetch a n h → t.outcome = none →
      ∃ u, exec (.orderTimerExpiry id) s = .next u ∧ u.part.mp.tx = s.part.mp.tx ++ [.cancel id] ∧
        u.part.sv.events &&& evOrderTimeout = evOrderTimeout ∧
        (o.retry = false → u.part.mp.orders = orders ∧ u.part.txn tag = some t) ∧
        (o.retry = true →
          u.part.mp.orders = orders.filter (fun x => !(decide (x.state = .queued) && decide (x.owner = .txn tag))) ∧
          ∃ x, u.part.txn tag = some x ∧ x.outcome = some .timeout ∧ x.failLba = some o.lba ∧ x.retries = [])) ∧
    (o.state = .cancelling → o.timer.state = .running → o.timer.limit ≤ o.timer.elapsed → exec (.cancelRepeat id) s =
      .next (tell s { s.part with mp := { s.part.mp with orders := orders, tx := s.part.mp.tx ++ [.cancel id] } })) ∧
    (¬(o.state = .cancelling ∧ o.timer.state = .running ∧ o.timer.limit ≤ o.timer.elapsed) →
      exec (.cancelRepeat id) s = .next (tell s s.part))

/-- READY lets held order timers run on and starts the media idle timer from 0; NOT READY holds the running order timers
and stops the media idle timer; a message that repeats the present state changes nothing.
The model's choices it rests on: log 16, log 35. -/
def Obligations.MediaReadyStateFollowsTheSequencer : Prop :=
  ∀ (s : State), Hears s →
    let running (t : Timer) : Timer := if t.state = .held then { t with state := .running } else t
    let held (t : Timer) : Timer := if t.state = .running then { t with state := .held } else t
    (s.part.mp.ready = true → exec .ready s = .next (tell s s.part)) ∧
    (s.part.mp.ready = false → exec .ready s = .next (tell s { s.part with mp := { s.part.mp with
      ready := true
      orders := s.part.mp.orders.map fun o => { o with timer := running o.timer }
      idle := { state := .running, elapsed := 0, limit := s.part.sv.settings.idleDelay } } })) ∧
    (s.part.mp.ready = false → exec .notReady s = .next (tell s s.part)) ∧
    (s.part.mp.ready = true → ∃ t : Timer, t.state = .stopped ∧ exec .notReady s = .next (tell s { s.part with mp := { s.part.mp with
      ready := false
      orders := s.part.mp.orders.map fun o => { o with timer := held o.timer }
      idle := t } }))

/-- A media idle, taken when the media idle timer has reached its limit, starts that timer afresh and reports to the channels whose source is MEDIA_IDLE; with no
channel that runs nothing else follows. The expiry of a stream's running idle timer stops it; an ACTIVE stream parks its
band and becomes DORMANT without one, keeping its next LBA and its overrides; the map and the transactions stay. Neither command does anything where its timer is not running or has not reached its
limit.
The model's choices it rests on: log 3, log 4, log 6, log 16. -/
def Obligations.IdleTimersOfMediaAndStreams : Prop :=
  ∀ (s : State), Hears s → s.part.Rested →
    (s.part.mp.idle.state = .running → s.part.mp.idle.limit ≤ s.part.mp.idle.elapsed →
      let restarted : Part := { s.part with mp := { s.part.mp with
        idle := { state := .running, elapsed := 0, limit := s.part.sv.settings.idleDelay } } }
      exec .mediaIdle s = .next (after s ([0, 1, 2, 3].foldl (fun p c => if (p.setup c).source = .mediaIdle ∧ p.running c then
        p.setFlag c else p) restarted)) ∧
      (s.part.Still → exec .mediaIdle s = .next (tell s restarted))) ∧
    (s.part.mp.idle.state ≠ .running ∨ s.part.mp.idle.elapsed < s.part.mp.idle.limit → exec .mediaIdle s = .next (tell s s.part)) ∧
    (∀ i, 1 ≤ i → i ≤ 16 →
      ((s.part.stream i).idle.state ≠ .running ∨ (s.part.stream i).idle.elapsed < (s.part.stream i).idle.limit →
        exec (.streamIdleExpiry i) s = .next (tell s s.part)) ∧
      (s.part.Still → (s.part.stream i).idle.state = .running →
        (s.part.stream i).idle.limit ≤ (s.part.stream i).idle.elapsed →
        ∃ u, exec (.streamIdleExpiry i) s = .next u ∧ u.part.tu = s.part.tu ∧ u.part.tx = s.part.tx ∧
          ((s.part.stream i).state ≠ .active → u.part.su = s.part.su.modify (i - 1) fun x =>
            { x with idle := { state := .stopped, elapsed := 0, limit := 0 } }) ∧
          (∀ b, (s.part.stream i).state = .active → (s.part.stream i).band = some b →
            u.part.stream i = { s.part.stream i with
              idle := { state := .stopped, elapsed := 0, limit := 0 }, state := .dormant, band := none } ∧
            u = after s (((s.part.modStream i fun x => { x with idle := { state := .stopped, elapsed := 0, limit := 0 } }
              ).parkTallied b (s.part.stream i).park).2.modStream i fun x => { x with state := .dormant, band := none }))))

/-- At the expiry of the digest timer of a part that is ONLINE and not being reset, the digest of the stored tables is
compared with the header's: equal, and the timer starts again from 0; different, and the part becomes FENCED, its digest
timer stops, FENCE is raised and every channel is given a stop. Otherwise a digest check does nothing. When the
accumulator has reached one hour, it starts from 0; H rises by one, unless the part is UNFORMATTED or H stands at its end.
The model's choices it rests on: log 3, log 4, log 6, log 16. -/
def Obligations.DigestChecksAndHours : Prop :=
  ∀ (s : State), Hears s → s.part.Rested →
    let d := digestOf s.part.bm.geom s.part.bm.retired
    (s.part.sv.device = .online → s.part.sv.reset = none → s.part.sv.digestTimer.state = .running →
      s.part.sv.digestTimer.limit ≤ s.part.sv.digestTimer.elapsed →
      (d = s.part.sv.header.digest → exec .digestCheck s = .next (tell s { s.part with sv := { s.part.sv with
        digestTimer := { state := .running, elapsed := 0, limit := s.part.sv.settings.digestMinutes * 60000 } } })) ∧
      (d ≠ s.part.sv.header.digest → exec .digestCheck s = .next (after s ([0, 1, 2, 3].foldl
        (fun p c => p.beginStop c .fence) (({ s.part with sv := { s.part.sv with
          device := .fenced, digestTimer := .stopped } } : Part).raise evFence))))) ∧
    (s.part.sv.device ≠ .online ∨ s.part.sv.reset ≠ none ∨ s.part.sv.digestTimer.state ≠ .running ∨
        s.part.sv.digestTimer.elapsed < s.part.sv.digestTimer.limit →
      exec .digestCheck s = .next (tell s s.part)) ∧
    (s.part.sv.hourAcc < 3600000 → exec .hourAdvance s = .next (tell s s.part)) ∧
    (3600000 ≤ s.part.sv.hourAcc → (s.part.sv.device = .unformatted ∨ 4294967295 ≤ s.part.sv.header.hours) →
      exec .hourAdvance s = .next (tell s { s.part with sv := { s.part.sv with hourAcc := 0 } })) ∧
    (3600000 ≤ s.part.sv.hourAcc → s.part.sv.device ≠ .unformatted → s.part.sv.header.hours < 4294967295 →
      s.part.Still →
      exec .hourAdvance s = .next (commit s { s.part with sv := { s.part.sv with
        hourAcc := 0, header := { s.part.sv.header with hours := s.part.sv.header.hours + 1 } } }))

/-- When a Map Store update becomes durable, the steps placed after it are taken, in their order; a number that no update
in progress has changes nothing. The PLACE whose map update it is ends OK with its direct and staged blocks, the DISCARD
ends OK with the blocks removed: record, tag and reserve are released and the last message is queued in the place kept
for it. A remap whose update it is is settled: it leaves the list and gives up its reserve of 2, the counts of its
destination and of its source fall by it with their checks, the piece of its channel's copy becomes APPLIED, and the
blocks applied are tallied in the slot of its source's class.
The model's choices it rests on: log 4, log 6, log 16, log 26. -/
def Obligations.DurableUpdatesTakeTheStepsPlacedAfterThem : Prop :=
  ∀ (s : State), Hears s → s.part.Rested →
    (∀ n, (∀ u ∈ s.part.store.updates, u.id = n → u.done = true) → exec (.storeUpdateDurable n) s = .next (tell s s.part)) ∧
    (∀ n u, s.part.updateOf n = some u → exec (.storeUpdateDurable n) s =
      .next (after s (u.follows.foldl Part.followUp (s.part.markDone n))) ∧
      (∀ m, u.follows = [.reply m] → exec (.storeUpdateDurable n) s = .next (after s ((s.part.markDone n).sayHeld m)))) ∧
    (∀ tag u bands tail t, s.part.Still →
      s.part.store.updates.find? (fun x => decide (.place tag ∈ x.follows) && !x.done) = some u →
      s.part.updateOf u.id = some u → u.follows = [.checks bands tail, .place tag] →
      s.part.txn tag = some t → t.tag = tag → t.req.kind = .place → t.ended = true →
      ∃ v, exec (.placeUpdateDurable tag) s = .next v ∧
        v.part.tx.txns = s.part.tx.txns.filter (fun x => decide (x.tag ≠ tag)) ∧
        v.part.tu.reserveTotal = s.part.tu.reserveTotal - t.reserve ∧ v.part.tu.extents = s.part.tu.extents ∧
        v.part.li.reserved = s.part.li.reserved - 1 ∧
        last .place t.hold tag .ok [item 2 t.directBlocks, item 2 t.stagedBlocks] ∈ v.part.li.queue) ∧
    (∀ tag u bands tail t, s.part.Still →
      s.part.store.updates.find? (fun x => decide (.discard tag ∈ x.follows) && !x.done) = some u →
      s.part.updateOf u.id = some u → u.follows = [.checks bands tail, .discard tag] →
      s.part.txn tag = some t → t.tag = tag → t.req.kind = .discard → t.ended = true →
      ∃ v, exec (.discardUpdateDurable tag) s = .next v ∧
        v.part.tx.txns = s.part.tx.txns.filter (fun x => decide (x.tag ≠ tag)) ∧
        v.part.tu.reserveTotal = s.part.tu.reserveTotal - t.reserve ∧ v.part.tu.extents = s.part.tu.extents ∧
        v.part.li.reserved = s.part.li.reserved - 1 ∧ last .discard t.hold tag .ok [item 5 t.removed] ∈ v.part.li.queue) ∧
    (∀ f c u, (∃ tag, f = .place tag ∧ c = .placeUpdateDurable tag) ∨
        (∃ tag, f = .discard tag ∧ c = .discardUpdateDurable tag) ∨
        (∃ b off, f = .remap b off ∧ c = .remapUpdateDurable b off) →
      ((∀ x ∈ s.part.store.updates, f ∈ x.follows → x.done = true) → exec c s = .next (tell s s.part)) ∧
      (s.part.store.updates.find? (fun x => decide (f ∈ x.follows) && !x.done) = some u →
        s.part.updateOf u.id = some u →
        exec c s = .next (after s (u.follows.foldl Part.followUp (s.part.markDone u.id))))) ∧
    (∀ (p : Part) (b off : Nat) (r : Remap),
      p.tu.remaps.find? (fun r => decide (r.dstBand = b ∧ r.dstOff = off) && r.applying) = some r →
      let q := p.followUp (.remap b off)
      let fall (x : Nat) (y : Band) : Band :=
        let dst := if x = b then checked { y with pendingRemaps := y.pendingRemaps - 1, inFlight := y.inFlight - 1 } else y
        match r.src with
        | .band c _ => if x = c then checked { dst with pendingRemaps := dst.pendingRemaps - 1 } else dst
        | .log _ => dst
      q.tu = { p.tu with
        remaps := p.tu.remaps.filter fun x => !decide (x.dstBand = b ∧ x.dstOff = off)
        reserveTotal := p.tu.reserveTotal - 2 } ∧
      (∀ x, x < p.bm.bands.length → q.band x = fall x (p.band x)) ∧
      (∀ pos, r.src = .log pos → (∀ y ∈ p.sl.runs, Meets pos r.len y → y.hold ≠ 1) → q.sl.runs = p.sl.runs.map fun y =>
        if Meets pos r.len y then { y with hold := y.hold - 1 } else y) ∧
      (r.chan < p.re.chans.length → q.chan r.chan = { p.chan r.chan with copy := (p.chan r.chan).copy.map fun y =>
        { y with pieces := y.pieces.map fun x =>
          if x.band = b ∧ x.dst = off ∧ x.state = .posted then { x with state := .applied } else x } }) ∧
      q.sv.tallies = p.sv.tallies.modify (p.classRec r.cls).slot fun y => (match r.src with
        | .log _ => { y with destaged := min (2 ^ 48 - 1) (y.destaged + r.applied) }
        | .band _ _ => { y with reclaimed := min (2 ^ 48 - 1) (y.reclaimed + r.applied) }))

/-- An issue is possible while the media is READY, fewer than 8 orders are in the window and no RESET request waits. The
arbiter then chooses among the eligible heads by the favoured lane, the run count and the burst setting; the order it
chooses becomes ISSUED with its timer started, its ORDER message is sent, and an issue from the FOREGROUND lane starts
the media idle timer afresh.
The model's choice it rests on: log 16. -/
def Obligations.IssueFollowsTheArbiter : Prop :=
  ∀ (s : State), Hears s →
    let p := s.part
    let window := p.mp.orders.countP fun o => decide (o.state = .issued ∨ o.state = .cancelling)
    let fav := if p.mp.favoured = .foreground then p.foreHead else p.backHead
    let other := if p.mp.favoured = .foreground then p.backHead else p.foreHead
    (p.mp.ready = false ∨ 8 ≤ window ∨ p.sv.reset ≠ none ∨ (fav = none ∧ other = none) →
      exec .orderIssue s = .next (tell s s.part)) ∧
    (p.mp.ready = true → window < 8 → p.sv.reset = none → ∀ o run,
      ((fav = some o ∧ other = none ∧ run = 0) ∨ (fav = none ∧ other = some o ∧ run = 0) ∨
        (fav = some o ∧ other ≠ none ∧ p.mp.runCount < p.sv.settings.burst ∧ run = p.mp.runCount + 1) ∨
        (fav ≠ none ∧ other = some o ∧ p.sv.settings.burst ≤ p.mp.runCount ∧ run = 0)) →
      exec .orderIssue s = .next (tell s { p with mp := { p.mp with
        orders := p.mp.orders.map fun x => if x.id = o.id then { x with
          state := .issued
          timer := { state := .running, elapsed := 0, limit := p.sv.settings.orderTimeout } } else x
        tx := p.mp.tx ++ [.order o.id o.op o.track o.sector o.dir o.count o.handle o.bufOff]
        runCount := run
        lastChan := match o.owner with
          | .txn _ => p.mp.lastChan
          | .chan c => c
        idle := match o.owner with
          | .txn _ => { state := .running, elapsed := 0, limit := p.sv.settings.idleDelay }
          | .chan _ => p.mp.idle } })) ∧
    (∀ o, (p.foreHead = some o ∨ p.backHead = some o) → o ∈ p.mp.orders ∧ o.state = .queued ∧
      (o.op = .write → (∀ x ∈ p.store.updates, x.id = o.update → x.done = true) ∧ ∀ b k, o.place = .band b k →
        ∀ x ∈ p.mp.orders, x.state = .queued → x.op = .write → ∀ j, x.place = .band b j → k ≤ j))

/-- An owner told of a freed place asks again for the joins it has still to make, in their order: a PLACE for its WRITE and
VERIFY orders, a channel for those of its copy. Each joins where the Order Queue has a place and no other owner waits with
a lower offset of the band (log 14); what is refused stays with the owner, which waits again. A channel's pieces whose
last order has joined are closed, and its remaps and its copy go on. The id of a join is the lowest that is free. An owner
that has not been told, or any owner while a RESET request is in progress, does nothing. A waiting retry of a FETCH joins
from a fresh lookup if each of its orders finds a place, and else goes on waiting.
The model's choices it rests on: log 4, log 6, log 16, log 27. -/
def Obligations.FreedPlacesAreTakenByThoseWhoWait : Prop :=
  (∀ (s : State), Hears s → s.part.Rested →
    (∀ w, (w ∉ s.part.mp.told ∨ s.part.sv.reset ≠ none) → exec (.orderRejoin w) s = .next (tell s s.part)) ∧
    (∀ tag t, s.part.sv.reset = none → .txn tag ∈ s.part.mp.told → s.part.txn tag = some t →
      (∀ o ∈ t.toJoin, o.op ≠ .read ∧ o.owner = .txn tag) →
      let told := s.part.mp.told.filter fun w => decide (w ≠ .txn tag)
      exec (.orderRejoin (.txn tag)) s = .next (tell s { s.part with
        mp := joinedPort { s.part.mp with told := told } (.txn tag) t.toJoin
        tx := { s.part.tx with txns := s.part.tx.txns.map fun x => if x.tag = tag then
          { x with toJoin := (joins s.part.mp.writeWait s.part.mp.orders t.toJoin).2 } else x } })) ∧
    (∀ c, s.part.sv.reset = none → .chan c ∈ s.part.mp.told →
      let m : MediaPort := { s.part.mp with told := s.part.mp.told.filter fun w => decide (w ≠ .chan c) }
      let l := (s.part.chan c).toJoin
      let q := ({ s.part with mp := m } : Part).joinOrders (.chan c) []
      exec (.orderRejoin (.chan c)) s = .next (after s (((q.closePieces c).settleTests).note (.copy c))) ∧
      q.mp = joinedPort m (.chan c) l ∧
      (c < s.part.re.chans.length →
        q.chan c = { s.part.chan c with toJoin := (joins m.writeWait m.orders l).2 })) ∧
    (∀ tag lba t a n h r, s.part.Still → s.part.sv.reset = none → s.part.txn tag = some t → t.tag = tag →
      t.req = .fetch a n h → t.toJoin = [] → t.retries.find? (fun x => decide (x.lba = lba)) = some r →
      let runs := s.part.runsOf (lookup s.part.tu.extents r.lba r.len)
      (64 < s.part.mp.orders.length + runs.length → exec (.fetchRetryJoin tag lba) s = .next (tell s s.part)) ∧
      (s.part.mp.orders.length + runs.length ≤ 64 → ∃ (u : State) (new : List Order), exec (.fetchRetryJoin tag lba) s = .next u ∧
        u.part.mp.orders = s.part.mp.orders ++ new ∧ new.length = runs.length ∧
        u.part.txn tag = some { t with retries := t.retries.filter fun x => decide (x ≠ r) } ∧
        ∀ x ∈ new, x.op = .read ∧ x.state = .queued ∧ x.owner = .txn tag ∧ x.handle = h ∧ x.retry = true ∧
          x.bufOff = x.lba - a))) ∧
  (∀ (waits : List WriteWait) (o : Order), behind waits o = true ↔
    o.op = .write ∧ ∃ b off, o.place = .band b off ∧ ∃ e ∈ waits, e.owner ≠ o.owner ∧ e.band = b ∧ e.off < off) ∧
  (∀ (w : Owner) (l : List Order) (b off : Nat),
    (∀ e ∈ waitEntries w l, e.owner = w) ∧
    ((∃ e ∈ waitEntries w l, e.band = b ∧ e.off < off) ↔ ∃ o ∈ l, o.op = .write ∧ ∃ k, o.place = .band b k ∧ k < off)) ∧
  (∀ l : List Order, l.length < 64 →
    freeId l < 64 ∧ (∀ o ∈ l, o.id ≠ freeId l) ∧ ∀ n, n < freeId l → ∃ o ∈ l, o.id = n) ∧
  ∀ p : Part, p.placeFreed = { p with mp := { p.mp with
    told := p.mp.waiting.foldl (fun l w => if w ∈ l then l else l ++ [w]) p.mp.told, waiting := [] } }

/-- A waiting piece of a copy is posted again: it goes on waiting while 64 remaps are pending, or while the map has no
reserve of 2 and a transaction is live or a remap pending; it is abandoned where nothing could release a reserve; else
it is posted. A stop without a copy completes, and one with a copy goes on to the copy's end: a channel that is stopped
is DISABLED and owns no band, no victim, no resume point and no copy, unless it is to run again. A copy starts with one
READ for each run of its source, its verify attribute resolved from the region of its first LBA (log 44); a run that fails
is read once more, and a second failure skips the copy. When all is read it is placed piece by piece, until it is placed
whole or a band is wanting; when every piece has settled it ends, its amount and resume point go on, and the service goes
on or ends. A posted remap is discarded when it has failed, and applied when it is closed with every order reported.
The model's choices it rests on: log 4, log 5, log 6, log 16, log 46. -/
def Obligations.WaitingPiecesAndStopsGoOn : Prop :=
  (∀ (s : State) (c : Nat), Hears s → s.part.Rested → s.part.sv.reset = none → c < 4 → s.part.re.chans.length = 4 →
    (∀ y i, (s.part.chan c).copy = some y → y.waitingPiece = some i →
      let full := 262144 < s.part.tu.extents.length + s.part.tu.reserveTotal + 2
      (64 ≤ s.part.tu.remaps.length ∨ (full ∧ (s.part.tx.txns ≠ [] ∨ s.part.tu.remaps ≠ [])) →
        exec (.remapPostRetry c) s = .next (tell s s.part)) ∧
      (full → s.part.tx.txns = [] → s.part.tu.remaps = [] →
        exec (.remapPostRetry c) s = .next (after s (s.part.abandonPiece c i))) ∧
      (¬full → s.part.tu.remaps.length < 64 → ∀ q, y.pieces[i]? = some q →
        let posted := (s.part.postRemap c y q).modPiece c i fun x => { x with state := .posted }
        let queued := (posted.joinOrders (.chan c) (posted.pieceOrders .write c i y q)).closePieces c
        let goesOn := if y.placed < y.len then queued.note (.piece c) else queued
        exec (.remapPostRetry c) s = .next (after s (goesOn.note (.copy c))) ∧
        (s.part.postRemap c y q).tu.remaps = s.part.tu.remaps ++ [{
          chan := c, lba := y.lba + q.off, len := q.len, src := y.src.shift q.off, dstBand := q.band, dstOff := q.dst
          failed := false, closed := false, orders := 0, joined := false, applying := false, applied := 0
          cls := y.cls }] ∧
        (s.part.postRemap c y q).tu.reserveTotal = s.part.tu.reserveTotal + 2)) ∧
    ((s.part.chan c).copy.bind Copy.waitingPiece = none → exec (.remapPostRetry c) s = .next (tell s s.part)) ∧
    ((s.part.chan c).stop = none → exec (.channelStopComplete c) s = .next (tell s s.part)) ∧
    ((s.part.chan c).stop ≠ none → (s.part.chan c).copy = none →
      exec (.channelStopComplete c) s = .next (after s (s.part.completeStop c)) ∧
      (s.part.sv.device ≠ .online → (s.part.completeStop c).chan c = { s.part.chan c with
        state := .disabled, stop := none, owned := none, victim := none, resume := .none, amount := 0, copy := none
        work := none, toJoin := [] })) ∧
    ((s.part.chan c).stop ≠ none → (s.part.chan c).copy ≠ none →
      exec (.channelStopComplete c) s = .next (after s (s.part.copyCheck c)))) ∧
  (∀ (p : Part) (c : Nat),
    let k := p.chan c
    let busy : Prop := k.toJoin ≠ [] ∨ ∃ o ∈ p.mp.orders, o.owner = .chan c
    (∀ lba len src cls,
      let verify := decide ((p.tu.regions.find? fun r => decide (r.start ≤ lba ∧ lba < r.start + r.len)).map
        Region.verify = some 1)
      p.startCopy c lba len src cls = ((p.modChan c fun k => { k with copy := some {
        phase := .reading, lba := lba, len := len, src := src, cls := cls, verify := verify, readFailed := false
        placed := 0, pieces := [], noBand := false, cutShort := false } }).joinOrders (.chan c)
          ((cut p.bm src len).map fun r =>
            { id := 0, op := .read, track := r.track, sector := r.sector, dir := r.dir, count := r.count
              place := r.place, handle := (p.setup c).handle, bufOff := r.pieceOff, owner := .chan c, cls := cls
              state := .queued, timer := .stopped, lba := lba + r.pieceOff, piece := 0, attempt := 0, retry := false
              update := p.store.next })).note (.copy c)) ∧
    (k.copy = none → p.copyCheck c = p) ∧
    (∀ y, k.copy = some y →
      (busy → p.copyCheck c = p) ∧
      (¬busy → y.phase = .reading → y.readFailed = true → p.copyCheck c = p.endCopy c y) ∧
      (¬busy → y.phase = .reading → y.readFailed = false → p.copyCheck c =
        (p.modChan c fun k => { k with copy := some { y with phase := .writing } }).note (.piece c)) ∧
      (let settled := ∀ x ∈ y.pieces, x.state = .applied ∨ x.state = .discarded ∨ x.state = .abandoned
       let atEnd := y.placed = y.len ∨ y.noBand = true ∨ y.cutShort = true
       ¬busy → y.phase = .writing → (settled → atEnd → p.copyCheck c = p.endCopy c y) ∧
         (¬(settled ∧ atEnd) → p.copyCheck c = p)) ∧
      (let done := if y.readFailed then y.len else
         ((y.pieces.takeWhile fun x => decide (x.state = .applied)).map CopyPiece.len).sum
       let resume := match k.work, k.victim with
         | some w, _ => Resume.destage w.pos (y.lba + done - w.start)
         | none, some b => .reclaim b (y.lba + done)
         | none, none => k.resume
       let q := p.modChan c fun k => { k with amount := k.amount + y.len, resume := resume, copy := none }
       let amount := (q.chan c).amount
       (k.stop ≠ none → p.endCopy c y = q.completeStop c) ∧
       (k.stop = none → y.noBand = true → p.endCopy c y = q.endService c true) ∧
       (k.stop = none → y.noBand = false → (y.readFailed = false ∧ done ≠ y.len) → p.endCopy c y = q.endService c false) ∧
       (k.stop = none → y.noBand = false → (y.readFailed = true ∨ done = y.len) →
         p.endCopy c y = if k.mode = .single ∨ (k.mode = .successive ∧ k.count ≤ amount) then q.endService c false
           else q.note (.move c))) ∧
      (let cls := if (p.setup c).destClass = 0 then y.cls else (p.setup c).destClass
       let b := p.bandRequest (.chan c) cls
       let short (q : Part) := (q.modChan c fun k =>
         { k with copy := k.copy.map fun y => { y with noBand := true } }).note (.copy c)
       (b.1 = none → p.nextPiece c = short b.2) ∧
       (∀ x, b.1 = some x →
         let r := b.2.reserve (.chan c) x (y.len - y.placed)
         (r.2.1 = 0 → p.nextPiece c = short r.2.2) ∧
         (r.2.1 ≠ 0 → p.nextPiece c = (r.2.2.modChan c fun k => { k with copy := k.copy.map fun v =>
           { v with placed := v.placed + r.2.1, pieces := v.pieces ++ [{
             off := y.placed, len := r.2.1, band := x, dst := r.1, update := b.2.store.next, state := .waiting
             verifying := false }] } }).postPiece c y.pieces.length))) ∧
      (∀ o : Order,
        (y.readFailed = true → p.rereadRun c o = p) ∧
        (y.readFailed = false → o.retry = false →
          p.rereadRun c o = p.joinList (.chan c) ({ o with retry := true } :: k.toJoin)) ∧
        (y.readFailed = false → o.retry = true → p.rereadRun c o = (p.setToJoin (.chan c) []).modChan c fun k =>
          { k with copy := some { y with readFailed := true } })))) ∧
  (∀ (p : Part) (r : Remap),
    (r.applying = true → p.settleTest r = p) ∧
    (r.applying = false → r.orders ≠ 0 → p.settleTest r = p) ∧
    (r.applying = false → r.orders = 0 → r.failed = true → p.settleTest r = p.settleRemap r none) ∧
    (r.applying = false → r.orders = 0 → r.failed = false → r.closed = false → p.settleTest r = p) ∧
    (r.applying = false → r.orders = 0 → r.failed = false → r.closed = true → r.joined = false →
      p.settleTest r = p.settleRemap r none) ∧
    (r.applying = false → r.orders = 0 → r.failed = false → r.closed = true → r.joined = true →
      p.settleTest r = p.applyRemap r))

/-- The map update of a PLACE is taken once every piece has succeeded and it has no order left: one item for each piece
at its position, and the PLACE is ENDED; while it is not due, nothing happens. A transaction whose outcome is fixed ends
with it when no order and no retry is left, and a FETCH without one ends OK with what it read: record, tag and reserve
are released and the last message is queued in the place kept for it.
The model's choices it rests on: log 5, log 16. -/
def Obligations.TransactionsReachTheirEnds : Prop :=
  ∀ (s : State) (tag : Nat) (t : Txn), Hears s → s.part.Rested → s.part.Still → s.part.sv.reset = none →
    s.part.txn tag = some t → t.tag = tag →
    let idle := t.toJoin = [] ∧ ∀ o ∈ s.part.mp.orders, o.owner ≠ .txn tag
    let due := t.req.kind = .place ∧ t.ended = false ∧ t.outcome = none ∧ (∀ c ∈ t.pieces, c.succeeded = true) ∧ idle
    let ends (v : State) (m : Message) := v.part.tx.txns = s.part.tx.txns.filter (fun x => decide (x.tag ≠ tag)) ∧
      v.part.tu.reserveTotal = s.part.tu.reserveTotal - t.reserve ∧ v.part.tu.extents = s.part.tu.extents ∧
      v.part.li.reserved = s.part.li.reserved - 1 ∧ m ∈ v.part.li.queue
    (due → ∃ v, exec (.placeMapUpdate tag) s = .next v ∧
      (let items := t.pieces.map fun c => ({ start := c.lba, len := c.len, place := some c.pos.place } : MapItem)
       v.part.tu.extents = applyInsertions (applyRemovals s.part.tu.extents items).1 items) ∧
      v.part.tu.reserveTotal = s.part.tu.reserveTotal ∧ v.part.txn tag = some { t with ended := true } ∧
      ∃ x ∈ v.part.store.updates, .place tag ∈ x.follows ∧ x.done = false) ∧
    (¬due → exec (.placeMapUpdate tag) s = .next (tell s s.part)) ∧
    (∀ r, t.outcome = some r → idle → t.retries = [] → (t.req.kind = .place ∨ t.req.kind = .fetch) →
      ∃ v, exec (.transactionCancellingEnd tag) s = .next v ∧ ends v (last t.req.kind t.hold tag r
        (match t.failLba with
          | some x => [item 5 x]
          | none => []))) ∧
    (t.req.kind = .fetch → idle → t.retries = [] → ∃ v, exec (.fetchEnd tag) s = .next v ∧
      (t.outcome = none → ends v (last .fetch t.hold tag .ok ([item 5 t.coveredEnd, item 2 t.blocksRead, item 1 t.holes.length] ++
        (t.holes.map fun h => [item 5 h.start, item 2 h.len]).flatten))) ∧
      (∀ r, t.outcome = some r → ends v (last .fetch t.hold tag r (match t.failLba with
        | some x => [item 5 x]
        | none => []))))


/-! ### Scoring -/

/-- The rounded division in its four modes; with no remainder all give the quotient; the result does not fall as the exact
quotient rises, ROD ends odd on a quotient that is not whole, and so a score does not rise with the valid blocks and does
not fall with the age or the weight. -/
def Obligations.RoundedDivision : Prop :=
  ∀ (N D : Nat), 1 ≤ D → let q0 := N / D; let r := N - q0 * D
    roundDiv .rnu N D = (if 2 * r ≥ D then q0 + 1 else q0) ∧
    roundDiv .rne N D = (if 2 * r > D ∨ (2 * r = D ∧ q0 % 2 = 1) then q0 + 1 else q0) ∧
    roundDiv .rdn N D = q0 ∧
    roundDiv .rod N D = (if r ≠ 0 ∧ q0 % 2 = 0 then q0 + 1 else q0) ∧
    (r ≠ 0 → roundDiv .rod N D % 2 = 1) ∧
    (∀ m, (r = 0 → roundDiv m N D = q0) ∧
      (∀ N' D', 1 ≤ D' → N * D' ≤ N' * D → roundDiv m N D ≤ roundDiv m N' D') ∧
      (∀ u u' a W, u ≤ u' → u' ≤ 65536 →
        roundDiv m ((65536 - u') * a * W) (65536 + u') ≤ roundDiv m ((65536 - u) * a * W) (65536 + u)) ∧
      ∀ v w a W, 1 ≤ w → (∀ v', v ≤ v' → (scoreOf m v' w a W).score ≤ (scoreOf m v w a W).score) ∧
        (∀ a', a ≤ a' → (scoreOf m v w a W).score ≤ (scoreOf m v w a' W).score) ∧
        ∀ W', W ≤ W' → (scoreOf m v w a W).score ≤ (scoreOf m v w a W').score)

/-- A score is formed in the stages of R128 and R129, and a selection gives the candidate with the highest score, of equal
ones that with the fewest valid blocks, and of those that with the lowest number; it gives none where there is no candidate. It
changes nothing but the saturation flag, which a saturated candidate sets, with SCORE_SAT raised where the flag was
clear. -/
def Obligations.SelectionTakesTheBestVictim : Prop :=
  (∀ m v w a W, let u := min 65536 (roundDiv m (v * 65536) w)
    let raw := roundDiv m ((65536 - u) * a * W) (65536 + u)
    (scoreOf m v w a W).score = min 65535 raw ∧ ((scoreOf m v w a W).saturated = true ↔ 65535 < raw)) ∧
  ∀ (p : Part) (classes : ClassBits),
    let cand (b : Nat) : Prop := b < p.bm.bands.length ∧ ((p.band b).state = .closed ∨ (p.band b).state = .suspect) ∧
      1 ≤ (p.band b).valid ∧ classes.getLsbD (p.band b).cls = true
    let score (b : Nat) := (p.score b).score
    ((p.selectVictim classes).1 = none ↔ ∀ b, ¬cand b) ∧
    (∀ b, (p.selectVictim classes).1 = some b ↔ (cand b ∧ ∀ c, cand c → c ≠ b → score c < score b ∨ (score c = score b ∧
      ((p.band b).valid < (p.band c).valid ∨ ((p.band b).valid = (p.band c).valid ∧ b < c))))) ∧
    ((p.sc.saturated = true ∨ ∀ b, cand b → (p.score b).saturated = false) → (p.selectVictim classes).2 = p) ∧
    (p.sc.saturated = false → (∃ b, cand b ∧ (p.score b).saturated = true) →
      (p.selectVictim classes).2 = ({ p with sc := { p.sc with saturated := true } } : Part).raise evScoreSat)

/-! ### Invariants -/

/-- Every step that goes on keeps the Order Queue within its bounds (R136, R138), ALERT at the level of the Event Set
(R186), a message in the transmit queue while one is being sent (R166), and nothing left over from the event before (log 4, log 6). -/
def Obligations.EveryStepKeepsTheInvariants : Prop :=
  ∀ s t : State, step s = .next t → OrderQueueOk s.part.mp.orders ∧ s.part.AlertOk ∧ s.part.SendingOk ∧ s.part.Rested →
    OrderQueueOk t.part.mp.orders ∧ t.part.AlertOk ∧ t.part.SendingOk ∧ t.part.Rested

/-- The state after reset meets the properties that every step keeps.
The model's choices it rests on: log 11, log 12. -/
def Obligations.ResetMeetsTheInvariants : Prop :=
  OrderQueueOk State.reset.part.mp.orders ∧ State.reset.part.AlertOk ∧ State.reset.part.SendingOk ∧
    State.reset.part.Rested ∧ State.reset.pending = []
end
end

