-- ==== Sys2Proof/Laws/State.lean ====
section
/-! SUPPORT. What each update of a block leaves in each field of the part: one lemma for each field and update, true
by definition. -/

namespace Sys2Proof.Machine

/-! ### modBm -/

@[simp] theorem Part.modBm_bm (p : Part) (f : BandManager → BandManager) : (p.modBm f).bm = f p.bm := rfl
@[simp] theorem Part.modBm_tu (p : Part) (f : BandManager → BandManager) : (p.modBm f).tu = p.tu := rfl
@[simp] theorem Part.modBm_sl (p : Part) (f : BandManager → BandManager) : (p.modBm f).sl = p.sl := rfl
@[simp] theorem Part.modBm_su (p : Part) (f : BandManager → BandManager) : (p.modBm f).su = p.su := rfl
@[simp] theorem Part.modBm_re (p : Part) (f : BandManager → BandManager) : (p.modBm f).re = p.re := rfl
@[simp] theorem Part.modBm_sc (p : Part) (f : BandManager → BandManager) : (p.modBm f).sc = p.sc := rfl
@[simp] theorem Part.modBm_mp (p : Part) (f : BandManager → BandManager) : (p.modBm f).mp = p.mp := rfl
@[simp] theorem Part.modBm_tx (p : Part) (f : BandManager → BandManager) : (p.modBm f).tx = p.tx := rfl
@[simp] theorem Part.modBm_li (p : Part) (f : BandManager → BandManager) : (p.modBm f).li = p.li := rfl
@[simp] theorem Part.modBm_sv (p : Part) (f : BandManager → BandManager) : (p.modBm f).sv = p.sv := rfl
@[simp] theorem Part.modBm_store (p : Part) (f : BandManager → BandManager) : (p.modBm f).store = p.store := rfl
@[simp] theorem Part.modBm_notes (p : Part) (f : BandManager → BandManager) : (p.modBm f).notes = p.notes := rfl
@[simp] theorem Part.modBm_fresh (p : Part) (f : BandManager → BandManager) : (p.modBm f).fresh = p.fresh := rfl

/-! ### modTu -/

@[simp] theorem Part.modTu_bm (p : Part) (f : TransUnit → TransUnit) : (p.modTu f).bm = p.bm := rfl
@[simp] theorem Part.modTu_tu (p : Part) (f : TransUnit → TransUnit) : (p.modTu f).tu = f p.tu := rfl
@[simp] theorem Part.modTu_sl (p : Part) (f : TransUnit → TransUnit) : (p.modTu f).sl = p.sl := rfl
@[simp] theorem Part.modTu_su (p : Part) (f : TransUnit → TransUnit) : (p.modTu f).su = p.su := rfl
@[simp] theorem Part.modTu_re (p : Part) (f : TransUnit → TransUnit) : (p.modTu f).re = p.re := rfl
@[simp] theorem Part.modTu_sc (p : Part) (f : TransUnit → TransUnit) : (p.modTu f).sc = p.sc := rfl
@[simp] theorem Part.modTu_mp (p : Part) (f : TransUnit → TransUnit) : (p.modTu f).mp = p.mp := rfl
@[simp] theorem Part.modTu_tx (p : Part) (f : TransUnit → TransUnit) : (p.modTu f).tx = p.tx := rfl
@[simp] theorem Part.modTu_li (p : Part) (f : TransUnit → TransUnit) : (p.modTu f).li = p.li := rfl
@[simp] theorem Part.modTu_sv (p : Part) (f : TransUnit → TransUnit) : (p.modTu f).sv = p.sv := rfl
@[simp] theorem Part.modTu_store (p : Part) (f : TransUnit → TransUnit) : (p.modTu f).store = p.store := rfl
@[simp] theorem Part.modTu_notes (p : Part) (f : TransUnit → TransUnit) : (p.modTu f).notes = p.notes := rfl
@[simp] theorem Part.modTu_fresh (p : Part) (f : TransUnit → TransUnit) : (p.modTu f).fresh = p.fresh := rfl

/-! ### modSl -/

@[simp] theorem Part.modSl_bm (p : Part) (f : LogUnit → LogUnit) : (p.modSl f).bm = p.bm := rfl
@[simp] theorem Part.modSl_tu (p : Part) (f : LogUnit → LogUnit) : (p.modSl f).tu = p.tu := rfl
@[simp] theorem Part.modSl_sl (p : Part) (f : LogUnit → LogUnit) : (p.modSl f).sl = f p.sl := rfl
@[simp] theorem Part.modSl_su (p : Part) (f : LogUnit → LogUnit) : (p.modSl f).su = p.su := rfl
@[simp] theorem Part.modSl_re (p : Part) (f : LogUnit → LogUnit) : (p.modSl f).re = p.re := rfl
@[simp] theorem Part.modSl_sc (p : Part) (f : LogUnit → LogUnit) : (p.modSl f).sc = p.sc := rfl
@[simp] theorem Part.modSl_mp (p : Part) (f : LogUnit → LogUnit) : (p.modSl f).mp = p.mp := rfl
@[simp] theorem Part.modSl_tx (p : Part) (f : LogUnit → LogUnit) : (p.modSl f).tx = p.tx := rfl
@[simp] theorem Part.modSl_li (p : Part) (f : LogUnit → LogUnit) : (p.modSl f).li = p.li := rfl
@[simp] theorem Part.modSl_sv (p : Part) (f : LogUnit → LogUnit) : (p.modSl f).sv = p.sv := rfl
@[simp] theorem Part.modSl_store (p : Part) (f : LogUnit → LogUnit) : (p.modSl f).store = p.store := rfl
@[simp] theorem Part.modSl_notes (p : Part) (f : LogUnit → LogUnit) : (p.modSl f).notes = p.notes := rfl
@[simp] theorem Part.modSl_fresh (p : Part) (f : LogUnit → LogUnit) : (p.modSl f).fresh = p.fresh := rfl

/-! ### modSu -/

@[simp] theorem Part.modSu_bm (p : Part) (f : List Stream → List Stream) : (p.modSu f).bm = p.bm := rfl
@[simp] theorem Part.modSu_tu (p : Part) (f : List Stream → List Stream) : (p.modSu f).tu = p.tu := rfl
@[simp] theorem Part.modSu_sl (p : Part) (f : List Stream → List Stream) : (p.modSu f).sl = p.sl := rfl
@[simp] theorem Part.modSu_su (p : Part) (f : List Stream → List Stream) : (p.modSu f).su = f p.su := rfl
@[simp] theorem Part.modSu_re (p : Part) (f : List Stream → List Stream) : (p.modSu f).re = p.re := rfl
@[simp] theorem Part.modSu_sc (p : Part) (f : List Stream → List Stream) : (p.modSu f).sc = p.sc := rfl
@[simp] theorem Part.modSu_mp (p : Part) (f : List Stream → List Stream) : (p.modSu f).mp = p.mp := rfl
@[simp] theorem Part.modSu_tx (p : Part) (f : List Stream → List Stream) : (p.modSu f).tx = p.tx := rfl
@[simp] theorem Part.modSu_li (p : Part) (f : List Stream → List Stream) : (p.modSu f).li = p.li := rfl
@[simp] theorem Part.modSu_sv (p : Part) (f : List Stream → List Stream) : (p.modSu f).sv = p.sv := rfl
@[simp] theorem Part.modSu_store (p : Part) (f : List Stream → List Stream) : (p.modSu f).store = p.store := rfl
@[simp] theorem Part.modSu_notes (p : Part) (f : List Stream → List Stream) : (p.modSu f).notes = p.notes := rfl
@[simp] theorem Part.modSu_fresh (p : Part) (f : List Stream → List Stream) : (p.modSu f).fresh = p.fresh := rfl

/-! ### modRe -/

@[simp] theorem Part.modRe_bm (p : Part) (f : RelocEngine → RelocEngine) : (p.modRe f).bm = p.bm := rfl
@[simp] theorem Part.modRe_tu (p : Part) (f : RelocEngine → RelocEngine) : (p.modRe f).tu = p.tu := rfl
@[simp] theorem Part.modRe_sl (p : Part) (f : RelocEngine → RelocEngine) : (p.modRe f).sl = p.sl := rfl
@[simp] theorem Part.modRe_su (p : Part) (f : RelocEngine → RelocEngine) : (p.modRe f).su = p.su := rfl
@[simp] theorem Part.modRe_re (p : Part) (f : RelocEngine → RelocEngine) : (p.modRe f).re = f p.re := rfl
@[simp] theorem Part.modRe_sc (p : Part) (f : RelocEngine → RelocEngine) : (p.modRe f).sc = p.sc := rfl
@[simp] theorem Part.modRe_mp (p : Part) (f : RelocEngine → RelocEngine) : (p.modRe f).mp = p.mp := rfl
@[simp] theorem Part.modRe_tx (p : Part) (f : RelocEngine → RelocEngine) : (p.modRe f).tx = p.tx := rfl
@[simp] theorem Part.modRe_li (p : Part) (f : RelocEngine → RelocEngine) : (p.modRe f).li = p.li := rfl
@[simp] theorem Part.modRe_sv (p : Part) (f : RelocEngine → RelocEngine) : (p.modRe f).sv = p.sv := rfl
@[simp] theorem Part.modRe_store (p : Part) (f : RelocEngine → RelocEngine) : (p.modRe f).store = p.store := rfl
@[simp] theorem Part.modRe_notes (p : Part) (f : RelocEngine → RelocEngine) : (p.modRe f).notes = p.notes := rfl
@[simp] theorem Part.modRe_fresh (p : Part) (f : RelocEngine → RelocEngine) : (p.modRe f).fresh = p.fresh := rfl

/-! ### modSc -/

@[simp] theorem Part.modSc_bm (p : Part) (f : ScoringUnit → ScoringUnit) : (p.modSc f).bm = p.bm := rfl
@[simp] theorem Part.modSc_tu (p : Part) (f : ScoringUnit → ScoringUnit) : (p.modSc f).tu = p.tu := rfl
@[simp] theorem Part.modSc_sl (p : Part) (f : ScoringUnit → ScoringUnit) : (p.modSc f).sl = p.sl := rfl
@[simp] theorem Part.modSc_su (p : Part) (f : ScoringUnit → ScoringUnit) : (p.modSc f).su = p.su := rfl
@[simp] theorem Part.modSc_re (p : Part) (f : ScoringUnit → ScoringUnit) : (p.modSc f).re = p.re := rfl
@[simp] theorem Part.modSc_sc (p : Part) (f : ScoringUnit → ScoringUnit) : (p.modSc f).sc = f p.sc := rfl
@[simp] theorem Part.modSc_mp (p : Part) (f : ScoringUnit → ScoringUnit) : (p.modSc f).mp = p.mp := rfl
@[simp] theorem Part.modSc_tx (p : Part) (f : ScoringUnit → ScoringUnit) : (p.modSc f).tx = p.tx := rfl
@[simp] theorem Part.modSc_li (p : Part) (f : ScoringUnit → ScoringUnit) : (p.modSc f).li = p.li := rfl
@[simp] theorem Part.modSc_sv (p : Part) (f : ScoringUnit → ScoringUnit) : (p.modSc f).sv = p.sv := rfl
@[simp] theorem Part.modSc_store (p : Part) (f : ScoringUnit → ScoringUnit) : (p.modSc f).store = p.store := rfl
@[simp] theorem Part.modSc_notes (p : Part) (f : ScoringUnit → ScoringUnit) : (p.modSc f).notes = p.notes := rfl
@[simp] theorem Part.modSc_fresh (p : Part) (f : ScoringUnit → ScoringUnit) : (p.modSc f).fresh = p.fresh := rfl

/-! ### modMp -/

@[simp] theorem Part.modMp_bm (p : Part) (f : MediaPort → MediaPort) : (p.modMp f).bm = p.bm := rfl
@[simp] theorem Part.modMp_tu (p : Part) (f : MediaPort → MediaPort) : (p.modMp f).tu = p.tu := rfl
@[simp] theorem Part.modMp_sl (p : Part) (f : MediaPort → MediaPort) : (p.modMp f).sl = p.sl := rfl
@[simp] theorem Part.modMp_su (p : Part) (f : MediaPort → MediaPort) : (p.modMp f).su = p.su := rfl
@[simp] theorem Part.modMp_re (p : Part) (f : MediaPort → MediaPort) : (p.modMp f).re = p.re := rfl
@[simp] theorem Part.modMp_sc (p : Part) (f : MediaPort → MediaPort) : (p.modMp f).sc = p.sc := rfl
@[simp] theorem Part.modMp_mp (p : Part) (f : MediaPort → MediaPort) : (p.modMp f).mp = f p.mp := rfl
@[simp] theorem Part.modMp_tx (p : Part) (f : MediaPort → MediaPort) : (p.modMp f).tx = p.tx := rfl
@[simp] theorem Part.modMp_li (p : Part) (f : MediaPort → MediaPort) : (p.modMp f).li = p.li := rfl
@[simp] theorem Part.modMp_sv (p : Part) (f : MediaPort → MediaPort) : (p.modMp f).sv = p.sv := rfl
@[simp] theorem Part.modMp_store (p : Part) (f : MediaPort → MediaPort) : (p.modMp f).store = p.store := rfl
@[simp] theorem Part.modMp_notes (p : Part) (f : MediaPort → MediaPort) : (p.modMp f).notes = p.notes := rfl
@[simp] theorem Part.modMp_fresh (p : Part) (f : MediaPort → MediaPort) : (p.modMp f).fresh = p.fresh := rfl

/-! ### modTx -/

@[simp] theorem Part.modTx_bm (p : Part) (f : TxnUnit → TxnUnit) : (p.modTx f).bm = p.bm := rfl
@[simp] theorem Part.modTx_tu (p : Part) (f : TxnUnit → TxnUnit) : (p.modTx f).tu = p.tu := rfl
@[simp] theorem Part.modTx_sl (p : Part) (f : TxnUnit → TxnUnit) : (p.modTx f).sl = p.sl := rfl
@[simp] theorem Part.modTx_su (p : Part) (f : TxnUnit → TxnUnit) : (p.modTx f).su = p.su := rfl
@[simp] theorem Part.modTx_re (p : Part) (f : TxnUnit → TxnUnit) : (p.modTx f).re = p.re := rfl
@[simp] theorem Part.modTx_sc (p : Part) (f : TxnUnit → TxnUnit) : (p.modTx f).sc = p.sc := rfl
@[simp] theorem Part.modTx_mp (p : Part) (f : TxnUnit → TxnUnit) : (p.modTx f).mp = p.mp := rfl
@[simp] theorem Part.modTx_tx (p : Part) (f : TxnUnit → TxnUnit) : (p.modTx f).tx = f p.tx := rfl
@[simp] theorem Part.modTx_li (p : Part) (f : TxnUnit → TxnUnit) : (p.modTx f).li = p.li := rfl
@[simp] theorem Part.modTx_sv (p : Part) (f : TxnUnit → TxnUnit) : (p.modTx f).sv = p.sv := rfl
@[simp] theorem Part.modTx_store (p : Part) (f : TxnUnit → TxnUnit) : (p.modTx f).store = p.store := rfl
@[simp] theorem Part.modTx_notes (p : Part) (f : TxnUnit → TxnUnit) : (p.modTx f).notes = p.notes := rfl
@[simp] theorem Part.modTx_fresh (p : Part) (f : TxnUnit → TxnUnit) : (p.modTx f).fresh = p.fresh := rfl

/-! ### modLi -/

@[simp] theorem Part.modLi_bm (p : Part) (f : LinkIface → LinkIface) : (p.modLi f).bm = p.bm := rfl
@[simp] theorem Part.modLi_tu (p : Part) (f : LinkIface → LinkIface) : (p.modLi f).tu = p.tu := rfl
@[simp] theorem Part.modLi_sl (p : Part) (f : LinkIface → LinkIface) : (p.modLi f).sl = p.sl := rfl
@[simp] theorem Part.modLi_su (p : Part) (f : LinkIface → LinkIface) : (p.modLi f).su = p.su := rfl
@[simp] theorem Part.modLi_re (p : Part) (f : LinkIface → LinkIface) : (p.modLi f).re = p.re := rfl
@[simp] theorem Part.modLi_sc (p : Part) (f : LinkIface → LinkIface) : (p.modLi f).sc = p.sc := rfl
@[simp] theorem Part.modLi_mp (p : Part) (f : LinkIface → LinkIface) : (p.modLi f).mp = p.mp := rfl
@[simp] theorem Part.modLi_tx (p : Part) (f : LinkIface → LinkIface) : (p.modLi f).tx = p.tx := rfl
@[simp] theorem Part.modLi_li (p : Part) (f : LinkIface → LinkIface) : (p.modLi f).li = f p.li := rfl
@[simp] theorem Part.modLi_sv (p : Part) (f : LinkIface → LinkIface) : (p.modLi f).sv = p.sv := rfl
@[simp] theorem Part.modLi_store (p : Part) (f : LinkIface → LinkIface) : (p.modLi f).store = p.store := rfl
@[simp] theorem Part.modLi_notes (p : Part) (f : LinkIface → LinkIface) : (p.modLi f).notes = p.notes := rfl
@[simp] theorem Part.modLi_fresh (p : Part) (f : LinkIface → LinkIface) : (p.modLi f).fresh = p.fresh := rfl

/-! ### modSv -/

@[simp] theorem Part.modSv_bm (p : Part) (f : Supervisor → Supervisor) : (p.modSv f).bm = p.bm := rfl
@[simp] theorem Part.modSv_tu (p : Part) (f : Supervisor → Supervisor) : (p.modSv f).tu = p.tu := rfl
@[simp] theorem Part.modSv_sl (p : Part) (f : Supervisor → Supervisor) : (p.modSv f).sl = p.sl := rfl
@[simp] theorem Part.modSv_su (p : Part) (f : Supervisor → Supervisor) : (p.modSv f).su = p.su := rfl
@[simp] theorem Part.modSv_re (p : Part) (f : Supervisor → Supervisor) : (p.modSv f).re = p.re := rfl
@[simp] theorem Part.modSv_sc (p : Part) (f : Supervisor → Supervisor) : (p.modSv f).sc = p.sc := rfl
@[simp] theorem Part.modSv_mp (p : Part) (f : Supervisor → Supervisor) : (p.modSv f).mp = p.mp := rfl
@[simp] theorem Part.modSv_tx (p : Part) (f : Supervisor → Supervisor) : (p.modSv f).tx = p.tx := rfl
@[simp] theorem Part.modSv_li (p : Part) (f : Supervisor → Supervisor) : (p.modSv f).li = p.li := rfl
@[simp] theorem Part.modSv_sv (p : Part) (f : Supervisor → Supervisor) : (p.modSv f).sv = f p.sv := rfl
@[simp] theorem Part.modSv_store (p : Part) (f : Supervisor → Supervisor) : (p.modSv f).store = p.store := rfl
@[simp] theorem Part.modSv_notes (p : Part) (f : Supervisor → Supervisor) : (p.modSv f).notes = p.notes := rfl
@[simp] theorem Part.modSv_fresh (p : Part) (f : Supervisor → Supervisor) : (p.modSv f).fresh = p.fresh := rfl

/-! ### modStore -/

@[simp] theorem Part.modStore_bm (p : Part) (f : Store → Store) : (p.modStore f).bm = p.bm := rfl
@[simp] theorem Part.modStore_tu (p : Part) (f : Store → Store) : (p.modStore f).tu = p.tu := rfl
@[simp] theorem Part.modStore_sl (p : Part) (f : Store → Store) : (p.modStore f).sl = p.sl := rfl
@[simp] theorem Part.modStore_su (p : Part) (f : Store → Store) : (p.modStore f).su = p.su := rfl
@[simp] theorem Part.modStore_re (p : Part) (f : Store → Store) : (p.modStore f).re = p.re := rfl
@[simp] theorem Part.modStore_sc (p : Part) (f : Store → Store) : (p.modStore f).sc = p.sc := rfl
@[simp] theorem Part.modStore_mp (p : Part) (f : Store → Store) : (p.modStore f).mp = p.mp := rfl
@[simp] theorem Part.modStore_tx (p : Part) (f : Store → Store) : (p.modStore f).tx = p.tx := rfl
@[simp] theorem Part.modStore_li (p : Part) (f : Store → Store) : (p.modStore f).li = p.li := rfl
@[simp] theorem Part.modStore_sv (p : Part) (f : Store → Store) : (p.modStore f).sv = p.sv := rfl
@[simp] theorem Part.modStore_store (p : Part) (f : Store → Store) : (p.modStore f).store = f p.store := rfl
@[simp] theorem Part.modStore_notes (p : Part) (f : Store → Store) : (p.modStore f).notes = p.notes := rfl
@[simp] theorem Part.modStore_fresh (p : Part) (f : Store → Store) : (p.modStore f).fresh = p.fresh := rfl

/-! ### modBand -/

@[simp] theorem Part.modBand_tu (p : Part) (b : Nat) (f : Band → Band) : (p.modBand b f).tu = p.tu := rfl
@[simp] theorem Part.modBand_sl (p : Part) (b : Nat) (f : Band → Band) : (p.modBand b f).sl = p.sl := rfl
@[simp] theorem Part.modBand_su (p : Part) (b : Nat) (f : Band → Band) : (p.modBand b f).su = p.su := rfl
@[simp] theorem Part.modBand_re (p : Part) (b : Nat) (f : Band → Band) : (p.modBand b f).re = p.re := rfl
@[simp] theorem Part.modBand_sc (p : Part) (b : Nat) (f : Band → Band) : (p.modBand b f).sc = p.sc := rfl
@[simp] theorem Part.modBand_mp (p : Part) (b : Nat) (f : Band → Band) : (p.modBand b f).mp = p.mp := rfl
@[simp] theorem Part.modBand_tx (p : Part) (b : Nat) (f : Band → Band) : (p.modBand b f).tx = p.tx := rfl
@[simp] theorem Part.modBand_li (p : Part) (b : Nat) (f : Band → Band) : (p.modBand b f).li = p.li := rfl
@[simp] theorem Part.modBand_sv (p : Part) (b : Nat) (f : Band → Band) : (p.modBand b f).sv = p.sv := rfl
@[simp] theorem Part.modBand_store (p : Part) (b : Nat) (f : Band → Band) : (p.modBand b f).store = p.store := rfl
@[simp] theorem Part.modBand_notes (p : Part) (b : Nat) (f : Band → Band) : (p.modBand b f).notes = p.notes := rfl
@[simp] theorem Part.modBand_fresh (p : Part) (b : Nat) (f : Band → Band) : (p.modBand b f).fresh = p.fresh := rfl

/-! ### modStream -/

@[simp] theorem Part.modStream_bm (p : Part) (i : Nat) (f : Stream → Stream) : (p.modStream i f).bm = p.bm := rfl
@[simp] theorem Part.modStream_tu (p : Part) (i : Nat) (f : Stream → Stream) : (p.modStream i f).tu = p.tu := rfl
@[simp] theorem Part.modStream_sl (p : Part) (i : Nat) (f : Stream → Stream) : (p.modStream i f).sl = p.sl := rfl
@[simp] theorem Part.modStream_re (p : Part) (i : Nat) (f : Stream → Stream) : (p.modStream i f).re = p.re := rfl
@[simp] theorem Part.modStream_sc (p : Part) (i : Nat) (f : Stream → Stream) : (p.modStream i f).sc = p.sc := rfl
@[simp] theorem Part.modStream_mp (p : Part) (i : Nat) (f : Stream → Stream) : (p.modStream i f).mp = p.mp := rfl
@[simp] theorem Part.modStream_tx (p : Part) (i : Nat) (f : Stream → Stream) : (p.modStream i f).tx = p.tx := rfl
@[simp] theorem Part.modStream_li (p : Part) (i : Nat) (f : Stream → Stream) : (p.modStream i f).li = p.li := rfl
@[simp] theorem Part.modStream_sv (p : Part) (i : Nat) (f : Stream → Stream) : (p.modStream i f).sv = p.sv := rfl
@[simp] theorem Part.modStream_store (p : Part) (i : Nat) (f : Stream → Stream) : (p.modStream i f).store = p.store := rfl
@[simp] theorem Part.modStream_notes (p : Part) (i : Nat) (f : Stream → Stream) : (p.modStream i f).notes = p.notes := rfl
@[simp] theorem Part.modStream_fresh (p : Part) (i : Nat) (f : Stream → Stream) : (p.modStream i f).fresh = p.fresh := rfl

/-! ### modChan -/

@[simp] theorem Part.modChan_bm (p : Part) (c : Nat) (f : Chan → Chan) : (p.modChan c f).bm = p.bm := rfl
@[simp] theorem Part.modChan_tu (p : Part) (c : Nat) (f : Chan → Chan) : (p.modChan c f).tu = p.tu := rfl
@[simp] theorem Part.modChan_sl (p : Part) (c : Nat) (f : Chan → Chan) : (p.modChan c f).sl = p.sl := rfl
@[simp] theorem Part.modChan_su (p : Part) (c : Nat) (f : Chan → Chan) : (p.modChan c f).su = p.su := rfl
@[simp] theorem Part.modChan_sc (p : Part) (c : Nat) (f : Chan → Chan) : (p.modChan c f).sc = p.sc := rfl
@[simp] theorem Part.modChan_mp (p : Part) (c : Nat) (f : Chan → Chan) : (p.modChan c f).mp = p.mp := rfl
@[simp] theorem Part.modChan_tx (p : Part) (c : Nat) (f : Chan → Chan) : (p.modChan c f).tx = p.tx := rfl
@[simp] theorem Part.modChan_li (p : Part) (c : Nat) (f : Chan → Chan) : (p.modChan c f).li = p.li := rfl
@[simp] theorem Part.modChan_sv (p : Part) (c : Nat) (f : Chan → Chan) : (p.modChan c f).sv = p.sv := rfl
@[simp] theorem Part.modChan_store (p : Part) (c : Nat) (f : Chan → Chan) : (p.modChan c f).store = p.store := rfl
@[simp] theorem Part.modChan_notes (p : Part) (c : Nat) (f : Chan → Chan) : (p.modChan c f).notes = p.notes := rfl
@[simp] theorem Part.modChan_fresh (p : Part) (c : Nat) (f : Chan → Chan) : (p.modChan c f).fresh = p.fresh := rfl

/-! ### modSetup -/

@[simp] theorem Part.modSetup_bm (p : Part) (c : Nat) (f : ChanSetup → ChanSetup) : (p.modSetup c f).bm = p.bm := rfl
@[simp] theorem Part.modSetup_tu (p : Part) (c : Nat) (f : ChanSetup → ChanSetup) : (p.modSetup c f).tu = p.tu := rfl
@[simp] theorem Part.modSetup_sl (p : Part) (c : Nat) (f : ChanSetup → ChanSetup) : (p.modSetup c f).sl = p.sl := rfl
@[simp] theorem Part.modSetup_su (p : Part) (c : Nat) (f : ChanSetup → ChanSetup) : (p.modSetup c f).su = p.su := rfl
@[simp] theorem Part.modSetup_sc (p : Part) (c : Nat) (f : ChanSetup → ChanSetup) : (p.modSetup c f).sc = p.sc := rfl
@[simp] theorem Part.modSetup_mp (p : Part) (c : Nat) (f : ChanSetup → ChanSetup) : (p.modSetup c f).mp = p.mp := rfl
@[simp] theorem Part.modSetup_tx (p : Part) (c : Nat) (f : ChanSetup → ChanSetup) : (p.modSetup c f).tx = p.tx := rfl
@[simp] theorem Part.modSetup_li (p : Part) (c : Nat) (f : ChanSetup → ChanSetup) : (p.modSetup c f).li = p.li := rfl
@[simp] theorem Part.modSetup_sv (p : Part) (c : Nat) (f : ChanSetup → ChanSetup) : (p.modSetup c f).sv = p.sv := rfl
@[simp] theorem Part.modSetup_store (p : Part) (c : Nat) (f : ChanSetup → ChanSetup) : (p.modSetup c f).store = p.store := rfl
@[simp] theorem Part.modSetup_notes (p : Part) (c : Nat) (f : ChanSetup → ChanSetup) : (p.modSetup c f).notes = p.notes := rfl
@[simp] theorem Part.modSetup_fresh (p : Part) (c : Nat) (f : ChanSetup → ChanSetup) : (p.modSetup c f).fresh = p.fresh := rfl

/-! ### modParked -/

@[simp] theorem Part.modParked_tu (p : Part) (c : Nat) (f : List Nat → List Nat) : (p.modParked c f).tu = p.tu := rfl
@[simp] theorem Part.modParked_sl (p : Part) (c : Nat) (f : List Nat → List Nat) : (p.modParked c f).sl = p.sl := rfl
@[simp] theorem Part.modParked_su (p : Part) (c : Nat) (f : List Nat → List Nat) : (p.modParked c f).su = p.su := rfl
@[simp] theorem Part.modParked_re (p : Part) (c : Nat) (f : List Nat → List Nat) : (p.modParked c f).re = p.re := rfl
@[simp] theorem Part.modParked_sc (p : Part) (c : Nat) (f : List Nat → List Nat) : (p.modParked c f).sc = p.sc := rfl
@[simp] theorem Part.modParked_mp (p : Part) (c : Nat) (f : List Nat → List Nat) : (p.modParked c f).mp = p.mp := rfl
@[simp] theorem Part.modParked_tx (p : Part) (c : Nat) (f : List Nat → List Nat) : (p.modParked c f).tx = p.tx := rfl
@[simp] theorem Part.modParked_li (p : Part) (c : Nat) (f : List Nat → List Nat) : (p.modParked c f).li = p.li := rfl
@[simp] theorem Part.modParked_sv (p : Part) (c : Nat) (f : List Nat → List Nat) : (p.modParked c f).sv = p.sv := rfl
@[simp] theorem Part.modParked_store (p : Part) (c : Nat) (f : List Nat → List Nat) : (p.modParked c f).store = p.store := rfl
@[simp] theorem Part.modParked_notes (p : Part) (c : Nat) (f : List Nat → List Nat) : (p.modParked c f).notes = p.notes := rfl
@[simp] theorem Part.modParked_fresh (p : Part) (c : Nat) (f : List Nat → List Nat) : (p.modParked c f).fresh = p.fresh := rfl

/-! ### modTxn -/

@[simp] theorem Part.modTxn_bm (p : Part) (t : Nat) (f : Txn → Txn) : (p.modTxn t f).bm = p.bm := rfl
@[simp] theorem Part.modTxn_tu (p : Part) (t : Nat) (f : Txn → Txn) : (p.modTxn t f).tu = p.tu := rfl
@[simp] theorem Part.modTxn_sl (p : Part) (t : Nat) (f : Txn → Txn) : (p.modTxn t f).sl = p.sl := rfl
@[simp] theorem Part.modTxn_su (p : Part) (t : Nat) (f : Txn → Txn) : (p.modTxn t f).su = p.su := rfl
@[simp] theorem Part.modTxn_re (p : Part) (t : Nat) (f : Txn → Txn) : (p.modTxn t f).re = p.re := rfl
@[simp] theorem Part.modTxn_sc (p : Part) (t : Nat) (f : Txn → Txn) : (p.modTxn t f).sc = p.sc := rfl
@[simp] theorem Part.modTxn_mp (p : Part) (t : Nat) (f : Txn → Txn) : (p.modTxn t f).mp = p.mp := rfl
@[simp] theorem Part.modTxn_li (p : Part) (t : Nat) (f : Txn → Txn) : (p.modTxn t f).li = p.li := rfl
@[simp] theorem Part.modTxn_sv (p : Part) (t : Nat) (f : Txn → Txn) : (p.modTxn t f).sv = p.sv := rfl
@[simp] theorem Part.modTxn_store (p : Part) (t : Nat) (f : Txn → Txn) : (p.modTxn t f).store = p.store := rfl
@[simp] theorem Part.modTxn_notes (p : Part) (t : Nat) (f : Txn → Txn) : (p.modTxn t f).notes = p.notes := rfl
@[simp] theorem Part.modTxn_fresh (p : Part) (t : Nat) (f : Txn → Txn) : (p.modTxn t f).fresh = p.fresh := rfl

/-! ### modOrders -/

@[simp] theorem Part.modOrders_bm (p : Part) (f : List Order → List Order) : (p.modOrders f).bm = p.bm := rfl
@[simp] theorem Part.modOrders_tu (p : Part) (f : List Order → List Order) : (p.modOrders f).tu = p.tu := rfl
@[simp] theorem Part.modOrders_sl (p : Part) (f : List Order → List Order) : (p.modOrders f).sl = p.sl := rfl
@[simp] theorem Part.modOrders_su (p : Part) (f : List Order → List Order) : (p.modOrders f).su = p.su := rfl
@[simp] theorem Part.modOrders_re (p : Part) (f : List Order → List Order) : (p.modOrders f).re = p.re := rfl
@[simp] theorem Part.modOrders_sc (p : Part) (f : List Order → List Order) : (p.modOrders f).sc = p.sc := rfl
@[simp] theorem Part.modOrders_tx (p : Part) (f : List Order → List Order) : (p.modOrders f).tx = p.tx := rfl
@[simp] theorem Part.modOrders_li (p : Part) (f : List Order → List Order) : (p.modOrders f).li = p.li := rfl
@[simp] theorem Part.modOrders_sv (p : Part) (f : List Order → List Order) : (p.modOrders f).sv = p.sv := rfl
@[simp] theorem Part.modOrders_store (p : Part) (f : List Order → List Order) : (p.modOrders f).store = p.store := rfl
@[simp] theorem Part.modOrders_notes (p : Part) (f : List Order → List Order) : (p.modOrders f).notes = p.notes := rfl
@[simp] theorem Part.modOrders_fresh (p : Part) (f : List Order → List Order) : (p.modOrders f).fresh = p.fresh := rfl

/-! ### modRemap -/

@[simp] theorem Part.modRemap_bm (p : Part) (b o : Nat) (f : Remap → Remap) : (p.modRemap b o f).bm = p.bm := rfl
@[simp] theorem Part.modRemap_sl (p : Part) (b o : Nat) (f : Remap → Remap) : (p.modRemap b o f).sl = p.sl := rfl
@[simp] theorem Part.modRemap_su (p : Part) (b o : Nat) (f : Remap → Remap) : (p.modRemap b o f).su = p.su := rfl
@[simp] theorem Part.modRemap_re (p : Part) (b o : Nat) (f : Remap → Remap) : (p.modRemap b o f).re = p.re := rfl
@[simp] theorem Part.modRemap_sc (p : Part) (b o : Nat) (f : Remap → Remap) : (p.modRemap b o f).sc = p.sc := rfl
@[simp] theorem Part.modRemap_mp (p : Part) (b o : Nat) (f : Remap → Remap) : (p.modRemap b o f).mp = p.mp := rfl
@[simp] theorem Part.modRemap_tx (p : Part) (b o : Nat) (f : Remap → Remap) : (p.modRemap b o f).tx = p.tx := rfl
@[simp] theorem Part.modRemap_li (p : Part) (b o : Nat) (f : Remap → Remap) : (p.modRemap b o f).li = p.li := rfl
@[simp] theorem Part.modRemap_sv (p : Part) (b o : Nat) (f : Remap → Remap) : (p.modRemap b o f).sv = p.sv := rfl
@[simp] theorem Part.modRemap_store (p : Part) (b o : Nat) (f : Remap → Remap) : (p.modRemap b o f).store = p.store := rfl
@[simp] theorem Part.modRemap_notes (p : Part) (b o : Nat) (f : Remap → Remap) : (p.modRemap b o f).notes = p.notes := rfl
@[simp] theorem Part.modRemap_fresh (p : Part) (b o : Nat) (f : Remap → Remap) : (p.modRemap b o f).fresh = p.fresh := rfl

/-! ### modRuns -/

@[simp] theorem Part.modRuns_bm (p : Part) (a n : Nat) (f : Run → Run) : (p.modRuns a n f).bm = p.bm := rfl
@[simp] theorem Part.modRuns_tu (p : Part) (a n : Nat) (f : Run → Run) : (p.modRuns a n f).tu = p.tu := rfl
@[simp] theorem Part.modRuns_su (p : Part) (a n : Nat) (f : Run → Run) : (p.modRuns a n f).su = p.su := rfl
@[simp] theorem Part.modRuns_re (p : Part) (a n : Nat) (f : Run → Run) : (p.modRuns a n f).re = p.re := rfl
@[simp] theorem Part.modRuns_sc (p : Part) (a n : Nat) (f : Run → Run) : (p.modRuns a n f).sc = p.sc := rfl
@[simp] theorem Part.modRuns_mp (p : Part) (a n : Nat) (f : Run → Run) : (p.modRuns a n f).mp = p.mp := rfl
@[simp] theorem Part.modRuns_tx (p : Part) (a n : Nat) (f : Run → Run) : (p.modRuns a n f).tx = p.tx := rfl
@[simp] theorem Part.modRuns_li (p : Part) (a n : Nat) (f : Run → Run) : (p.modRuns a n f).li = p.li := rfl
@[simp] theorem Part.modRuns_sv (p : Part) (a n : Nat) (f : Run → Run) : (p.modRuns a n f).sv = p.sv := rfl
@[simp] theorem Part.modRuns_store (p : Part) (a n : Nat) (f : Run → Run) : (p.modRuns a n f).store = p.store := rfl
@[simp] theorem Part.modRuns_notes (p : Part) (a n : Nat) (f : Run → Run) : (p.modRuns a n f).notes = p.notes := rfl
@[simp] theorem Part.modRuns_fresh (p : Part) (a n : Nat) (f : Run → Run) : (p.modRuns a n f).fresh = p.fresh := rfl

/-! ### follow -/

@[simp] theorem Part.follow_bm (p : Part) (f : Follow) : (p.follow f).bm = p.bm := rfl
@[simp] theorem Part.follow_tu (p : Part) (f : Follow) : (p.follow f).tu = p.tu := rfl
@[simp] theorem Part.follow_sl (p : Part) (f : Follow) : (p.follow f).sl = p.sl := rfl
@[simp] theorem Part.follow_su (p : Part) (f : Follow) : (p.follow f).su = p.su := rfl
@[simp] theorem Part.follow_re (p : Part) (f : Follow) : (p.follow f).re = p.re := rfl
@[simp] theorem Part.follow_sc (p : Part) (f : Follow) : (p.follow f).sc = p.sc := rfl
@[simp] theorem Part.follow_mp (p : Part) (f : Follow) : (p.follow f).mp = p.mp := rfl
@[simp] theorem Part.follow_tx (p : Part) (f : Follow) : (p.follow f).tx = p.tx := rfl
@[simp] theorem Part.follow_li (p : Part) (f : Follow) : (p.follow f).li = p.li := rfl
@[simp] theorem Part.follow_sv (p : Part) (f : Follow) : (p.follow f).sv = p.sv := rfl
@[simp] theorem Part.follow_notes (p : Part) (f : Follow) : (p.follow f).notes = p.notes := rfl
@[simp] theorem Part.follow_fresh (p : Part) (f : Follow) : (p.follow f).fresh = p.fresh := rfl

/-! ### note -/

@[simp] theorem Part.note_bm (p : Part) (n : Note) : (p.note n).bm = p.bm := rfl
@[simp] theorem Part.note_tu (p : Part) (n : Note) : (p.note n).tu = p.tu := rfl
@[simp] theorem Part.note_sl (p : Part) (n : Note) : (p.note n).sl = p.sl := rfl
@[simp] theorem Part.note_su (p : Part) (n : Note) : (p.note n).su = p.su := rfl
@[simp] theorem Part.note_re (p : Part) (n : Note) : (p.note n).re = p.re := rfl
@[simp] theorem Part.note_sc (p : Part) (n : Note) : (p.note n).sc = p.sc := rfl
@[simp] theorem Part.note_mp (p : Part) (n : Note) : (p.note n).mp = p.mp := rfl
@[simp] theorem Part.note_tx (p : Part) (n : Note) : (p.note n).tx = p.tx := rfl
@[simp] theorem Part.note_li (p : Part) (n : Note) : (p.note n).li = p.li := rfl
@[simp] theorem Part.note_sv (p : Part) (n : Note) : (p.note n).sv = p.sv := rfl
@[simp] theorem Part.note_store (p : Part) (n : Note) : (p.note n).store = p.store := rfl
@[simp] theorem Part.note_fresh (p : Part) (n : Note) : (p.note n).fresh = p.fresh := rfl

/-! ### noNotes -/

@[simp] theorem Part.noNotes_bm (p : Part) : (p.noNotes).bm = p.bm := rfl
@[simp] theorem Part.noNotes_tu (p : Part) : (p.noNotes).tu = p.tu := rfl
@[simp] theorem Part.noNotes_sl (p : Part) : (p.noNotes).sl = p.sl := rfl
@[simp] theorem Part.noNotes_su (p : Part) : (p.noNotes).su = p.su := rfl
@[simp] theorem Part.noNotes_re (p : Part) : (p.noNotes).re = p.re := rfl
@[simp] theorem Part.noNotes_sc (p : Part) : (p.noNotes).sc = p.sc := rfl
@[simp] theorem Part.noNotes_mp (p : Part) : (p.noNotes).mp = p.mp := rfl
@[simp] theorem Part.noNotes_tx (p : Part) : (p.noNotes).tx = p.tx := rfl
@[simp] theorem Part.noNotes_li (p : Part) : (p.noNotes).li = p.li := rfl
@[simp] theorem Part.noNotes_sv (p : Part) : (p.noNotes).sv = p.sv := rfl
@[simp] theorem Part.noNotes_store (p : Part) : (p.noNotes).store = p.store := rfl
@[simp] theorem Part.noNotes_fresh (p : Part) : (p.noNotes).fresh = p.fresh := rfl

/-! ### modDevice -/

@[simp] theorem Part.modDevice_bm (p : Part) (d : DeviceState) : (p.modDevice d).bm = p.bm := rfl
@[simp] theorem Part.modDevice_tu (p : Part) (d : DeviceState) : (p.modDevice d).tu = p.tu := rfl
@[simp] theorem Part.modDevice_sl (p : Part) (d : DeviceState) : (p.modDevice d).sl = p.sl := rfl
@[simp] theorem Part.modDevice_su (p : Part) (d : DeviceState) : (p.modDevice d).su = p.su := rfl
@[simp] theorem Part.modDevice_re (p : Part) (d : DeviceState) : (p.modDevice d).re = p.re := rfl
@[simp] theorem Part.modDevice_sc (p : Part) (d : DeviceState) : (p.modDevice d).sc = p.sc := rfl
@[simp] theorem Part.modDevice_mp (p : Part) (d : DeviceState) : (p.modDevice d).mp = p.mp := rfl
@[simp] theorem Part.modDevice_tx (p : Part) (d : DeviceState) : (p.modDevice d).tx = p.tx := rfl
@[simp] theorem Part.modDevice_li (p : Part) (d : DeviceState) : (p.modDevice d).li = p.li := rfl
@[simp] theorem Part.modDevice_store (p : Part) (d : DeviceState) : (p.modDevice d).store = p.store := rfl
@[simp] theorem Part.modDevice_notes (p : Part) (d : DeviceState) : (p.modDevice d).notes = p.notes := rfl
@[simp] theorem Part.modDevice_fresh (p : Part) (d : DeviceState) : (p.modDevice d).fresh = p.fresh := rfl

/-! ### say -/

@[simp] theorem Part.say_bm (p : Part) (m : Message) : (p.say m).bm = p.bm := rfl
@[simp] theorem Part.say_tu (p : Part) (m : Message) : (p.say m).tu = p.tu := rfl
@[simp] theorem Part.say_sl (p : Part) (m : Message) : (p.say m).sl = p.sl := rfl
@[simp] theorem Part.say_su (p : Part) (m : Message) : (p.say m).su = p.su := rfl
@[simp] theorem Part.say_re (p : Part) (m : Message) : (p.say m).re = p.re := rfl
@[simp] theorem Part.say_sc (p : Part) (m : Message) : (p.say m).sc = p.sc := rfl
@[simp] theorem Part.say_mp (p : Part) (m : Message) : (p.say m).mp = p.mp := rfl
@[simp] theorem Part.say_tx (p : Part) (m : Message) : (p.say m).tx = p.tx := rfl
@[simp] theorem Part.say_sv (p : Part) (m : Message) : (p.say m).sv = p.sv := rfl
@[simp] theorem Part.say_store (p : Part) (m : Message) : (p.say m).store = p.store := rfl
@[simp] theorem Part.say_notes (p : Part) (m : Message) : (p.say m).notes = p.notes := rfl
@[simp] theorem Part.say_fresh (p : Part) (m : Message) : (p.say m).fresh = p.fresh := rfl

/-! ### sayHeld -/

@[simp] theorem Part.sayHeld_bm (p : Part) (m : Message) : (p.sayHeld m).bm = p.bm := rfl
@[simp] theorem Part.sayHeld_tu (p : Part) (m : Message) : (p.sayHeld m).tu = p.tu := rfl
@[simp] theorem Part.sayHeld_sl (p : Part) (m : Message) : (p.sayHeld m).sl = p.sl := rfl
@[simp] theorem Part.sayHeld_su (p : Part) (m : Message) : (p.sayHeld m).su = p.su := rfl
@[simp] theorem Part.sayHeld_re (p : Part) (m : Message) : (p.sayHeld m).re = p.re := rfl
@[simp] theorem Part.sayHeld_sc (p : Part) (m : Message) : (p.sayHeld m).sc = p.sc := rfl
@[simp] theorem Part.sayHeld_mp (p : Part) (m : Message) : (p.sayHeld m).mp = p.mp := rfl
@[simp] theorem Part.sayHeld_tx (p : Part) (m : Message) : (p.sayHeld m).tx = p.tx := rfl
@[simp] theorem Part.sayHeld_sv (p : Part) (m : Message) : (p.sayHeld m).sv = p.sv := rfl
@[simp] theorem Part.sayHeld_store (p : Part) (m : Message) : (p.sayHeld m).store = p.store := rfl
@[simp] theorem Part.sayHeld_notes (p : Part) (m : Message) : (p.sayHeld m).notes = p.notes := rfl
@[simp] theorem Part.sayHeld_fresh (p : Part) (m : Message) : (p.sayHeld m).fresh = p.fresh := rfl

/-! ### holdPlaces -/

@[simp] theorem Part.holdPlaces_bm (p : Part) (n : Nat) : (p.holdPlaces n).bm = p.bm := rfl
@[simp] theorem Part.holdPlaces_tu (p : Part) (n : Nat) : (p.holdPlaces n).tu = p.tu := rfl
@[simp] theorem Part.holdPlaces_sl (p : Part) (n : Nat) : (p.holdPlaces n).sl = p.sl := rfl
@[simp] theorem Part.holdPlaces_su (p : Part) (n : Nat) : (p.holdPlaces n).su = p.su := rfl
@[simp] theorem Part.holdPlaces_re (p : Part) (n : Nat) : (p.holdPlaces n).re = p.re := rfl
@[simp] theorem Part.holdPlaces_sc (p : Part) (n : Nat) : (p.holdPlaces n).sc = p.sc := rfl
@[simp] theorem Part.holdPlaces_mp (p : Part) (n : Nat) : (p.holdPlaces n).mp = p.mp := rfl
@[simp] theorem Part.holdPlaces_tx (p : Part) (n : Nat) : (p.holdPlaces n).tx = p.tx := rfl
@[simp] theorem Part.holdPlaces_sv (p : Part) (n : Nat) : (p.holdPlaces n).sv = p.sv := rfl
@[simp] theorem Part.holdPlaces_store (p : Part) (n : Nat) : (p.holdPlaces n).store = p.store := rfl
@[simp] theorem Part.holdPlaces_notes (p : Part) (n : Nat) : (p.holdPlaces n).notes = p.notes := rfl
@[simp] theorem Part.holdPlaces_fresh (p : Part) (n : Nat) : (p.holdPlaces n).fresh = p.fresh := rfl

/-! ### beginSending -/

@[simp] theorem Part.beginSending_bm (p : Part) : (p.beginSending).bm = p.bm := rfl
@[simp] theorem Part.beginSending_tu (p : Part) : (p.beginSending).tu = p.tu := rfl
@[simp] theorem Part.beginSending_sl (p : Part) : (p.beginSending).sl = p.sl := rfl
@[simp] theorem Part.beginSending_su (p : Part) : (p.beginSending).su = p.su := rfl
@[simp] theorem Part.beginSending_re (p : Part) : (p.beginSending).re = p.re := rfl
@[simp] theorem Part.beginSending_sc (p : Part) : (p.beginSending).sc = p.sc := rfl
@[simp] theorem Part.beginSending_mp (p : Part) : (p.beginSending).mp = p.mp := rfl
@[simp] theorem Part.beginSending_tx (p : Part) : (p.beginSending).tx = p.tx := rfl
@[simp] theorem Part.beginSending_sv (p : Part) : (p.beginSending).sv = p.sv := rfl
@[simp] theorem Part.beginSending_store (p : Part) : (p.beginSending).store = p.store := rfl
@[simp] theorem Part.beginSending_notes (p : Part) : (p.beginSending).notes = p.notes := rfl
@[simp] theorem Part.beginSending_fresh (p : Part) : (p.beginSending).fresh = p.fresh := rfl

/-! ### clearEvents -/

@[simp] theorem Part.clearEvents_bm (p : Part) (e : EventBits) : (p.clearEvents e).bm = p.bm := rfl
@[simp] theorem Part.clearEvents_tu (p : Part) (e : EventBits) : (p.clearEvents e).tu = p.tu := rfl
@[simp] theorem Part.clearEvents_sl (p : Part) (e : EventBits) : (p.clearEvents e).sl = p.sl := rfl
@[simp] theorem Part.clearEvents_su (p : Part) (e : EventBits) : (p.clearEvents e).su = p.su := rfl
@[simp] theorem Part.clearEvents_re (p : Part) (e : EventBits) : (p.clearEvents e).re = p.re := rfl
@[simp] theorem Part.clearEvents_sc (p : Part) (e : EventBits) : (p.clearEvents e).sc = p.sc := rfl
@[simp] theorem Part.clearEvents_mp (p : Part) (e : EventBits) : (p.clearEvents e).mp = p.mp := rfl
@[simp] theorem Part.clearEvents_tx (p : Part) (e : EventBits) : (p.clearEvents e).tx = p.tx := rfl
@[simp] theorem Part.clearEvents_li (p : Part) (e : EventBits) : (p.clearEvents e).li = p.li := rfl
@[simp] theorem Part.clearEvents_store (p : Part) (e : EventBits) : (p.clearEvents e).store = p.store := rfl
@[simp] theorem Part.clearEvents_notes (p : Part) (e : EventBits) : (p.clearEvents e).notes = p.notes := rfl
@[simp] theorem Part.clearEvents_fresh (p : Part) (e : EventBits) : (p.clearEvents e).fresh = p.fresh := rfl

/-! ### count -/

@[simp] theorem Part.count_bm (p : Part) (c : Nat) (f : Tally → Tally) : (p.count c f).bm = p.bm := rfl
@[simp] theorem Part.count_tu (p : Part) (c : Nat) (f : Tally → Tally) : (p.count c f).tu = p.tu := rfl
@[simp] theorem Part.count_sl (p : Part) (c : Nat) (f : Tally → Tally) : (p.count c f).sl = p.sl := rfl
@[simp] theorem Part.count_su (p : Part) (c : Nat) (f : Tally → Tally) : (p.count c f).su = p.su := rfl
@[simp] theorem Part.count_re (p : Part) (c : Nat) (f : Tally → Tally) : (p.count c f).re = p.re := rfl
@[simp] theorem Part.count_sc (p : Part) (c : Nat) (f : Tally → Tally) : (p.count c f).sc = p.sc := rfl
@[simp] theorem Part.count_mp (p : Part) (c : Nat) (f : Tally → Tally) : (p.count c f).mp = p.mp := rfl
@[simp] theorem Part.count_tx (p : Part) (c : Nat) (f : Tally → Tally) : (p.count c f).tx = p.tx := rfl
@[simp] theorem Part.count_li (p : Part) (c : Nat) (f : Tally → Tally) : (p.count c f).li = p.li := rfl
@[simp] theorem Part.count_store (p : Part) (c : Nat) (f : Tally → Tally) : (p.count c f).store = p.store := rfl
@[simp] theorem Part.count_notes (p : Part) (c : Nat) (f : Tally → Tally) : (p.count c f).notes = p.notes := rfl
@[simp] theorem Part.count_fresh (p : Part) (c : Nat) (f : Tally → Tally) : (p.count c f).fresh = p.fresh := rfl

/-! ### startUpdate -/

@[simp] theorem Part.startUpdate_bm (p : Part) (m : Image) : (p.startUpdate m).bm = p.bm := by
  unfold Part.startUpdate; dsimp only; split <;> rfl
@[simp] theorem Part.startUpdate_tu (p : Part) (m : Image) : (p.startUpdate m).tu = p.tu := by
  unfold Part.startUpdate; dsimp only; split <;> rfl
@[simp] theorem Part.startUpdate_sl (p : Part) (m : Image) : (p.startUpdate m).sl = p.sl := by
  unfold Part.startUpdate; dsimp only; split <;> rfl
@[simp] theorem Part.startUpdate_su (p : Part) (m : Image) : (p.startUpdate m).su = p.su := by
  unfold Part.startUpdate; dsimp only; split <;> rfl
@[simp] theorem Part.startUpdate_re (p : Part) (m : Image) : (p.startUpdate m).re = p.re := by
  unfold Part.startUpdate; dsimp only; split <;> rfl
@[simp] theorem Part.startUpdate_sc (p : Part) (m : Image) : (p.startUpdate m).sc = p.sc := by
  unfold Part.startUpdate; dsimp only; split <;> rfl
@[simp] theorem Part.startUpdate_mp (p : Part) (m : Image) : (p.startUpdate m).mp = p.mp := by
  unfold Part.startUpdate; dsimp only; split <;> rfl
@[simp] theorem Part.startUpdate_tx (p : Part) (m : Image) : (p.startUpdate m).tx = p.tx := by
  unfold Part.startUpdate; dsimp only; split <;> rfl
@[simp] theorem Part.startUpdate_li (p : Part) (m : Image) : (p.startUpdate m).li = p.li := by
  unfold Part.startUpdate; dsimp only; split <;> rfl
@[simp] theorem Part.startUpdate_sv (p : Part) (m : Image) : (p.startUpdate m).sv = p.sv := by
  unfold Part.startUpdate; dsimp only; split <;> rfl
@[simp] theorem Part.startUpdate_notes (p : Part) (m : Image) : (p.startUpdate m).notes = p.notes := by
  unfold Part.startUpdate; dsimp only; split <;> rfl
@[simp] theorem Part.startUpdate_fresh (p : Part) (m : Image) : (p.startUpdate m).fresh = p.fresh := by
  unfold Part.startUpdate; dsimp only; split <;> rfl

/-! ### setReceiver -/

@[simp] theorem Part.setReceiver_bm (p : Part) (l : Link) (r : Receiver) : (p.setReceiver l r).bm = p.bm := by
  cases l <;> rfl
@[simp] theorem Part.setReceiver_tu (p : Part) (l : Link) (r : Receiver) : (p.setReceiver l r).tu = p.tu := by
  cases l <;> rfl
@[simp] theorem Part.setReceiver_sl (p : Part) (l : Link) (r : Receiver) : (p.setReceiver l r).sl = p.sl := by
  cases l <;> rfl
@[simp] theorem Part.setReceiver_su (p : Part) (l : Link) (r : Receiver) : (p.setReceiver l r).su = p.su := by
  cases l <;> rfl
@[simp] theorem Part.setReceiver_re (p : Part) (l : Link) (r : Receiver) : (p.setReceiver l r).re = p.re := by
  cases l <;> rfl
@[simp] theorem Part.setReceiver_sc (p : Part) (l : Link) (r : Receiver) : (p.setReceiver l r).sc = p.sc := by
  cases l <;> rfl
@[simp] theorem Part.setReceiver_tx (p : Part) (l : Link) (r : Receiver) : (p.setReceiver l r).tx = p.tx := by
  cases l <;> rfl
@[simp] theorem Part.setReceiver_sv (p : Part) (l : Link) (r : Receiver) : (p.setReceiver l r).sv = p.sv := by
  cases l <;> rfl
@[simp] theorem Part.setReceiver_store (p : Part) (l : Link) (r : Receiver) : (p.setReceiver l r).store = p.store := by
  cases l <;> rfl
@[simp] theorem Part.setReceiver_notes (p : Part) (l : Link) (r : Receiver) : (p.setReceiver l r).notes = p.notes := by
  cases l <;> rfl
@[simp] theorem Part.setReceiver_fresh (p : Part) (l : Link) (r : Receiver) : (p.setReceiver l r).fresh = p.fresh := by
  cases l <;> rfl
@[simp] theorem Part.setReceiver_receiver (p : Part) (l : Link) (r : Receiver) :
    (p.setReceiver l r).receiver l = r := by cases l <;> rfl
@[simp] theorem Part.setReceiver_orders (p : Part) (l : Link) (r : Receiver) :
    (p.setReceiver l r).mp.orders = p.mp.orders := by cases l <;> rfl
@[simp] theorem Part.setReceiver_queue (p : Part) (l : Link) (r : Receiver) :
    (p.setReceiver l r).li.queue = p.li.queue := by cases l <;> rfl

/-! ### dropFollows -/

@[simp] theorem Part.dropFollows_bm (p : Part) : p.dropFollows.bm = p.bm := rfl
@[simp] theorem Part.dropFollows_tu (p : Part) : p.dropFollows.tu = p.tu := rfl
@[simp] theorem Part.dropFollows_sl (p : Part) : p.dropFollows.sl = p.sl := rfl
@[simp] theorem Part.dropFollows_su (p : Part) : p.dropFollows.su = p.su := rfl
@[simp] theorem Part.dropFollows_re (p : Part) : p.dropFollows.re = p.re := rfl
@[simp] theorem Part.dropFollows_sc (p : Part) : p.dropFollows.sc = p.sc := rfl
@[simp] theorem Part.dropFollows_mp (p : Part) : p.dropFollows.mp = p.mp := rfl
@[simp] theorem Part.dropFollows_tx (p : Part) : p.dropFollows.tx = p.tx := rfl
@[simp] theorem Part.dropFollows_li (p : Part) : p.dropFollows.li = p.li := rfl
@[simp] theorem Part.dropFollows_sv (p : Part) : p.dropFollows.sv = p.sv := rfl
@[simp] theorem Part.dropFollows_notes (p : Part) : p.dropFollows.notes = p.notes := rfl
@[simp] theorem Part.dropFollows_fresh (p : Part) : p.dropFollows.fresh = p.fresh := rfl

/-! ### The fields themselves -/

@[simp] theorem Part.note_notes (p : Part) (n : Note) : (p.note n).notes = p.notes ++ [n] := rfl
@[simp] theorem Part.noNotes_notes (p : Part) : p.noNotes.notes = [] := rfl
@[simp] theorem Part.modOrders_orders (p : Part) (f : List Order → List Order) :
    (p.modOrders f).mp.orders = f p.mp.orders := rfl
@[simp] theorem Part.follow_follows (p : Part) (f : Follow) :
    (p.follow f).store.follows = p.store.follows ++ [f] := rfl
@[simp] theorem Part.say_queue (p : Part) (m : Message) : (p.say m).li.queue = p.li.queue ++ [m] := rfl
@[simp] theorem Part.say_reserved (p : Part) (m : Message) : (p.say m).li.reserved = p.li.reserved := rfl
@[simp] theorem Part.sayHeld_queue (p : Part) (m : Message) : (p.sayHeld m).li.queue = p.li.queue ++ [m] := rfl
@[simp] theorem Part.sayHeld_reserved (p : Part) (m : Message) : (p.sayHeld m).li.reserved = p.li.reserved - 1 := rfl
@[simp] theorem Part.modDevice_device (p : Part) (d : DeviceState) : (p.modDevice d).sv.device = d := rfl

end Sys2Proof.Machine
end

