-- ==== Sys2Proof/Laws/Bands.lean ====
section
/-! SUPPORT. What the shared operations on bands, streams and levels leave unchanged, block by block, and what they make of
a band (R23, R28, R31 to R36). -/

set_option linter.unusedSimpArgs false

namespace Sys2Proof.Machine

@[simp] theorem Part.announce_bm (p : Part) (f : EventBits) : (p.announce f).bm = p.bm := by
  unfold Part.announce; split <;> rfl
@[simp] theorem Part.announce_tu (p : Part) (f : EventBits) : (p.announce f).tu = p.tu := by
  unfold Part.announce; split <;> rfl
@[simp] theorem Part.announce_sl (p : Part) (f : EventBits) : (p.announce f).sl = p.sl := by
  unfold Part.announce; split <;> rfl
@[simp] theorem Part.announce_su (p : Part) (f : EventBits) : (p.announce f).su = p.su := by
  unfold Part.announce; split <;> rfl
@[simp] theorem Part.announce_re (p : Part) (f : EventBits) : (p.announce f).re = p.re := by
  unfold Part.announce; split <;> rfl
@[simp] theorem Part.announce_sc (p : Part) (f : EventBits) : (p.announce f).sc = p.sc := by
  unfold Part.announce; split <;> rfl
@[simp] theorem Part.announce_mp (p : Part) (f : EventBits) : (p.announce f).mp = p.mp := by
  unfold Part.announce; split <;> rfl
@[simp] theorem Part.announce_tx (p : Part) (f : EventBits) : (p.announce f).tx = p.tx := by
  unfold Part.announce; split <;> rfl
@[simp] theorem Part.announce_sv (p : Part) (f : EventBits) : (p.announce f).sv = p.sv := by
  unfold Part.announce; split <;> rfl
@[simp] theorem Part.announce_store (p : Part) (f : EventBits) : (p.announce f).store = p.store := by
  unfold Part.announce; split <;> rfl
@[simp] theorem Part.announce_notes (p : Part) (f : EventBits) : (p.announce f).notes = p.notes := by
  unfold Part.announce; split <;> rfl
@[simp] theorem Part.announce_fresh (p : Part) (f : EventBits) : (p.announce f).fresh = p.fresh := by
  unfold Part.announce; split <;> rfl

@[simp] theorem Part.raise_bm (p : Part) (f : EventBits) : (p.raise f).bm = p.bm := by
  unfold Part.raise; simp
@[simp] theorem Part.raise_tu (p : Part) (f : EventBits) : (p.raise f).tu = p.tu := by
  unfold Part.raise; simp
@[simp] theorem Part.raise_sl (p : Part) (f : EventBits) : (p.raise f).sl = p.sl := by
  unfold Part.raise; simp
@[simp] theorem Part.raise_su (p : Part) (f : EventBits) : (p.raise f).su = p.su := by
  unfold Part.raise; simp
@[simp] theorem Part.raise_re (p : Part) (f : EventBits) : (p.raise f).re = p.re := by
  unfold Part.raise; simp
@[simp] theorem Part.raise_sc (p : Part) (f : EventBits) : (p.raise f).sc = p.sc := by
  unfold Part.raise; simp
@[simp] theorem Part.raise_mp (p : Part) (f : EventBits) : (p.raise f).mp = p.mp := by
  unfold Part.raise; simp
@[simp] theorem Part.raise_tx (p : Part) (f : EventBits) : (p.raise f).tx = p.tx := by
  unfold Part.raise; simp
@[simp] theorem Part.raise_store (p : Part) (f : EventBits) : (p.raise f).store = p.store := by
  unfold Part.raise; simp
@[simp] theorem Part.raise_notes (p : Part) (f : EventBits) : (p.raise f).notes = p.notes := by
  unfold Part.raise; simp
@[simp] theorem Part.raise_fresh (p : Part) (f : EventBits) : (p.raise f).fresh = p.fresh := by
  unfold Part.raise; simp

@[simp] theorem Part.reportFree_bm (p : Part) (n : Nat) : (p.reportFree n).bm = p.bm := by
  unfold Part.reportFree; dsimp only; (repeat' split) <;> simp
@[simp] theorem Part.reportFree_tu (p : Part) (n : Nat) : (p.reportFree n).tu = p.tu := by
  unfold Part.reportFree; dsimp only; (repeat' split) <;> simp
@[simp] theorem Part.reportFree_sl (p : Part) (n : Nat) : (p.reportFree n).sl = p.sl := by
  unfold Part.reportFree; dsimp only; (repeat' split) <;> simp
@[simp] theorem Part.reportFree_su (p : Part) (n : Nat) : (p.reportFree n).su = p.su := by
  unfold Part.reportFree; dsimp only; (repeat' split) <;> simp
@[simp] theorem Part.reportFree_re (p : Part) (n : Nat) : (p.reportFree n).re = p.re := by
  unfold Part.reportFree; dsimp only; (repeat' split) <;> simp
@[simp] theorem Part.reportFree_sc (p : Part) (n : Nat) : (p.reportFree n).sc = p.sc := by
  unfold Part.reportFree; dsimp only; (repeat' split) <;> simp
@[simp] theorem Part.reportFree_mp (p : Part) (n : Nat) : (p.reportFree n).mp = p.mp := by
  unfold Part.reportFree; dsimp only; (repeat' split) <;> simp
@[simp] theorem Part.reportFree_tx (p : Part) (n : Nat) : (p.reportFree n).tx = p.tx := by
  unfold Part.reportFree; dsimp only; (repeat' split) <;> simp
@[simp] theorem Part.reportFree_store (p : Part) (n : Nat) : (p.reportFree n).store = p.store := by
  unfold Part.reportFree; dsimp only; (repeat' split) <;> simp
@[simp] theorem Part.reportFree_fresh (p : Part) (n : Nat) : (p.reportFree n).fresh = p.fresh := by
  unfold Part.reportFree; dsimp only; (repeat' split) <;> simp

@[simp] theorem Part.retireTracks_tu (p : Part) (l : List Nat) : (p.retireTracks l).tu = p.tu := by
  unfold Part.retireTracks; dsimp only; split <;> rfl
@[simp] theorem Part.retireTracks_sl (p : Part) (l : List Nat) : (p.retireTracks l).sl = p.sl := by
  unfold Part.retireTracks; dsimp only; split <;> rfl
@[simp] theorem Part.retireTracks_su (p : Part) (l : List Nat) : (p.retireTracks l).su = p.su := by
  unfold Part.retireTracks; dsimp only; split <;> rfl
@[simp] theorem Part.retireTracks_re (p : Part) (l : List Nat) : (p.retireTracks l).re = p.re := by
  unfold Part.retireTracks; dsimp only; split <;> rfl
@[simp] theorem Part.retireTracks_sc (p : Part) (l : List Nat) : (p.retireTracks l).sc = p.sc := by
  unfold Part.retireTracks; dsimp only; split <;> rfl
@[simp] theorem Part.retireTracks_mp (p : Part) (l : List Nat) : (p.retireTracks l).mp = p.mp := by
  unfold Part.retireTracks; dsimp only; split <;> rfl
@[simp] theorem Part.retireTracks_tx (p : Part) (l : List Nat) : (p.retireTracks l).tx = p.tx := by
  unfold Part.retireTracks; dsimp only; split <;> rfl
@[simp] theorem Part.retireTracks_li (p : Part) (l : List Nat) : (p.retireTracks l).li = p.li := by
  unfold Part.retireTracks; dsimp only; split <;> rfl
@[simp] theorem Part.retireTracks_store (p : Part) (l : List Nat) : (p.retireTracks l).store = p.store := by
  unfold Part.retireTracks; dsimp only; split <;> rfl
@[simp] theorem Part.retireTracks_notes (p : Part) (l : List Nat) : (p.retireTracks l).notes = p.notes := by
  unfold Part.retireTracks; dsimp only; split <;> rfl
@[simp] theorem Part.retireTracks_fresh (p : Part) (l : List Nat) : (p.retireTracks l).fresh = p.fresh := by
  unfold Part.retireTracks; dsimp only; split <;> rfl

@[simp] theorem Part.tellLoss_bm (p : Part) (r : Requester) : (p.tellLoss r).bm = p.bm := by
  cases r <;> rfl
@[simp] theorem Part.tellLoss_tu (p : Part) (r : Requester) : (p.tellLoss r).tu = p.tu := by
  cases r <;> rfl
@[simp] theorem Part.tellLoss_sl (p : Part) (r : Requester) : (p.tellLoss r).sl = p.sl := by
  cases r <;> rfl
@[simp] theorem Part.tellLoss_sc (p : Part) (r : Requester) : (p.tellLoss r).sc = p.sc := by
  cases r <;> rfl
@[simp] theorem Part.tellLoss_mp (p : Part) (r : Requester) : (p.tellLoss r).mp = p.mp := by
  cases r <;> rfl
@[simp] theorem Part.tellLoss_tx (p : Part) (r : Requester) : (p.tellLoss r).tx = p.tx := by
  cases r <;> rfl
@[simp] theorem Part.tellLoss_li (p : Part) (r : Requester) : (p.tellLoss r).li = p.li := by
  cases r <;> rfl
@[simp] theorem Part.tellLoss_sv (p : Part) (r : Requester) : (p.tellLoss r).sv = p.sv := by
  cases r <;> rfl
@[simp] theorem Part.tellLoss_store (p : Part) (r : Requester) : (p.tellLoss r).store = p.store := by
  cases r <;> rfl
@[simp] theorem Part.tellLoss_notes (p : Part) (r : Requester) : (p.tellLoss r).notes = p.notes := by
  cases r <;> rfl
@[simp] theorem Part.tellLoss_fresh (p : Part) (r : Requester) : (p.tellLoss r).fresh = p.fresh := by
  cases r <;> rfl

@[simp] theorem Part.levelChecks_bm (p : Part) (o : Part) : (p.levelChecks o).bm = p.bm := by
  unfold Part.levelChecks; dsimp only; (repeat' split) <;> simp
@[simp] theorem Part.levelChecks_tu (p : Part) (o : Part) : (p.levelChecks o).tu = p.tu := by
  unfold Part.levelChecks; dsimp only; (repeat' split) <;> simp
@[simp] theorem Part.levelChecks_sl (p : Part) (o : Part) : (p.levelChecks o).sl = p.sl := by
  unfold Part.levelChecks; dsimp only; (repeat' split) <;> simp
@[simp] theorem Part.levelChecks_su (p : Part) (o : Part) : (p.levelChecks o).su = p.su := by
  unfold Part.levelChecks; dsimp only; (repeat' split) <;> simp
@[simp] theorem Part.levelChecks_re (p : Part) (o : Part) : (p.levelChecks o).re = p.re := by
  unfold Part.levelChecks; dsimp only; (repeat' split) <;> simp
@[simp] theorem Part.levelChecks_sc (p : Part) (o : Part) : (p.levelChecks o).sc = p.sc := by
  unfold Part.levelChecks; dsimp only; (repeat' split) <;> simp
@[simp] theorem Part.levelChecks_tx (p : Part) (o : Part) : (p.levelChecks o).tx = p.tx := by
  unfold Part.levelChecks; dsimp only; (repeat' split) <;> simp
@[simp] theorem Part.levelChecks_store (p : Part) (o : Part) : (p.levelChecks o).store = p.store := by
  unfold Part.levelChecks; dsimp only; (repeat' split) <;> simp
@[simp] theorem Part.levelChecks_fresh (p : Part) (o : Part) : (p.levelChecks o).fresh = p.fresh := by
  unfold Part.levelChecks; dsimp only; (repeat' split) <;> simp

@[simp] theorem Part.tailCheck_bm (p : Part) : (p.tailCheck).bm = p.bm := by
  unfold Part.tailCheck; dsimp only; split <;> simp
@[simp] theorem Part.tailCheck_tu (p : Part) : (p.tailCheck).tu = p.tu := by
  unfold Part.tailCheck; dsimp only; split <;> simp
@[simp] theorem Part.tailCheck_su (p : Part) : (p.tailCheck).su = p.su := by
  unfold Part.tailCheck; dsimp only; split <;> simp
@[simp] theorem Part.tailCheck_re (p : Part) : (p.tailCheck).re = p.re := by
  unfold Part.tailCheck; dsimp only; split <;> simp
@[simp] theorem Part.tailCheck_sc (p : Part) : (p.tailCheck).sc = p.sc := by
  unfold Part.tailCheck; dsimp only; split <;> simp
@[simp] theorem Part.tailCheck_tx (p : Part) : (p.tailCheck).tx = p.tx := by
  unfold Part.tailCheck; dsimp only; split <;> simp
@[simp] theorem Part.tailCheck_store (p : Part) : (p.tailCheck).store = p.store := by
  unfold Part.tailCheck; dsimp only; split <;> simp
@[simp] theorem Part.tailCheck_fresh (p : Part) : (p.tailCheck).fresh = p.fresh := by
  unfold Part.tailCheck; dsimp only; split <;> simp

/-- A raised flag changes the flags and ALERT. -/
theorem Part.raise_sv (p : Part) (f : EventBits) : (p.raise f).sv = { p.sv with
    events := p.sv.events ||| f, alert := alertLevel (p.sv.events ||| f) p.sv.mask } := by
  unfold Part.raise; simp [Supervisor.setAlert]

/-- A band after a change of one band. -/
theorem Part.band_modBand (p : Part) (b c : Nat) (f : Band → Band) :
    (p.modBand b f).band c = if c = b ∧ b < p.bm.bands.length then f (p.band b) else p.band c := by
  unfold Part.band Part.modBand Part.modBm modAt
  simp only [List.getD_eq_getElem?_getD, List.getElem?_modify]
  by_cases h : c = b
  · subst h
    by_cases hl : c < p.bm.bands.length
    · simp [hl]
    · simp [hl, List.getElem?_eq_none (Nat.le_of_not_lt hl)]
  · simp [h, Ne.symm h]

/-- A band as the band table has it. -/
theorem Part.band_congr {p q : Part} (h : q.bm.bands = p.bm.bands) (b : Nat) : q.band b = p.band b := by
  unfold Part.band; rw [h]

@[simp] theorem Part.modBand_length (p : Part) (b : Nat) (f : Band → Band) :
    (p.modBand b f).bm.bands.length = p.bm.bands.length := by
  simp [Part.modBand, Part.modBm, modAt]
@[simp] theorem Part.modBand_geom (p : Part) (b : Nat) (f : Band → Band) : (p.modBand b f).bm.geom = p.bm.geom := rfl
@[simp] theorem Part.modBand_parked (p : Part) (b : Nat) (f : Band → Band) : (p.modBand b f).bm.parked = p.bm.parked := rfl
@[simp] theorem Part.retireTracks_bands (p : Part) (l : List Nat) : (p.retireTracks l).bm.bands = p.bm.bands := by
  unfold Part.retireTracks; dsimp only; split <;> rfl
@[simp] theorem Part.retireTracks_parked (p : Part) (l : List Nat) : (p.retireTracks l).bm.parked = p.bm.parked := by
  unfold Part.retireTracks; dsimp only; split <;> rfl
@[simp] theorem Part.retireTracks_geom (p : Part) (l : List Nat) : (p.retireTracks l).bm.geom = p.bm.geom := by
  unfold Part.retireTracks; dsimp only; split <;> rfl

/-- A band record as a rewind leaves it (R33). -/
theorem Part.rewind_bands (p : Part) (b : Nat) : (p.rewind b).bm.bands = p.bm.bands.modify b fun r =>
    if (p.band b).suspectFlag then { r with state := .retired, wp := 0, owner := none }
    else { r with state := .free, wp := 0, owner := none, cls := 0, closedHour := 0 } := by
  unfold Part.rewind
  dsimp only
  split <;> simp [Part.modBand, Part.modBm, modAt]

@[simp] theorem Part.rewind_parked (p : Part) (b : Nat) : (p.rewind b).bm.parked = p.bm.parked := by
  unfold Part.rewind; dsimp only; split <;> simp
@[simp] theorem Part.rewind_geom (p : Part) (b : Nat) : (p.rewind b).bm.geom = p.bm.geom := by
  unfold Part.rewind; dsimp only; split <;> simp
@[simp] theorem Part.rewind_length (p : Part) (b : Nat) : (p.rewind b).bm.bands.length = p.bm.bands.length := by
  rw [Part.rewind_bands]; simp

/-- Only the rewound band changes. -/
theorem Part.band_rewind (p : Part) (b c : Nat) : (p.rewind b).band c =
    if c = b ∧ b < p.bm.bands.length then
      (if (p.band b).suspectFlag then { p.band b with state := .retired, wp := 0, owner := none }
      else { p.band b with state := .free, wp := 0, owner := none, cls := 0, closedHour := 0 })
    else p.band c := by
  have h := Part.band_modBand p b c fun r =>
    if (p.band b).suspectFlag then { r with state := .retired, wp := 0, owner := none }
    else { r with state := .free, wp := 0, owner := none, cls := 0, closedHour := 0 }
  rw [← h]
  exact Part.band_congr (by rw [Part.rewind_bands]; rfl) c

@[simp] theorem Part.rewind_tu (p : Part) (b : Nat) : (p.rewind b).tu = p.tu := by
  unfold Part.rewind; dsimp only; split <;> simp
@[simp] theorem Part.rewind_sl (p : Part) (b : Nat) : (p.rewind b).sl = p.sl := by
  unfold Part.rewind; dsimp only; split <;> simp
@[simp] theorem Part.rewind_su (p : Part) (b : Nat) : (p.rewind b).su = p.su := by
  unfold Part.rewind; dsimp only; split <;> simp
@[simp] theorem Part.rewind_re (p : Part) (b : Nat) : (p.rewind b).re = p.re := by
  unfold Part.rewind; dsimp only; split <;> simp
@[simp] theorem Part.rewind_sc (p : Part) (b : Nat) : (p.rewind b).sc = p.sc := by
  unfold Part.rewind; dsimp only; split <;> simp
@[simp] theorem Part.rewind_mp (p : Part) (b : Nat) : (p.rewind b).mp = p.mp := by
  unfold Part.rewind; dsimp only; split <;> simp
@[simp] theorem Part.rewind_tx (p : Part) (b : Nat) : (p.rewind b).tx = p.tx := by
  unfold Part.rewind; dsimp only; split <;> simp
@[simp] theorem Part.rewind_store (p : Part) (b : Nat) : (p.rewind b).store = p.store := by
  unfold Part.rewind; dsimp only; split <;> simp
@[simp] theorem Part.rewind_fresh (p : Part) (b : Nat) : (p.rewind b).fresh = p.fresh := by
  unfold Part.rewind; dsimp only; split <;> simp

@[simp] theorem Part.releaseCheck_tu (p : Part) (b : Nat) : (p.releaseCheck b).tu = p.tu := by
  unfold Part.releaseCheck; dsimp only; split <;> simp
@[simp] theorem Part.releaseCheck_sl (p : Part) (b : Nat) : (p.releaseCheck b).sl = p.sl := by
  unfold Part.releaseCheck; dsimp only; split <;> simp
@[simp] theorem Part.releaseCheck_su (p : Part) (b : Nat) : (p.releaseCheck b).su = p.su := by
  unfold Part.releaseCheck; dsimp only; split <;> simp
@[simp] theorem Part.releaseCheck_re (p : Part) (b : Nat) : (p.releaseCheck b).re = p.re := by
  unfold Part.releaseCheck; dsimp only; split <;> simp
@[simp] theorem Part.releaseCheck_sc (p : Part) (b : Nat) : (p.releaseCheck b).sc = p.sc := by
  unfold Part.releaseCheck; dsimp only; split <;> simp
@[simp] theorem Part.releaseCheck_mp (p : Part) (b : Nat) : (p.releaseCheck b).mp = p.mp := by
  unfold Part.releaseCheck; dsimp only; split <;> simp
@[simp] theorem Part.releaseCheck_tx (p : Part) (b : Nat) : (p.releaseCheck b).tx = p.tx := by
  unfold Part.releaseCheck; dsimp only; split <;> simp
@[simp] theorem Part.releaseCheck_store (p : Part) (b : Nat) : (p.releaseCheck b).store = p.store := by
  unfold Part.releaseCheck; dsimp only; split <;> simp
@[simp] theorem Part.releaseCheck_fresh (p : Part) (b : Nat) : (p.releaseCheck b).fresh = p.fresh := by
  unfold Part.releaseCheck; dsimp only; split <;> simp

@[simp] theorem Part.countFell_tu (p : Part) (b : Nat) : (p.countFell b).tu = p.tu := by
  unfold Part.countFell; dsimp only; split <;> simp
@[simp] theorem Part.countFell_sl (p : Part) (b : Nat) : (p.countFell b).sl = p.sl := by
  unfold Part.countFell; dsimp only; split <;> simp
@[simp] theorem Part.countFell_su (p : Part) (b : Nat) : (p.countFell b).su = p.su := by
  unfold Part.countFell; dsimp only; split <;> simp
@[simp] theorem Part.countFell_re (p : Part) (b : Nat) : (p.countFell b).re = p.re := by
  unfold Part.countFell; dsimp only; split <;> simp
@[simp] theorem Part.countFell_sc (p : Part) (b : Nat) : (p.countFell b).sc = p.sc := by
  unfold Part.countFell; dsimp only; split <;> simp
@[simp] theorem Part.countFell_mp (p : Part) (b : Nat) : (p.countFell b).mp = p.mp := by
  unfold Part.countFell; dsimp only; split <;> simp
@[simp] theorem Part.countFell_tx (p : Part) (b : Nat) : (p.countFell b).tx = p.tx := by
  unfold Part.countFell; dsimp only; split <;> simp
@[simp] theorem Part.countFell_store (p : Part) (b : Nat) : (p.countFell b).store = p.store := by
  unfold Part.countFell; dsimp only; split <;> simp
@[simp] theorem Part.countFell_fresh (p : Part) (b : Nat) : (p.countFell b).fresh = p.fresh := by
  unfold Part.countFell; dsimp only; split <;> simp

@[simp] theorem Part.loseOwner_tu (p : Part) (b : Nat) : (p.loseOwner b).tu = p.tu := by
  unfold Part.loseOwner; dsimp only; split <;> simp
@[simp] theorem Part.loseOwner_sl (p : Part) (b : Nat) : (p.loseOwner b).sl = p.sl := by
  unfold Part.loseOwner; dsimp only; split <;> simp
@[simp] theorem Part.loseOwner_sc (p : Part) (b : Nat) : (p.loseOwner b).sc = p.sc := by
  unfold Part.loseOwner; dsimp only; split <;> simp
@[simp] theorem Part.loseOwner_mp (p : Part) (b : Nat) : (p.loseOwner b).mp = p.mp := by
  unfold Part.loseOwner; dsimp only; split <;> simp
@[simp] theorem Part.loseOwner_tx (p : Part) (b : Nat) : (p.loseOwner b).tx = p.tx := by
  unfold Part.loseOwner; dsimp only; split <;> simp
@[simp] theorem Part.loseOwner_li (p : Part) (b : Nat) : (p.loseOwner b).li = p.li := by
  unfold Part.loseOwner; dsimp only; split <;> simp
@[simp] theorem Part.loseOwner_sv (p : Part) (b : Nat) : (p.loseOwner b).sv = p.sv := by
  unfold Part.loseOwner; dsimp only; split <;> simp
@[simp] theorem Part.loseOwner_store (p : Part) (b : Nat) : (p.loseOwner b).store = p.store := by
  unfold Part.loseOwner; dsimp only; split <;> simp
@[simp] theorem Part.loseOwner_notes (p : Part) (b : Nat) : (p.loseOwner b).notes = p.notes := by
  unfold Part.loseOwner; dsimp only; split <;> simp
@[simp] theorem Part.loseOwner_fresh (p : Part) (b : Nat) : (p.loseOwner b).fresh = p.fresh := by
  unfold Part.loseOwner; dsimp only; split <;> simp

@[simp] theorem Part.closeOnly_tu (p : Part) (b : Nat) : (p.closeOnly b).tu = p.tu := by
  rfl
@[simp] theorem Part.closeOnly_sl (p : Part) (b : Nat) : (p.closeOnly b).sl = p.sl := by
  rfl
@[simp] theorem Part.closeOnly_su (p : Part) (b : Nat) : (p.closeOnly b).su = p.su := by
  rfl
@[simp] theorem Part.closeOnly_re (p : Part) (b : Nat) : (p.closeOnly b).re = p.re := by
  rfl
@[simp] theorem Part.closeOnly_sc (p : Part) (b : Nat) : (p.closeOnly b).sc = p.sc := by
  rfl
@[simp] theorem Part.closeOnly_mp (p : Part) (b : Nat) : (p.closeOnly b).mp = p.mp := by
  rfl
@[simp] theorem Part.closeOnly_tx (p : Part) (b : Nat) : (p.closeOnly b).tx = p.tx := by
  rfl
@[simp] theorem Part.closeOnly_li (p : Part) (b : Nat) : (p.closeOnly b).li = p.li := by
  rfl
@[simp] theorem Part.closeOnly_sv (p : Part) (b : Nat) : (p.closeOnly b).sv = p.sv := by
  rfl
@[simp] theorem Part.closeOnly_store (p : Part) (b : Nat) : (p.closeOnly b).store = p.store := by
  rfl
@[simp] theorem Part.closeOnly_notes (p : Part) (b : Nat) : (p.closeOnly b).notes = p.notes := by
  rfl
@[simp] theorem Part.closeOnly_fresh (p : Part) (b : Nat) : (p.closeOnly b).fresh = p.fresh := by
  rfl

@[simp] theorem Part.closeBand_tu (p : Part) (b : Nat) : (p.closeBand b).tu = p.tu := by
  unfold Part.closeBand; simp
@[simp] theorem Part.closeBand_sl (p : Part) (b : Nat) : (p.closeBand b).sl = p.sl := by
  unfold Part.closeBand; simp
@[simp] theorem Part.closeBand_sc (p : Part) (b : Nat) : (p.closeBand b).sc = p.sc := by
  unfold Part.closeBand; simp
@[simp] theorem Part.closeBand_mp (p : Part) (b : Nat) : (p.closeBand b).mp = p.mp := by
  unfold Part.closeBand; simp
@[simp] theorem Part.closeBand_tx (p : Part) (b : Nat) : (p.closeBand b).tx = p.tx := by
  unfold Part.closeBand; simp
@[simp] theorem Part.closeBand_store (p : Part) (b : Nat) : (p.closeBand b).store = p.store := by
  unfold Part.closeBand; simp
@[simp] theorem Part.closeBand_fresh (p : Part) (b : Nat) : (p.closeBand b).fresh = p.fresh := by
  unfold Part.closeBand; simp

@[simp] theorem Part.closeTest_tu (p : Part) (b : Nat) : (p.closeTest b).tu = p.tu := by
  unfold Part.closeTest; dsimp only; split <;> simp
@[simp] theorem Part.closeTest_sl (p : Part) (b : Nat) : (p.closeTest b).sl = p.sl := by
  unfold Part.closeTest; dsimp only; split <;> simp
@[simp] theorem Part.closeTest_sc (p : Part) (b : Nat) : (p.closeTest b).sc = p.sc := by
  unfold Part.closeTest; dsimp only; split <;> simp
@[simp] theorem Part.closeTest_mp (p : Part) (b : Nat) : (p.closeTest b).mp = p.mp := by
  unfold Part.closeTest; dsimp only; split <;> simp
@[simp] theorem Part.closeTest_tx (p : Part) (b : Nat) : (p.closeTest b).tx = p.tx := by
  unfold Part.closeTest; dsimp only; split <;> simp
@[simp] theorem Part.closeTest_store (p : Part) (b : Nat) : (p.closeTest b).store = p.store := by
  unfold Part.closeTest; dsimp only; split <;> simp
@[simp] theorem Part.closeTest_fresh (p : Part) (b : Nat) : (p.closeTest b).fresh = p.fresh := by
  unfold Part.closeTest; dsimp only; split <;> simp

@[simp] theorem Part.releaseCheck_parked (p : Part) (b : Nat) : (p.releaseCheck b).bm.parked = p.bm.parked := by
  unfold Part.releaseCheck; dsimp only; split <;> simp
@[simp] theorem Part.releaseCheck_geom (p : Part) (b : Nat) : (p.releaseCheck b).bm.geom = p.bm.geom := by
  unfold Part.releaseCheck; dsimp only; split <;> simp
@[simp] theorem Part.releaseCheck_length (p : Part) (b : Nat) : (p.releaseCheck b).bm.bands.length = p.bm.bands.length := by
  unfold Part.releaseCheck; dsimp only; split <;> simp

@[simp] theorem Part.countFell_parked (p : Part) (b : Nat) : (p.countFell b).bm.parked = p.bm.parked := by
  unfold Part.countFell; dsimp only; split <;> simp
@[simp] theorem Part.countFell_geom (p : Part) (b : Nat) : (p.countFell b).bm.geom = p.bm.geom := by
  unfold Part.countFell; dsimp only; split <;> simp
@[simp] theorem Part.countFell_length (p : Part) (b : Nat) : (p.countFell b).bm.bands.length = p.bm.bands.length := by
  unfold Part.countFell; dsimp only; split <;> simp

/-- A band after its owner is cleared. -/
theorem Part.loseOwner_bm (p : Part) (b : Nat) :
    (p.loseOwner b).bm = { p.bm with bands := p.bm.bands.modify b fun r => { r with owner := none } } := by
  unfold Part.loseOwner; dsimp only; split <;> simp [Part.modBand, Part.modBm, modAt]

theorem Part.closeOnly_bm (p : Part) (b : Nat) : (p.closeOnly b).bm = { p.bm with
    bands := p.bm.bands.modify b fun r => { r with state := .closed, closedHour := p.hours }
    parked := p.bm.parked.map fun l => without l b } := rfl

end Sys2Proof.Machine
end

