-- ==== Sys2Proof/Laws/Frame.lean ====
section
/-! SUPPORT. What the Band Manager, the Staging Log Unit and the Event Set leave unchanged, whatever they do (Part.SameWork):
the map, the transactions, the orders, the settings, the stored setups, the ordinary messages, and of a channel all but the
band it owns. -/

set_option linter.unnecessarySeqFocus false
set_option linter.unusedTactic false
set_option linter.unusedSimpArgs false

namespace Sys2Proof.Machine

/-- A channel but for the band it owns. -/
def Chan.noBand (k : Chan) : Chan := { k with owned := none }

/-- The messages that wait in ordinary places. -/
def LinkIface.ordinary (l : LinkIface) : List Message := l.queue.filter fun m => decide (m.place = .ordinary)

/-- The bands, the log and the flags have moved on from p to q, and nothing else has. -/
structure Part.SameWork (p q : Part) : Prop where
  tx : q.tx = p.tx
  sc : q.sc = p.sc
  tu : q.tu = p.tu
  store : q.store = p.store
  fresh : q.fresh = p.fresh
  setups : q.re.setups = p.re.setups
  chans : q.re.chans.map Chan.noBand = p.re.chans.map Chan.noBand
  geom : q.bm.geom = p.bm.geom
  held : q.sl.held = p.sl.held
  mp : ∃ f r, q.mp = { p.mp with favoured := f, runCount := r }
  sv : ∃ e a d t, q.sv = { p.sv with
    events := e, alert := a, header := { p.sv.header with digest := d }, tallies := t }
  li : ∃ l g, q.li = { p.li with queue := l, gathered := g }
  ordinary : q.li.ordinary = p.li.ordinary

variable {p q r : Part}

theorem Part.SameWork.refl (p : Part) : p.SameWork p :=
  ⟨rfl, rfl, rfl, rfl, rfl, rfl, rfl, rfl, rfl, ⟨_, _, rfl⟩, ⟨_, _, _, _, rfl⟩, ⟨_, _, rfl⟩, rfl⟩

theorem Part.SameWork.trans (h : p.SameWork q) (k : q.SameWork r) : p.SameWork r := by
  obtain ⟨f, n, hm⟩ := h.mp
  obtain ⟨f', n', hm'⟩ := k.mp
  obtain ⟨e, a, d, t, hv⟩ := h.sv
  obtain ⟨e', a', d', t', hv'⟩ := k.sv
  obtain ⟨l, g, hl⟩ := h.li
  obtain ⟨l', g', hl'⟩ := k.li
  exact ⟨k.tx.trans h.tx, k.sc.trans h.sc, k.tu.trans h.tu, k.store.trans h.store, k.fresh.trans h.fresh,
    k.setups.trans h.setups, k.chans.trans h.chans, k.geom.trans h.geom, k.held.trans h.held,
    ⟨f', n', by rw [hm', hm]⟩, ⟨e', a', d', t', by rw [hv', hv]⟩, ⟨l', g', by rw [hl', hl]⟩,
    k.ordinary.trans h.ordinary⟩

theorem sameWork_foldl {α : Type} {f : Part → α → Part} (hf : ∀ q x, p.SameWork q → p.SameWork (f q x)) :
    ∀ (l : List α) {q : Part}, p.SameWork q → p.SameWork (l.foldl f q)
  | [], _, h => h
  | x :: l, _, h => sameWork_foldl hf l (hf _ x h)

@[simp] theorem sameWork_ite {c : Prop} [Decidable c] {a b : Part} (ha : p.SameWork a) (hb : p.SameWork b) :
    p.SameWork (if c then a else b) := by split <;> assumption

@[simp] theorem sameWork_modBm {f : BandManager → BandManager} (h : p.SameWork q) (hg : (f q.bm).geom = q.bm.geom) :
    p.SameWork (q.modBm f) := { h with geom := hg.trans h.geom }
@[simp] theorem sameWork_modSl {f : LogUnit → LogUnit} (h : p.SameWork q) (hh : (f q.sl).held = q.sl.held) :
    p.SameWork (q.modSl f) := { h with held := hh.trans h.held }
@[simp] theorem sameWork_modRuns {a n : Nat} {f : Run → Run} (h : p.SameWork q) : p.SameWork (q.modRuns a n f) :=
  { h with }

/-- A change of the band a channel owns. -/
theorem sameWork_owned {c : Nat} {b : Option Nat} (h : p.SameWork q) :
    p.SameWork (q.modChan c fun k => { k with owned := b }) := by
  refine { h with chans := Eq.trans ?_ h.chans }
  simp only [Part.modChan, Part.modRe_re, modAt]
  apply List.ext_getElem
  · simp
  · intro i h1 h2
    simp only [List.getElem_map, List.getElem_modify]
    split <;> rfl

@[simp] theorem sameWork_modSu {f : List Stream → List Stream} (h : p.SameWork q) : p.SameWork (q.modSu f) := { h with }
@[simp] theorem sameWork_note {n : Note} (h : p.SameWork q) : p.SameWork (q.note n) := { h with }
@[simp] theorem sameWork_modBand {b : Nat} {f : Band → Band} (h : p.SameWork q) : p.SameWork (q.modBand b f) := { h with }
@[simp] theorem sameWork_modStream {i : Nat} {f : Stream → Stream} (h : p.SameWork q) : p.SameWork (q.modStream i f) := { h with }
@[simp] theorem sameWork_modParked {c : Nat} {f : List Nat → List Nat} (h : p.SameWork q) : p.SameWork (q.modParked c f) := { h with }
@[simp] theorem sameWork_pinBand {b : Nat} (h : p.SameWork q) : p.SameWork (q.pinBand b) := { h with }
@[simp] theorem sameWork_unpark {b : Nat} (h : p.SameWork q) : p.SameWork (q.unpark b) := { h with }
@[simp] theorem sameWork_closeOnly {b : Nat} (h : p.SameWork q) : p.SameWork (q.closeOnly b) := { h with }
@[simp] theorem sameWork_takeVictim {b : Nat} (h : p.SameWork q) : p.SameWork (q.takeVictim b) := { h with }
@[simp] theorem sameWork_pinRuns {a n : Nat} (h : p.SameWork q) : p.SameWork (q.pinRuns a n) := { h with }
@[simp] theorem sameWork_holdRuns {a n : Nat} (h : p.SameWork q) : p.SameWork (q.holdRuns a n) := { h with }
@[simp] theorem sameWork_starve {i : Nat} (h : p.SameWork q) : p.SameWork (q.starve i) := { h with }
@[simp] theorem sameWork_openStream {i c t v l : Nat} (h : p.SameWork q) : p.SameWork (q.openStream i c t v l) := { h with }

/-! ### The Event Set and the tallies -/

/-- A NOTICE takes no ordinary place and moves none. -/
theorem ordinary_announce (l : LinkIface) (f : EventBits) : (l.announce f).ordinary = l.ordinary ∧
    ∃ x g, l.announce f = { l with queue := x, gathered := g } := by
  have hput : ∀ l : LinkIface, (l.put { tag := 0, place := .notice, payload := .notice f }).ordinary = l.ordinary := by
    intro l; simp [LinkIface.put, LinkIface.ordinary]
  have hplace : ∀ m : Message, (m.merge f).place = m.place := by
    intro m; unfold Message.merge; split <;> rfl
  have hmap : ∀ x : List Message, (x.map fun m => if m.isNotice then m.merge f else m).filter
      (fun m => decide (m.place = .ordinary)) = x.filter fun m => decide (m.place = .ordinary) := by
    intro x
    induction x with
    | nil => rfl
    | cons m x ih =>
      rw [List.map_cons, List.filter_cons, List.filter_cons, ih]
      by_cases hm : m.isNotice = true
      · have : m.place = .notice := by simpa [Message.isNotice] using hm
        simp [hm, hplace, this]
      · simp [hm]
  unfold LinkIface.announce
  split
  · exact ⟨hput l, _, _, rfl⟩
  · rename_i m rest hq
    split
    · exact ⟨rfl, _, _, rfl⟩
    · split
      · refine ⟨?_, _, _, rfl⟩
        unfold LinkIface.ordinary
        rw [hq]; exact hmap _
      · exact ⟨hput l, _, _, rfl⟩

@[simp] theorem sameWork_announce {f : EventBits} (h : p.SameWork q) : p.SameWork (q.announce f) := by
  unfold Part.announce
  split
  · exact h
  · obtain ⟨ho, x, g, hx⟩ := ordinary_announce q.li f
    obtain ⟨l, g', hl⟩ := h.li
    exact { h with
      li := ⟨x, g, by rw [Part.modLi_li, hx, hl]⟩
      ordinary := by rw [Part.modLi_li, ho]; exact h.ordinary }

@[simp] theorem sameWork_raise {f : EventBits} (h : p.SameWork q) : p.SameWork (q.raise f) := by
  unfold Part.raise
  refine sameWork_announce ?_
  obtain ⟨e, a, d, t, hv⟩ := h.sv
  exact { h with sv := ⟨e ||| f, alertLevel (e ||| f) p.sv.mask, d, t, by
    rw [Part.modSv_sv, hv]; rfl⟩ }

@[simp] theorem sameWork_clearEvents {f : EventBits} (h : p.SameWork q) : p.SameWork (q.clearEvents f) := by
  obtain ⟨e, a, d, t, hv⟩ := h.sv
  exact { h with sv := ⟨e &&& ~~~f, alertLevel (e &&& ~~~f) p.sv.mask, d, t, by
    unfold Part.clearEvents; rw [Part.modSv_sv, hv]; rfl⟩ }

@[simp] theorem sameWork_count {c : Nat} {f : Tally → Tally} (h : p.SameWork q) : p.SameWork (q.count c f) := by
  obtain ⟨e, a, d, t, hv⟩ := h.sv
  exact { h with sv := ⟨e, a, d, modAt t (q.classRec c).slot f, by
    unfold Part.count; rw [Part.modSv_sv, hv]⟩ }

@[simp] theorem sameWork_mediaFault {o : Order} {f : EventBits} (h : p.SameWork q) : p.SameWork (q.mediaFault o f) := by
  unfold Part.mediaFault
  (repeat' split) <;> first | with_reducible exact h | simp (maxDischargeDepth := 99) [h]

/-! ### The Band Manager -/

@[simp] theorem sameWork_retireTracks {l : List Nat} (h : p.SameWork q) : p.SameWork (q.retireTracks l) := by
  obtain ⟨e, a, d, t, hv⟩ := h.sv
  unfold Part.retireTracks
  dsimp only
  split
  · exact h
  · exact { h with
      geom := h.geom
      sv := ⟨e, a, (q.modBm fun m => { m with retired := l.foldl (fun l t => insertAsc t l) q.bm.retired }).digest, t, by
        unfold Part.rewriteDigest
        simp only [Part.modSv_sv, Part.modBm_sv, hv]⟩ }

@[simp] theorem sameWork_reportFree {n : Nat} (h : p.SameWork q) : p.SameWork (q.reportFree n) := by
  unfold Part.reportFree
  dsimp only
  (repeat' split) <;> first | with_reducible exact h | simp (maxDischargeDepth := 99) [h]

@[simp] theorem sameWork_tellLoss {r : Requester} (h : p.SameWork q) : p.SameWork (q.tellLoss r) := by
  cases r
  · exact sameWork_modStream h
  · exact sameWork_owned h

@[simp] theorem sameWork_loseOwner {b : Nat} (h : p.SameWork q) : p.SameWork (q.loseOwner b) := by
  unfold Part.loseOwner
  dsimp only
  (repeat' split) <;> first | with_reducible exact h | simp (maxDischargeDepth := 99) [h]

@[simp] theorem sameWork_give {b : Nat} {r : Requester} (h : p.SameWork q) : p.SameWork (q.give b r) := by
  cases r
  · exact sameWork_modStream (sameWork_modBand h)
  · exact sameWork_owned (sameWork_modBand h)

@[simp] theorem sameWork_rewind {b : Nat} (h : p.SameWork q) : p.SameWork (q.rewind b) := by
  unfold Part.rewind
  dsimp only
  split
  · exact sameWork_raise (sameWork_retireTracks (sameWork_modBm (sameWork_modBand h) rfl))
  · exact sameWork_reportFree (sameWork_modBand h)

@[simp] theorem sameWork_releaseCheck {b : Nat} (h : p.SameWork q) : p.SameWork (q.releaseCheck b) := by
  unfold Part.releaseCheck
  dsimp only
  (repeat' split) <;> first | with_reducible exact h | simp (maxDischargeDepth := 99) [h]

@[simp] theorem sameWork_countFell {b : Nat} (h : p.SameWork q) : p.SameWork (q.countFell b) := by
  unfold Part.countFell
  dsimp only
  (repeat' split) <;> first | with_reducible exact h | simp (maxDischargeDepth := 99) [h]

@[simp] theorem sameWork_dropCount {b : Nat} {f : Band → Band} (h : p.SameWork q) : p.SameWork (q.dropCount b f) := by
  unfold Part.dropCount
  (repeat' split) <;> first | with_reducible exact h | simp (maxDischargeDepth := 99) [h]

@[simp] theorem sameWork_unpinBand {b : Nat} (h : p.SameWork q) : p.SameWork (q.unpinBand b) := by
  unfold Part.unpinBand
  (repeat' split) <;> first | with_reducible exact h | simp (maxDischargeDepth := 99) [h]

@[simp] theorem sameWork_landBand {b : Nat} (h : p.SameWork q) : p.SameWork (q.landBand b) := by
  unfold Part.landBand
  (repeat' split) <;> first | with_reducible exact h | simp (maxDischargeDepth := 99) [h]

@[simp] theorem sameWork_closeBand {b : Nat} (h : p.SameWork q) : p.SameWork (q.closeBand b) := by
  unfold Part.closeBand
  (repeat' split) <;> first | with_reducible exact h | simp (maxDischargeDepth := 99) [h]

@[simp] theorem sameWork_closeTest {b : Nat} (h : p.SameWork q) : p.SameWork (q.closeTest b) := by
  unfold Part.closeTest
  dsimp only
  (repeat' split) <;> first | with_reducible exact h | simp (maxDischargeDepth := 99) [h]

@[simp] theorem sameWork_bindSuspect {b : Nat} (h : p.SameWork q) : p.SameWork (q.bindSuspect b) := by
  unfold Part.bindSuspect
  (repeat' split) <;> first | with_reducible exact h | simp (maxDischargeDepth := 99) [h]

@[simp] theorem sameWork_bandError {b : Nat} (h : p.SameWork q) : p.SameWork (q.bandError b) := by
  unfold Part.bandError
  dsimp only
  (repeat' split) <;> first | with_reducible exact h | simp (maxDischargeDepth := 99) [h]

@[simp] theorem sameWork_orderError {o : Order} (h : p.SameWork q) : p.SameWork (q.orderError o) := by
  unfold Part.orderError
  (repeat' split) <;> first | with_reducible exact h | simp (maxDischargeDepth := 99) [h]

@[simp] theorem sameWork_returnOnly {b : Nat} (h : p.SameWork q) : p.SameWork (q.returnOnly b) := by
  unfold Part.returnOnly
  (repeat' split) <;> first | with_reducible exact h | simp (maxDischargeDepth := 99) [h]

@[simp] theorem sameWork_returnVictim {b : Nat} (h : p.SameWork q) : p.SameWork (q.returnVictim b) := by
  unfold Part.returnVictim
  (repeat' split) <;> first | with_reducible exact h | simp (maxDischargeDepth := 99) [h]

theorem sameWork_bandRequest {r : Requester} {c : Nat} (h : p.SameWork q) : p.SameWork (q.bandRequest r c).2 := by
  unfold Part.bandRequest
  (repeat' split) <;> simp (maxDischargeDepth := 99) [*]

theorem sameWork_reserve {r : Requester} {b n : Nat} (h : p.SameWork q) : p.SameWork (q.reserve r b n).2.2 := by
  unfold Part.reserve
  dsimp only
  (repeat' split) <;> simp (maxDischargeDepth := 99) [*]

theorem sameWork_joinParked {b : Nat} {f : Part → Nat → Part} (hf : ∀ q b, p.SameWork q → p.SameWork (f q b))
    (h : p.SameWork q) : p.SameWork (q.joinParked b f) := by
  unfold Part.joinParked
  dsimp only
  refine sameWork_note (sameWork_modParked (sameWork_modBand ?_))
  split
  · split
    · exact hf _ _ h
    · exact h
  · exact h

theorem sameWork_dispose {b : Nat} {f : Part → Nat → Part} (hf : ∀ q b, p.SameWork q → p.SameWork (f q b))
    (h : p.SameWork q) : p.SameWork (q.dispose b f) := by
  unfold Part.dispose
  split
  · simp [h]
  split
  · exact hf _ _ h
  · exact sameWork_joinParked hf h

@[simp] theorem sameWork_park {b : Nat} {t : TailPolicy} (h : p.SameWork q) : p.SameWork (q.park b t).2 := by
  unfold Part.park
  dsimp only
  split
  · exact sameWork_dispose (fun _ _ h => sameWork_closeBand h) (by simp (maxDischargeDepth := 99) [h])
  · exact h

@[simp] theorem sameWork_parkTallied {b : Nat} {t : TailPolicy} (h : p.SameWork q) :
    p.SameWork (q.parkTallied b t).2 := by
  simp [Part.parkTallied, h]

/-! ### The Staging Log Unit -/

@[simp] theorem sameWork_levelChecks {o : Part} (h : p.SameWork q) : p.SameWork (q.levelChecks o) := by
  unfold Part.levelChecks
  dsimp only
  have h1 : p.SameWork (if (!o.fillHigh && q.fillHigh) = true then q.raise evStageHigh else q) := by
    simp (maxDischargeDepth := 99) [h]
  have h2 : p.SameWork (if o.demandHigh = q.demandHigh then
      (if (!o.fillHigh && q.fillHigh) = true then q.raise evStageHigh else q) else
      (if (!o.fillHigh && q.fillHigh) = true then q.raise evStageHigh else q).note
        (.demand o.demandHigh q.demandHigh)) := sameWork_ite h1 (sameWork_note h1)
  refine sameWork_ite h2 ?_
  obtain ⟨f, n, hm⟩ := h2.mp
  exact { h2 with mp := ⟨laneFor q.urgent, 0, by rw [Part.modMp_mp, hm]⟩ }

@[simp] theorem sameWork_append {l : List StagedPart} {a c : Nat} (h : p.SameWork q) : p.SameWork (q.append l a c) := by
  unfold Part.append
  dsimp only
  exact sameWork_levelChecks (sameWork_note (sameWork_modSl h rfl))

@[simp] theorem sameWork_tailCheck (h : p.SameWork q) : p.SameWork (q.tailCheck) := by
  unfold Part.tailCheck
  dsimp only
  split
  · exact h
  · exact sameWork_levelChecks (sameWork_note (sameWork_modSl h rfl))

@[simp] theorem sameWork_freeRuns {a n : Nat} {g : Run → Bool} {f : Run → Run} (h : p.SameWork q) :
    p.SameWork (q.freeRuns a n g f) := by
  unfold Part.freeRuns
  split <;> simp (maxDischargeDepth := 99) [h]

@[simp] theorem sameWork_unpinRuns {a n : Nat} (h : p.SameWork q) : p.SameWork (q.unpinRuns a n) := by
  unfold Part.unpinRuns
  exact sameWork_freeRuns h

@[simp] theorem sameWork_unholdRuns {a n : Nat} (h : p.SameWork q) : p.SameWork (q.unholdRuns a n) := by
  unfold Part.unholdRuns
  exact sameWork_freeRuns h

@[simp] theorem sameWork_landRuns {a n : Nat} (h : p.SameWork q) : p.SameWork (q.landRuns a n) := by
  unfold Part.landRuns
  dsimp only
  split <;> simp (maxDischargeDepth := 99) [h]

@[simp] theorem sameWork_pin {l : Place} {n : Nat} (h : p.SameWork q) : p.SameWork (q.pin l n) := by
  unfold Part.pin
  (repeat' split) <;> first | with_reducible exact h | simp (maxDischargeDepth := 99) [h]

@[simp] theorem sameWork_unpin {l : Place} {n : Nat} (h : p.SameWork q) : p.SameWork (q.unpin l n) := by
  unfold Part.unpin
  (repeat' split) <;> first | with_reducible exact h | simp (maxDischargeDepth := 99) [h]

@[simp] theorem sameWork_land {l : Place} {n : Nat} (h : p.SameWork q) : p.SameWork (q.land l n) := by
  unfold Part.land
  (repeat' split) <;> first | with_reducible exact h | simp (maxDischargeDepth := 99) [h]

@[simp] theorem sameWork_loseBlocks {x : Place × Nat} (h : p.SameWork q) : p.SameWork (q.loseBlocks x) := by
  unfold Part.loseBlocks
  (repeat' split) <;> first | with_reducible exact h | simp (maxDischargeDepth := 99) [h]

@[simp] theorem sameWork_gainBlocks {x : Place × Nat} (h : p.SameWork q) : p.SameWork (q.gainBlocks x) := by
  unfold Part.gainBlocks
  (repeat' split) <;> first | with_reducible exact h | simp (maxDischargeDepth := 99) [h]

@[simp] theorem sameWork_mapHighCheck {n : Nat} (h : p.SameWork q) : p.SameWork (q.mapHighCheck n) := by
  unfold Part.mapHighCheck
  (repeat' split) <;> first | with_reducible exact h | simp (maxDischargeDepth := 99) [h]

@[simp] theorem sameWork_reportRise {o : Part} {b : Nat} (h : p.SameWork q) : p.SameWork (q.reportRise o b) := by
  unfold Part.reportRise
  (repeat' split) <;> first | with_reducible exact h | simp (maxDischargeDepth := 99) [h]

@[simp] theorem sameWork_updateChecks {l : List Nat} {t : Bool} (h : p.SameWork q) : p.SameWork (q.updateChecks l t) := by
  unfold Part.updateChecks
  have := sameWork_foldl (f := Part.countFell) (fun _ _ h => sameWork_countFell h) l h
  dsimp only
  split <;> simp [this]

/-! ### Streams -/

theorem sameWork_divideSteps {i c : Nat} : ∀ (n : Nat) {q : Part} {d : Division}, p.SameWork q →
    p.SameWork (Part.divideSteps i c n q d).2
  | 0, _, _, h => h
  | n + 1, q, d, h => by
    unfold Part.divideSteps
    split
    · exact h
    · split
      · rename_i he
        have h1 := congrArg (fun x => p.SameWork x.2) he
        simp only [sameWork_bandRequest h, eq_iff_iff, true_iff] at h1
        exact sameWork_starve h1
      · rename_i he
        have h1 := congrArg (fun x => p.SameWork x.2) he
        simp only [sameWork_bandRequest h, eq_iff_iff, true_iff] at h1
        dsimp only
        split
        · exact sameWork_starve (sameWork_reserve h1)
        · exact sameWork_divideSteps n (sameWork_reserve h1)

@[simp] theorem sameWork_divide {a : PlaceArgs} {c : Nat} (h : p.SameWork q) : p.SameWork (q.divide a c).2 := by
  unfold Part.divide
  dsimp only
  split
  · exact sameWork_divideSteps _ h
  · exact h

@[simp] theorem sameWork_closeStream {i : Nat} (h : p.SameWork q) : p.SameWork (q.closeStream i).2.2 := by
  unfold Part.closeStream
  dsimp only
  (repeat' split) <;> simp (maxDischargeDepth := 99) [*]

@[simp] theorem sameWork_streamAdmitted {a : PlaceArgs} {x : Attrs} {d : Division} (h : p.SameWork q) : p.SameWork (q.streamAdmitted a x d) := by
  unfold Part.streamAdmitted
  (repeat' split) <;> first | with_reducible exact h | simp (maxDischargeDepth := 99) [h]

@[simp] theorem sameWork_streamExpired {i : Nat} (h : p.SameWork q) : p.SameWork (q.streamExpired i) := by
  unfold Part.streamExpired
  dsimp only
  (repeat' split) <;> first | with_reducible exact h | simp (maxDischargeDepth := 99) [h]

end Sys2Proof.Machine
end

