-- ==== Sys2Proof/Laws/Kept.lean ====
section
/-! SUPPORT. One lemma for each shared operation of the part: it keeps the Order Queue within its bounds and ALERT at
the level of the Event Set (Part.Kept). An operation that changes neither needs nothing more; raise, clearEvents,
setMask, joinOne, withdraw, issue, sendCancel and the resets do the rest. -/

set_option linter.unnecessarySeqFocus false
set_option linter.unusedTactic false
set_option linter.unusedSimpArgs false

namespace Sys2Proof.Machine

/-- The Order Queue is within its bounds and ALERT stands at the level of the Event Set. -/
structure Part.Kept (p : Part) : Prop where
  alert : p.AlertOk
  orders : OrderQueueOk p.mp.orders

variable {p q : Part}

/-! ### Updates of the blocks -/

theorem Part.Kept.of_eq (h : p.Kept) (ho : q.mp.orders = p.mp.orders) (he : q.sv.events = p.sv.events)
    (hm : q.sv.mask = p.sv.mask) (ha : q.sv.alert = p.sv.alert) : q.Kept :=
  ⟨by have := h.alert; unfold Part.AlertOk at *; rw [he, hm, ha]; exact this, by rw [ho]; exact h.orders⟩

@[simp] theorem kept_ite {c : Prop} [Decidable c] (hp : p.Kept) (hq : q.Kept) : (if c then p else q).Kept := by
  split <;> assumption

theorem kept_foldl {α : Type} {f : Part → α → Part} (hf : ∀ q x, Part.Kept q → (f q x).Kept) :
    ∀ (l : List α) {p : Part}, p.Kept → (l.foldl f p).Kept
  | [], _, h => h
  | x :: l, _, h => kept_foldl hf l (hf _ x h)

@[simp] theorem kept_modSv {f : Supervisor → Supervisor} (h : p.Kept) (he : (f p.sv).events = p.sv.events)
    (hm : (f p.sv).mask = p.sv.mask) (ha : (f p.sv).alert = p.sv.alert) : (p.modSv f).Kept := h.of_eq rfl he hm ha
@[simp] theorem kept_modMp {f : MediaPort → MediaPort} (h : p.Kept) (ho : (f p.mp).orders = p.mp.orders) :
    (p.modMp f).Kept := h.of_eq ho rfl rfl rfl

@[simp] theorem kept_modBm {f : BandManager → BandManager} (h : p.Kept) : (p.modBm f).Kept := h.of_eq rfl rfl rfl rfl
@[simp] theorem kept_modTu {f : TransUnit → TransUnit} (h : p.Kept) : (p.modTu f).Kept := h.of_eq rfl rfl rfl rfl
@[simp] theorem kept_modSl {f : LogUnit → LogUnit} (h : p.Kept) : (p.modSl f).Kept := h.of_eq rfl rfl rfl rfl
@[simp] theorem kept_modSu {f : List Stream → List Stream} (h : p.Kept) : (p.modSu f).Kept := h.of_eq rfl rfl rfl rfl
@[simp] theorem kept_modRe {f : RelocEngine → RelocEngine} (h : p.Kept) : (p.modRe f).Kept := h.of_eq rfl rfl rfl rfl
@[simp] theorem kept_modSc {f : ScoringUnit → ScoringUnit} (h : p.Kept) : (p.modSc f).Kept := h.of_eq rfl rfl rfl rfl
@[simp] theorem kept_modTx {f : TxnUnit → TxnUnit} (h : p.Kept) : (p.modTx f).Kept := h.of_eq rfl rfl rfl rfl
@[simp] theorem kept_modLi {f : LinkIface → LinkIface} (h : p.Kept) : (p.modLi f).Kept := h.of_eq rfl rfl rfl rfl
@[simp] theorem kept_modStore {f : Store → Store} (h : p.Kept) : (p.modStore f).Kept := h.of_eq rfl rfl rfl rfl
@[simp] theorem kept_note {n : Note} (h : p.Kept) : (p.note n).Kept := h.of_eq rfl rfl rfl rfl
@[simp] theorem kept_noNotes (h : p.Kept) : (p.noNotes).Kept := h.of_eq rfl rfl rfl rfl
@[simp] theorem kept_modBand {b : Nat} {f : Band → Band} (h : p.Kept) : (p.modBand b f).Kept := h.of_eq rfl rfl rfl rfl
@[simp] theorem kept_modStream {i : Nat} {f : Stream → Stream} (h : p.Kept) : (p.modStream i f).Kept := h.of_eq rfl rfl rfl rfl
@[simp] theorem kept_modChan {c : Nat} {f : Chan → Chan} (h : p.Kept) : (p.modChan c f).Kept := h.of_eq rfl rfl rfl rfl
@[simp] theorem kept_modSetup {c : Nat} {f : ChanSetup → ChanSetup} (h : p.Kept) : (p.modSetup c f).Kept := h.of_eq rfl rfl rfl rfl
@[simp] theorem kept_modParked {c : Nat} {f : List Nat → List Nat} (h : p.Kept) : (p.modParked c f).Kept := h.of_eq rfl rfl rfl rfl
@[simp] theorem kept_modTxn {t : Nat} {f : Txn → Txn} (h : p.Kept) : (p.modTxn t f).Kept := h.of_eq rfl rfl rfl rfl
@[simp] theorem kept_modRemap {b o : Nat} {f : Remap → Remap} (h : p.Kept) : (p.modRemap b o f).Kept := h.of_eq rfl rfl rfl rfl
@[simp] theorem kept_modRuns {a n : Nat} {f : Run → Run} (h : p.Kept) : (p.modRuns a n f).Kept := h.of_eq rfl rfl rfl rfl
@[simp] theorem kept_follow {f : Follow} (h : p.Kept) : (p.follow f).Kept := h.of_eq rfl rfl rfl rfl
@[simp] theorem kept_modDevice {d : DeviceState} (h : p.Kept) : (p.modDevice d).Kept := h.of_eq rfl rfl rfl rfl
@[simp] theorem kept_say {m : Message} (h : p.Kept) : (p.say m).Kept := h.of_eq rfl rfl rfl rfl
@[simp] theorem kept_sayHeld {m : Message} (h : p.Kept) : (p.sayHeld m).Kept := h.of_eq rfl rfl rfl rfl
@[simp] theorem kept_holdPlaces {n : Nat} (h : p.Kept) : (p.holdPlaces n).Kept := h.of_eq rfl rfl rfl rfl
@[simp] theorem kept_beginSending (h : p.Kept) : (p.beginSending).Kept := h.of_eq rfl rfl rfl rfl
@[simp] theorem kept_count {c : Nat} {f : Tally → Tally} (h : p.Kept) : (p.count c f).Kept := h.of_eq rfl rfl rfl rfl
@[simp] theorem kept_pinBand {b : Nat} (h : p.Kept) : (p.pinBand b).Kept := h.of_eq rfl rfl rfl rfl
@[simp] theorem kept_unpark {b : Nat} (h : p.Kept) : (p.unpark b).Kept := h.of_eq rfl rfl rfl rfl
@[simp] theorem kept_closeOnly {b : Nat} (h : p.Kept) : (p.closeOnly b).Kept := h.of_eq rfl rfl rfl rfl
@[simp] theorem kept_takeVictim {b : Nat} (h : p.Kept) : (p.takeVictim b).Kept := h.of_eq rfl rfl rfl rfl
@[simp] theorem kept_clearBandCounts (h : p.Kept) : (p.clearBandCounts).Kept := h.of_eq rfl rfl rfl rfl
@[simp] theorem kept_pinRuns {a n : Nat} (h : p.Kept) : (p.pinRuns a n).Kept := h.of_eq rfl rfl rfl rfl
@[simp] theorem kept_holdRuns {a n : Nat} (h : p.Kept) : (p.holdRuns a n).Kept := h.of_eq rfl rfl rfl rfl
@[simp] theorem kept_releaseReserve {n : Nat} (h : p.Kept) : (p.releaseReserve n).Kept := h.of_eq rfl rfl rfl rfl
@[simp] theorem kept_modPlacePiece {t i : Nat} {f : Piece → Piece} (h : p.Kept) : (p.modPlacePiece t i f).Kept := h.of_eq rfl rfl rfl rfl
@[simp] theorem kept_modPiece {c i : Nat} {f : CopyPiece → CopyPiece} (h : p.Kept) : (p.modPiece c i f).Kept := h.of_eq rfl rfl rfl rfl
@[simp] theorem kept_addTxn {t : Txn} (h : p.Kept) : (p.addTxn t).Kept := h.of_eq rfl rfl rfl rfl
@[simp] theorem kept_starve {i : Nat} (h : p.Kept) : (p.starve i).Kept := h.of_eq rfl rfl rfl rfl
@[simp] theorem kept_countRefused (h : p.Kept) : (p.countRefused).Kept := h.of_eq rfl rfl rfl rfl
@[simp] theorem kept_clearChannels (h : p.Kept) : (p.clearChannels).Kept := h.of_eq rfl rfl rfl rfl
@[simp] theorem kept_startDigestTimer (h : p.Kept) : (p.startDigestTimer).Kept := h.of_eq rfl rfl rfl rfl
@[simp] theorem kept_formatHeader (h : p.Kept) : (p.formatHeader).Kept := h.of_eq rfl rfl rfl rfl
@[simp] theorem kept_markDone {u : Nat} (h : p.Kept) : (p.markDone u).Kept := h.of_eq rfl rfl rfl rfl
@[simp] theorem kept_openStream {i c t v l : Nat} (h : p.Kept) : (p.openStream i c t v l).Kept := h.of_eq rfl rfl rfl rfl
@[simp] theorem kept_rewriteDigest (h : p.Kept) : (p.rewriteDigest).Kept := h.of_eq rfl rfl rfl rfl
@[simp] theorem kept_retireTracks {l : List Nat} (h : p.Kept) : (p.retireTracks l).Kept := by
  unfold Part.retireTracks
  dsimp only
  split
  · exact h
  · exact h.of_eq rfl rfl rfl rfl
@[simp] theorem kept_dropFollows (h : p.Kept) : (p.dropFollows).Kept := h.of_eq rfl rfl rfl rfl

/-! ### The Event Set (R186) -/

@[simp] theorem kept_announce {f : EventBits} (h : p.Kept) : (p.announce f).Kept := by
  unfold Part.announce; split <;> simp [h]

@[simp] theorem kept_raise {f : EventBits} (h : p.Kept) : (p.raise f).Kept :=
  kept_announce ⟨rfl, h.orders⟩

@[simp] theorem kept_clearEvents {f : EventBits} (h : p.Kept) : (p.clearEvents f).Kept := ⟨rfl, h.orders⟩

@[simp] theorem kept_setMask {f : EventBits} (h : p.Kept) : (p.setMask f).Kept :=
  kept_announce ⟨rfl, h.orders⟩

/-! ### The Band Manager (Chapter 2) -/

@[simp] theorem kept_reportFree {n : Nat} (h : p.Kept) : (p.reportFree n).Kept := by
  unfold Part.reportFree
  dsimp only
  (repeat' split) <;> first | with_reducible exact h | simp (maxDischargeDepth := 99) [h]

@[simp] theorem kept_tellLoss {r : Requester} (h : p.Kept) : (p.tellLoss r).Kept := by
  cases r <;> simp [Part.tellLoss, h]

@[simp] theorem kept_loseOwner {b : Nat} (h : p.Kept) : (p.loseOwner b).Kept := by
  unfold Part.loseOwner
  dsimp only
  (repeat' split) <;> first | with_reducible exact h | simp (maxDischargeDepth := 99) [h]

@[simp] theorem kept_give {b : Nat} {r : Requester} (h : p.Kept) : (p.give b r).Kept := by
  cases r <;> simp (maxDischargeDepth := 99) [Part.give, h]

@[simp] theorem kept_rewind {b : Nat} (h : p.Kept) : (p.rewind b).Kept := by
  unfold Part.rewind
  dsimp only
  (repeat' split) <;> first | with_reducible exact h | simp (maxDischargeDepth := 99) [h]

@[simp] theorem kept_releaseCheck {b : Nat} (h : p.Kept) : (p.releaseCheck b).Kept := by
  unfold Part.releaseCheck
  dsimp only
  (repeat' split) <;> first | with_reducible exact h | simp (maxDischargeDepth := 99) [h]

@[simp] theorem kept_countFell {b : Nat} (h : p.Kept) : (p.countFell b).Kept := by
  unfold Part.countFell
  dsimp only
  (repeat' split) <;> first | with_reducible exact h | simp (maxDischargeDepth := 99) [h]

@[simp] theorem kept_dropCount {b : Nat} {f : Band → Band} (h : p.Kept) : (p.dropCount b f).Kept := by
  unfold Part.dropCount
  (repeat' split) <;> first | with_reducible exact h | simp (maxDischargeDepth := 99) [h]

@[simp] theorem kept_unpinBand {b : Nat} (h : p.Kept) : (p.unpinBand b).Kept := by
  unfold Part.unpinBand
  (repeat' split) <;> first | with_reducible exact h | simp (maxDischargeDepth := 99) [h]

@[simp] theorem kept_landBand {b : Nat} (h : p.Kept) : (p.landBand b).Kept := by
  unfold Part.landBand
  (repeat' split) <;> first | with_reducible exact h | simp (maxDischargeDepth := 99) [h]

@[simp] theorem kept_closeBand {b : Nat} (h : p.Kept) : (p.closeBand b).Kept := by
  unfold Part.closeBand
  (repeat' split) <;> first | with_reducible exact h | simp (maxDischargeDepth := 99) [h]

@[simp] theorem kept_closeTest {b : Nat} (h : p.Kept) : (p.closeTest b).Kept := by
  unfold Part.closeTest
  dsimp only
  (repeat' split) <;> first | with_reducible exact h | simp (maxDischargeDepth := 99) [h]

@[simp] theorem kept_bindSuspect {b : Nat} (h : p.Kept) : (p.bindSuspect b).Kept := by
  unfold Part.bindSuspect
  (repeat' split) <;> first | with_reducible exact h | simp (maxDischargeDepth := 99) [h]

@[simp] theorem kept_bandError {b : Nat} (h : p.Kept) : (p.bandError b).Kept := by
  unfold Part.bandError
  dsimp only
  (repeat' split) <;> first | with_reducible exact h | simp (maxDischargeDepth := 99) [h]

@[simp] theorem kept_returnOnly {b : Nat} (h : p.Kept) : (p.returnOnly b).Kept := by
  unfold Part.returnOnly
  (repeat' split) <;> first | with_reducible exact h | simp (maxDischargeDepth := 99) [h]

@[simp] theorem kept_returnVictim {b : Nat} (h : p.Kept) : (p.returnVictim b).Kept := by
  unfold Part.returnVictim
  (repeat' split) <;> first | with_reducible exact h | simp (maxDischargeDepth := 99) [h]

theorem kept_bandRequest {r : Requester} {c : Nat} (h : p.Kept) : (p.bandRequest r c).2.Kept := by
  unfold Part.bandRequest
  (repeat' split) <;> simp (maxDischargeDepth := 99) [*]

theorem kept_reserve {r : Requester} {b n : Nat} (h : p.Kept) : (p.reserve r b n).2.2.Kept := by
  unfold Part.reserve
  dsimp only
  (repeat' split) <;> simp (maxDischargeDepth := 99) [*]

theorem kept_joinParked {b : Nat} {f : Part → Nat → Part} (hf : ∀ q b, Part.Kept q → (f q b).Kept) (h : p.Kept) :
    (p.joinParked b f).Kept := by
  unfold Part.joinParked
  dsimp only
  refine kept_note (kept_modParked (kept_modBand ?_))
  split
  · split
    · exact hf _ _ h
    · exact h
  · exact h

theorem kept_dispose {b : Nat} {f : Part → Nat → Part} (hf : ∀ q b, Part.Kept q → (f q b).Kept) (h : p.Kept) :
    (p.dispose b f).Kept := by
  unfold Part.dispose
  split
  · simp [h]
  split
  · exact hf _ _ h
  · exact kept_joinParked hf h

@[simp] theorem kept_park {b : Nat} {t : TailPolicy} (h : p.Kept) : (p.park b t).2.Kept := by
  unfold Part.park
  dsimp only
  split
  · exact kept_dispose (fun _ _ h => kept_closeBand h) (by simp (maxDischargeDepth := 99) [h])
  · exact h

@[simp] theorem kept_parkTallied {b : Nat} {t : TailPolicy} (h : p.Kept) : (p.parkTallied b t).2.Kept := by
  simp [Part.parkTallied, h]

@[simp] theorem kept_resetPark {b : Nat} (h : p.Kept) : (p.resetPark b).Kept := by
  unfold Part.resetPark
  split
  · exact kept_dispose (fun _ _ h => kept_closeOnly h) h
  · exact h

@[simp] theorem kept_resetReturn {b : Nat} (h : p.Kept) : (p.resetReturn b).Kept := by
  unfold Part.resetReturn
  (repeat' split) <;> first | with_reducible exact h | simp (maxDischargeDepth := 99) [h]

@[simp] theorem kept_resetRelease {b : Nat} (h : p.Kept) : (p.resetRelease b).Kept := by
  unfold Part.resetRelease
  dsimp only
  (repeat' split) <;> first | with_reducible exact h | simp (maxDischargeDepth := 99) [h]

@[simp] theorem kept_bandResetSteps (h : p.Kept) : (p.bandResetSteps).Kept := by
  unfold Part.bandResetSteps
  dsimp only
  exact kept_foldl (fun _ _ h => kept_resetRelease h) _ (kept_foldl (fun _ _ h => kept_resetReturn h) _
    (kept_foldl (fun _ _ h => kept_resetPark h) _ (kept_clearBandCounts h)))

/-! ### The Staging Log Unit (Chapter 5) -/

@[simp] theorem kept_levelChecks {o : Part} (h : p.Kept) : (p.levelChecks o).Kept := by
  unfold Part.levelChecks
  dsimp only
  (repeat' split) <;> first
    | simp (maxDischargeDepth := 99) [h]
    | exact kept_modMp (by simp (maxDischargeDepth := 99) [h]) rfl

@[simp] theorem kept_setHeld {b : Bool} (h : p.Kept) : (p.setHeld b).Kept := by
  unfold Part.setHeld
  (repeat' split) <;> first | with_reducible exact h | simp (maxDischargeDepth := 99) [h]

@[simp] theorem kept_append {l : List StagedPart} {a c : Nat} (h : p.Kept) : (p.append l a c).Kept := by
  unfold Part.append
  dsimp only
  (repeat' split) <;> first | with_reducible exact h | simp (maxDischargeDepth := 99) [h]

@[simp] theorem kept_tailCheck (h : p.Kept) : (p.tailCheck).Kept := by
  unfold Part.tailCheck
  dsimp only
  (repeat' split) <;> first | with_reducible exact h | simp (maxDischargeDepth := 99) [h]

@[simp] theorem kept_freeRuns {a n : Nat} {g : Run → Bool} {f : Run → Run} (h : p.Kept) :
    (p.freeRuns a n g f).Kept := by
  unfold Part.freeRuns
  split <;> simp (maxDischargeDepth := 99) [h]

@[simp] theorem kept_unpinRuns {a n : Nat} (h : p.Kept) : (p.unpinRuns a n).Kept := by
  unfold Part.unpinRuns
  exact kept_freeRuns h

@[simp] theorem kept_unholdRuns {a n : Nat} (h : p.Kept) : (p.unholdRuns a n).Kept := by
  unfold Part.unholdRuns
  exact kept_freeRuns h

@[simp] theorem kept_landRuns {a n : Nat} (h : p.Kept) : (p.landRuns a n).Kept := by
  unfold Part.landRuns
  dsimp only
  split <;> simp (maxDischargeDepth := 99) [h]

@[simp] theorem kept_pin {l : Place} {n : Nat} (h : p.Kept) : (p.pin l n).Kept := by
  unfold Part.pin
  (repeat' split) <;> first | with_reducible exact h | simp (maxDischargeDepth := 99) [h]

@[simp] theorem kept_unpin {l : Place} {n : Nat} (h : p.Kept) : (p.unpin l n).Kept := by
  unfold Part.unpin
  (repeat' split) <;> first | with_reducible exact h | simp (maxDischargeDepth := 99) [h]

@[simp] theorem kept_land {l : Place} {n : Nat} (h : p.Kept) : (p.land l n).Kept := by
  unfold Part.land
  (repeat' split) <;> first | with_reducible exact h | simp (maxDischargeDepth := 99) [h]

@[simp] theorem kept_logResetSteps (h : p.Kept) : (p.logResetSteps).Kept := by
  unfold Part.logResetSteps
  (repeat' split) <;> first | with_reducible exact h | simp (maxDischargeDepth := 99) [h]

@[simp] theorem kept_resetLevels (h : p.Kept) : (p.resetLevels).Kept := by
  unfold Part.resetLevels
  (repeat' split) <;> first | with_reducible exact h | simp (maxDischargeDepth := 99) [h]

/-! ### The Translation Unit (Chapter 3) -/

@[simp] theorem kept_loseBlocks {x : Place × Nat} (h : p.Kept) : (p.loseBlocks x).Kept := by
  unfold Part.loseBlocks
  (repeat' split) <;> first | with_reducible exact h | simp (maxDischargeDepth := 99) [h]

@[simp] theorem kept_gainBlocks {x : Place × Nat} (h : p.Kept) : (p.gainBlocks x).Kept := by
  unfold Part.gainBlocks
  (repeat' split) <;> first | with_reducible exact h | simp (maxDischargeDepth := 99) [h]

@[simp] theorem kept_mapHighCheck {n : Nat} (h : p.Kept) : (p.mapHighCheck n).Kept := by
  unfold Part.mapHighCheck
  (repeat' split) <;> first | with_reducible exact h | simp (maxDischargeDepth := 99) [h]

@[simp] theorem kept_takeReserve {n : Nat} (h : p.Kept) : (p.takeReserve n).Kept := by
  unfold Part.takeReserve
  (repeat' split) <;> first | with_reducible exact h | simp (maxDischargeDepth := 99) [h]

@[simp] theorem kept_reportRise {o : Part} {b : Nat} (h : p.Kept) : (p.reportRise o b).Kept := by
  unfold Part.reportRise
  (repeat' split) <;> first | with_reducible exact h | simp (maxDischargeDepth := 99) [h]

@[simp] theorem kept_mapUpdate {l : List MapItem} (h : p.Kept) : (p.mapUpdate l).2.Kept := by
  unfold Part.mapUpdate
  dsimp only
  exact kept_follow (kept_mapHighCheck (kept_foldl (fun _ _ h => kept_reportRise h) _
    (kept_foldl (fun _ _ h => kept_gainBlocks h) _ (kept_foldl (fun _ _ h => kept_loseBlocks h) _ (kept_modTu h)))))

@[simp] theorem kept_updateChecks {l : List Nat} {t : Bool} (h : p.Kept) : (p.updateChecks l t).Kept := by
  unfold Part.updateChecks
  have := kept_foldl (f := Part.countFell) (fun _ _ h => kept_countFell h) l h
  dsimp only
  split <;> simp [this]

/-! ### The Media Port (Chapter 8) -/

theorem OrderQueueOk.empty : OrderQueueOk [] := ⟨by simp, by simp, by simp, by simp [windowCount], by simp⟩

theorem OrderQueueOk.filter {l : List Order} (h : OrderQueueOk l) (f : Order → Bool) : OrderQueueOk (l.filter f) where
  places := (List.length_filter_le f l).trans h.places
  ids := h.ids.sublist (List.filter_sublist.map Order.id)
  range o ho := h.range o (List.mem_filter.mp ho).1
  window := (List.Sublist.countP_le List.filter_sublist).trans h.window
  timers o ho := h.timers o (List.mem_filter.mp ho).1

/-- A change that leaves ids and states, and keeps a stopped timer of a QUEUED order stopped. -/
theorem OrderQueueOk.map {l : List Order} (h : OrderQueueOk l) {f : Order → Order} (hi : ∀ o, (f o).id = o.id)
    (hs : ∀ o, (f o).state = o.state) (ht : ∀ o, o.state = .queued → o.timer = .stopped → (f o).timer = .stopped) :
    OrderQueueOk (l.map f) where
  places := by simpa using h.places
  ids := by
    have : (l.map f).map Order.id = l.map Order.id := by simp [hi]
    rw [this]; exact h.ids
  range o ho := by
    obtain ⟨x, hx, rfl⟩ := List.mem_map.mp ho
    rw [hi]; exact h.range x hx
  window := by
    have : windowCount (l.map f) = windowCount l := by
      unfold windowCount
      rw [List.countP_map]
      exact List.countP_congr (fun x _ => by simp [Order.inWindow, hs])
    rw [this]; exact h.window
  timers o ho hq := by
    obtain ⟨x, hx, rfl⟩ := List.mem_map.mp ho
    rw [hs] at hq
    exact ht x hq (h.timers x hx hq)

/-- Some id is free while the queue is not full (R136). -/
theorem freeId_spec {l : List Order} (h : l.length < Config.orderCap) :
    freeId l < Config.orderCap ∧ ∀ o ∈ l, o.id ≠ freeId l := by
  have hex : ∃ n ∈ List.range Config.orderCap, n ∉ l.map Order.id := by
    by_contra hc
    push Not at hc
    have := (List.subperm_of_subset List.nodup_range hc).length_le
    simp at this
    omega
  obtain ⟨n, hn, hf⟩ := hex
  have hs : ((List.range Config.orderCap).find? fun n => !(l.any fun o => decide (o.id = n))).isSome := by
    rw [List.find?_isSome]
    refine ⟨n, hn, ?_⟩
    simp only [Bool.not_eq_true', List.any_eq_false, decide_eq_true_eq]
    intro x hx he
    exact hf (List.mem_map.mpr ⟨x, hx, he⟩)
  unfold freeId
  obtain ⟨m, hm⟩ := Option.isSome_iff_exists.mp hs
  rw [hm]
  refine ⟨List.mem_range.mp (List.mem_of_find?_eq_some hm), fun o ho => ?_⟩
  have := List.find?_some hm
  simp only [Bool.not_eq_true', List.any_eq_false, decide_eq_true_eq] at this
  exact this o ho

/-- A join (R136). -/
theorem OrderQueueOk.join {l : List Order} (h : OrderQueueOk l) {o : Order} (hc : l.length < Config.orderCap) :
    OrderQueueOk (l ++ [{ o with id := freeId l, state := .queued, timer := .stopped }]) where
  places := by simp; omega
  ids := by
    have := (freeId_spec hc).2
    simp only [List.map_append, List.map_cons, List.map_nil]
    rw [List.nodup_append]
    refine ⟨h.ids, by simp, ?_⟩
    intro a ha b hb
    obtain ⟨x, hx, rfl⟩ := List.mem_map.mp ha
    simp only [List.mem_singleton] at hb
    rw [hb]; exact this x hx
  range x hx := by
    rcases List.mem_append.mp hx with hx | hx
    · exact h.range x hx
    · simp only [List.mem_singleton] at hx
      rw [hx]; exact (freeId_spec hc).1
  window := by
    have : windowCount (l ++ [{ o with id := freeId l, state := .queued, timer := .stopped }]) = windowCount l := by
      simp [windowCount, Order.inWindow]
    rw [this]; exact h.window
  timers x hx hq := by
    rcases List.mem_append.mp hx with hx | hx
    · exact h.timers x hx hq
    · simp only [List.mem_singleton] at hx
      rw [hx]

/-- At most one order of a queue has an id. -/
theorem OrderQueueOk.window_modWhere {l : List Order} (hn : (l.map Order.id).Nodup) (i : Nat) (f : Order → Order) :
    windowCount (modWhere (fun o => decide (o.id = i)) f l) ≤ windowCount l + 1 := by
  unfold windowCount modWhere
  induction l with
  | nil => simp
  | cons x l ih =>
    simp only [List.map_cons, List.nodup_cons] at hn
    simp only [List.map_cons, List.countP_cons]
    by_cases hx : x.id = i
    · have : l.map (fun o => if decide (o.id = i) = true then f o else o) = l := by
        conv => rhs; rw [← List.map_id l]
        refine List.map_congr_left (fun y hy => ?_)
        have : y.id ≠ i := fun he => hn.1 (List.mem_map.mpr ⟨y, hy, by rw [he, hx]⟩)
        simp [this]
      rw [this]
      split <;> split <;> omega
    · have := ih hn.2
      simp only [hx, decide_false, Bool.false_eq_true, if_false] at this ⊢
      omega

/-- A change of the order of one id that leaves it in the window (R140, R144). -/
theorem OrderQueueOk.issue {l : List Order} (h : OrderQueueOk l) {i : Nat} {f : Order → Order}
    (hw : windowCount l < Config.windowCap) (hi : ∀ o, (f o).id = o.id)
    (hs : ∀ o, (f o).state = .issued ∨ (f o).state = .cancelling) :
    OrderQueueOk (modWhere (fun o => decide (o.id = i)) f l) where
  places := by simpa [modWhere] using h.places
  ids := by
    have : (modWhere (fun o => decide (o.id = i)) f l).map Order.id = l.map Order.id := by
      simp only [modWhere, List.map_map]
      refine List.map_congr_left (fun o _ => ?_)
      simp only [Function.comp]
      split <;> simp [hi]
    rw [this]; exact h.ids
  range o ho := by
    obtain ⟨x, hx, rfl⟩ := List.mem_map.mp ho
    split
    · rw [hi]; exact h.range x hx
    · exact h.range x hx
  window := (OrderQueueOk.window_modWhere h.ids i f).trans hw
  timers o ho hq := by
    obtain ⟨x, hx, rfl⟩ := List.mem_map.mp ho
    split at hq
    · rcases hs x with hs | hs <;> rw [hs] at hq <;> simp at hq
    · rename_i hx'
      rw [if_neg hx']; exact h.timers x hx hq

/-- CANCEL is sent for an order of the window (R144, R145): the window stays as it is. -/
theorem OrderQueueOk.again {l : List Order} (h : OrderQueueOk l) {o : Order} {t : Timer} (ho : o ∈ l)
    (hs : o.state ≠ .queued) :
    OrderQueueOk (modWhere (fun x => decide (x.id = o.id)) (fun x => { x with state := .cancelling, timer := t }) l)
    where
  places := by simpa [modWhere] using h.places
  ids := by
    have : (modWhere (fun x => decide (x.id = o.id))
        (fun x => { x with state := .cancelling, timer := t }) l).map Order.id = l.map Order.id := by
      simp only [modWhere, List.map_map]
      refine List.map_congr_left (fun o _ => ?_)
      simp only [Function.comp]
      split <;> rfl
    rw [this]; exact h.ids
  range x hx := by
    obtain ⟨y, hy, rfl⟩ := List.mem_map.mp hx
    split <;> exact h.range y hy
  window := by
    have : windowCount (modWhere (fun x => decide (x.id = o.id))
        (fun x => { x with state := .cancelling, timer := t }) l) = windowCount l := by
      unfold windowCount modWhere
      rw [List.countP_map]
      refine List.countP_congr (fun x hx => ?_)
      simp only [Function.comp]
      split
      · rename_i he
        have : x = o := List.inj_on_of_nodup_map h.ids hx ho (by simpa using he)
        simp [Order.inWindow, this, hs]
      · rfl
    rw [this]; exact h.window
  timers x hx hq := by
    obtain ⟨y, hy, rfl⟩ := List.mem_map.mp hx
    split at hq
    · simp at hq
    · rename_i hx'
      rw [if_neg hx']; exact h.timers y hy hq

@[simp] theorem kept_setToJoin {w : Owner} {l : List Order} (h : p.Kept) : (p.setToJoin w l).Kept := by
  cases w <;> exact h.of_eq rfl rfl rfl rfl

@[simp] theorem kept_modOrderRemap {o : Order} {f : Remap → Remap} (h : p.Kept) : (p.modOrderRemap o f).Kept := by
  unfold Part.modOrderRemap
  (repeat' split) <;> first | with_reducible exact h | simp (maxDischargeDepth := 99) [h]

theorem kept_joinOne {o : Order} (h : p.Kept) (hq : p.joinOne o = some q) : q.Kept := by
  unfold Part.joinOne at hq
  split at hq
  · simp at hq
  · rename_i hc
    have hc : p.mp.orders.length < Config.orderCap := by
      rw [not_or] at hc; exact Nat.lt_of_not_le hc.1
    have h1 : (p.modOrders fun l => l ++ [{ o with id := freeId l, state := .queued, timer := .stopped }]).Kept :=
      ⟨h.alert, h.orders.join hc⟩
    simp only [Option.some.injEq] at hq
    rw [← hq]
    split <;> simp (maxDischargeDepth := 99) [h1]

@[simp] theorem kept_joinPass {l : List Order} (h : p.Kept) : (p.joinPass l).2.Kept := by
  unfold Part.joinPass
  suffices ∀ (l : List Order) (a : List Order × Part), a.2.Kept →
      (l.foldl (fun acc o => match acc.2.joinOne o with
        | some q => (acc.1, q)
        | none => (acc.1 ++ [o], acc.2)) a).2.Kept from this l _ h
  intro l
  induction l with
  | nil => exact fun a h => h
  | cons o l ih =>
    intro a ha
    refine ih _ ?_
    dsimp only
    split
    · exact kept_joinOne ha (by assumption)
    · exact ha

@[simp] theorem kept_joinList {w : Owner} {l : List Order} (h : p.Kept) : (p.joinList w l).Kept := by
  unfold Part.joinList
  dsimp only
  (repeat' split) <;> first | with_reducible exact h | simp (maxDischargeDepth := 99) [h]

@[simp] theorem kept_joinOrders {w : Owner} {l : List Order} (h : p.Kept) : (p.joinOrders w l).Kept := by
  unfold Part.joinOrders
  (repeat' split) <;> first | with_reducible exact h | simp (maxDischargeDepth := 99) [h]

@[simp] theorem kept_placeFreed (h : p.Kept) : (p.placeFreed).Kept := by
  unfold Part.placeFreed
  (repeat' split) <;> first | with_reducible exact h | simp (maxDischargeDepth := 99) [h]

@[simp] theorem kept_removeOrder {i : Nat} (h : p.Kept) : (p.removeOrder i).Kept := ⟨h.alert, h.orders.filter _⟩

@[simp] theorem kept_giveBack {o : Order} (h : p.Kept) : (p.giveBack o).Kept := by
  unfold Part.giveBack
  dsimp only
  (repeat' split) <;> first | with_reducible exact h | simp (maxDischargeDepth := 99) [h]

@[simp] theorem kept_withdraw {f : Order → Bool} (h : p.Kept) : (p.withdraw f).Kept := by
  unfold Part.withdraw
  dsimp only
  split
  · exact h
  · exact kept_placeFreed (kept_foldl (fun _ _ h => kept_giveBack h) _ ⟨h.alert, h.orders.filter _⟩)

theorem kept_issue {o : Order} {n : Nat} (h : p.Kept) (hw : windowCount p.mp.orders < Config.windowCap) :
    (p.issue o n).Kept := ⟨h.alert, h.orders.issue hw (fun _ => rfl) (fun _ => Or.inl rfl)⟩

@[simp] theorem kept_tryIssue (h : p.Kept) : (p.tryIssue).Kept := by
  unfold Part.tryIssue
  split
  · rename_i hc
    split
    · refine kept_issue h ?_
      simp only [Part.canIssue, Bool.and_eq_true, decide_eq_true_eq] at hc
      exact hc.1.2
    · exact h
  · exact h

@[simp] theorem kept_setReady (h : p.Kept) : (p.setReady).Kept := by
  unfold Part.setReady
  split
  · exact h
  · exact ⟨h.alert, h.orders.map (fun _ => rfl) (fun _ => rfl) (fun o hs ht => by simp [Timer.release, ht, Timer.stopped])⟩

@[simp] theorem kept_setNotReady (h : p.Kept) : (p.setNotReady).Kept := by
  unfold Part.setNotReady
  split
  · exact ⟨h.alert, h.orders.map (fun _ => rfl) (fun _ => rfl) (fun o hs ht => by simp [Timer.hold, ht, Timer.stopped])⟩
  · exact h

@[simp] theorem kept_strayReport (h : p.Kept) : (p.strayReport).Kept := by
  unfold Part.strayReport
  (repeat' split) <;> first | with_reducible exact h | simp (maxDischargeDepth := 99) [h]

@[simp] theorem kept_mediaLinkError (h : p.Kept) : (p.mediaLinkError).Kept := by
  unfold Part.mediaLinkError
  (repeat' split) <;> first | with_reducible exact h | simp (maxDischargeDepth := 99) [h]

@[simp] theorem kept_mediaReset (h : p.Kept) : (p.mediaReset).Kept := ⟨h.alert, (h.orders.filter _).map (fun _ => rfl) (fun _ => rfl) (fun _ _ _ => rfl)⟩

/-! ### The Link Interface (Chapter 10) -/

@[simp] theorem kept_sayRefusal {t : Nat} {r : Result} {k : ReqKind} (h : p.Kept) : (p.sayRefusal t r k).Kept := by
  unfold Part.sayRefusal
  (repeat' split) <;> first | with_reducible exact h | simp (maxDischargeDepth := 99) [h]

@[simp] theorem kept_frameLost (h : p.Kept) : (p.frameLost).Kept := by
  unfold Part.frameLost
  (repeat' split) <;> first | with_reducible exact h | simp (maxDischargeDepth := 99) [h]

theorem kept_arrive {k : ReqKind} {r : Req} {hold ok : Bool} {own : Part → Verdict} (h : p.Kept)
    (ho : ∀ q, own p = .take q → q.Kept) : (p.arrive k r hold ok own).Kept := by
  unfold Part.arrive
  (repeat' split) <;> first | exact ho _ (by assumption) | simp [h]

/-! ### Relocation (Chapters 6 and 7) -/

@[simp] theorem kept_selectVictim {c : ClassBits} (h : p.Kept) : (p.selectVictim c).2.Kept := by
  unfold Part.selectVictim
  dsimp only
  split <;> simp (maxDischargeDepth := 99) [h]

@[simp] theorem kept_setFlag {c : Nat} (h : p.Kept) : (p.setFlag c).Kept := by
  unfold Part.setFlag
  dsimp only
  (repeat' split) <;> first | with_reducible exact h | simp (maxDischargeDepth := 99) [h]

@[simp] theorem kept_levelReport {c : Nat} {a b : Bool} (h : p.Kept) : (p.levelReport c a b).Kept := by
  unfold Part.levelReport
  (repeat' split) <;> first | with_reducible exact h | simp (maxDischargeDepth := 99) [h]

@[simp] theorem kept_inputReport {t : TriggerSource} {a b : Nat → Bool} (h : p.Kept) : (p.inputReport t a b).Kept := kept_foldl (fun _ _ h => kept_ite (kept_levelReport h) h) _ h

@[simp] theorem kept_wakeStalled (h : p.Kept) : (p.wakeStalled).Kept := kept_foldl (fun _ _ h => kept_ite (kept_setFlag h) h) _ h

@[simp] theorem kept_onFreeCount {a b : Nat} (h : p.Kept) : (p.onFreeCount a b).Kept := by
  unfold Part.onFreeCount
  dsimp only
  (repeat' split) <;> first | with_reducible exact h | simp (maxDischargeDepth := 99) [h]

@[simp] theorem kept_onDemand {a b : Bool} (h : p.Kept) : (p.onDemand a b).Kept := by
  unfold Part.onDemand
  (repeat' split) <;> first | with_reducible exact h | simp (maxDischargeDepth := 99) [h]

@[simp] theorem kept_onLogInput (h : p.Kept) : (p.onLogInput).Kept := by
  unfold Part.onLogInput
  (repeat' split) <;> first | with_reducible exact h | simp (maxDischargeDepth := 99) [h]

@[simp] theorem kept_onHour {a b : Nat} (h : p.Kept) : (p.onHour a b).Kept := by
  unfold Part.onHour
  (repeat' split) <;> first | with_reducible exact h | simp (maxDischargeDepth := 99) [h]

@[simp] theorem kept_onMediaIdle (h : p.Kept) : (p.onMediaIdle).Kept := kept_foldl (fun _ _ h => kept_ite (kept_setFlag h) h) _ h

@[simp] theorem kept_becomeIdle {c : Nat} (h : p.Kept) : (p.becomeIdle c).Kept := by
  unfold Part.becomeIdle
  dsimp only
  (repeat' split) <;> first | with_reducible exact h | simp (maxDischargeDepth := 99) [h]

@[simp] theorem kept_endService {c : Nat} {b : Bool} (h : p.Kept) : (p.endService c b).Kept := by
  unfold Part.endService
  dsimp only
  (repeat' split) <;> first | with_reducible exact h | simp (maxDischargeDepth := 99) [h]

@[simp] theorem kept_completeStop {c : Nat} (h : p.Kept) : (p.completeStop c).Kept := by
  unfold Part.completeStop
  dsimp only
  (repeat' split) <;> first | with_reducible exact h | simp (maxDischargeDepth := 99) [h]

@[simp] theorem kept_abandonPiece {c i : Nat} (h : p.Kept) : (p.abandonPiece c i).Kept := by
  unfold Part.abandonPiece
  (repeat' split) <;> first | with_reducible exact h | simp (maxDischargeDepth := 99) [h]

@[simp] theorem kept_beginStop {c : Nat} {s : StopCause} (h : p.Kept) : (p.beginStop c s).Kept := by
  unfold Part.beginStop
  dsimp only
  (repeat' split) <;> first | with_reducible exact h | simp (maxDischargeDepth := 99) [h]

@[simp] theorem kept_settleRemap {r : Remap} {a : Option Nat} (h : p.Kept) : (p.settleRemap r a).Kept := by
  unfold Part.settleRemap
  dsimp only
  (repeat' split) <;> first | with_reducible exact h | simp (maxDischargeDepth := 99) [h]

@[simp] theorem kept_applyRemap {r : Remap} (h : p.Kept) : (p.applyRemap r).Kept := by
  unfold Part.applyRemap
  dsimp only
  (repeat' split) <;> first | with_reducible exact h | simp (maxDischargeDepth := 99) [h]

@[simp] theorem kept_settleTest {r : Remap} (h : p.Kept) : (p.settleTest r).Kept := by
  unfold Part.settleTest
  (repeat' split) <;> first | with_reducible exact h | simp (maxDischargeDepth := 99) [h]

@[simp] theorem kept_settleTests (h : p.Kept) : (p.settleTests).Kept := kept_foldl (fun _ _ h => kept_settleTest h) _ h

@[simp] theorem kept_settleApplied {b o : Nat} (h : p.Kept) : (p.settleApplied b o).Kept := by
  unfold Part.settleApplied
  (repeat' split) <;> first | with_reducible exact h | simp (maxDischargeDepth := 99) [h]

@[simp] theorem kept_closePiece {c i : Nat} (h : p.Kept) : (p.closePiece c i).Kept := by
  unfold Part.closePiece
  (repeat' split) <;> first | with_reducible exact h | simp (maxDischargeDepth := 99) [h]

@[simp] theorem kept_closePieces {c : Nat} (h : p.Kept) : (p.closePieces c).Kept := by
  unfold Part.closePieces
  split
  · exact kept_foldl (fun _ _ h => kept_closePiece h) _ h
  · exact h

@[simp] theorem kept_postRemap {c : Nat} {y : Copy} {x : CopyPiece} (h : p.Kept) : (p.postRemap c y x).Kept := by
  unfold Part.postRemap
  dsimp only
  (repeat' split) <;> first | with_reducible exact h | simp (maxDischargeDepth := 99) [h]

@[simp] theorem kept_postPiece {c i : Nat} (h : p.Kept) : (p.postPiece c i).Kept := by
  unfold Part.postPiece
  dsimp only
  (repeat' split) <;> first | with_reducible exact h | simp (maxDischargeDepth := 99) [h]

@[simp] theorem kept_nextPiece {c : Nat} (h : p.Kept) : (p.nextPiece c).Kept := by
  unfold Part.nextPiece
  dsimp only
  split
  · exact h
  · split
    · rename_i he
      have h1 := congrArg (fun x => Part.Kept x.2) he
      simp only [kept_bandRequest h, eq_iff_iff, true_iff] at h1
      simp (maxDischargeDepth := 99) [h1]
    · rename_i he
      have h1 := congrArg (fun x => Part.Kept x.2) he
      simp only [kept_bandRequest h, eq_iff_iff, true_iff] at h1
      split
      · simp (maxDischargeDepth := 99) [kept_reserve h1]
      · exact kept_postPiece (kept_modChan (kept_reserve h1))

@[simp] theorem kept_startCopy {c a n : Nat} {l : Place} {k : Nat} (h : p.Kept) : (p.startCopy c a n l k).Kept := by
  unfold Part.startCopy
  dsimp only
  (repeat' split) <;> first | with_reducible exact h | simp (maxDischargeDepth := 99) [h]

@[simp] theorem kept_afterCopy {c : Nat} (h : p.Kept) : (p.afterCopy c).Kept := by
  unfold Part.afterCopy
  dsimp only
  (repeat' split) <;> first | with_reducible exact h | simp (maxDischargeDepth := 99) [h]

@[simp] theorem kept_endCopy {c : Nat} {y : Copy} (h : p.Kept) : (p.endCopy c y).Kept := by
  unfold Part.endCopy
  dsimp only
  (repeat' split) <;> first | with_reducible exact h | simp (maxDischargeDepth := 99) [h]

@[simp] theorem kept_copyCheck {c : Nat} (h : p.Kept) : (p.copyCheck c).Kept := by
  unfold Part.copyCheck
  (repeat' split) <;> first | with_reducible exact h | simp (maxDischargeDepth := 99) [h]

@[simp] theorem kept_pieceStep {c : Nat} (h : p.Kept) : (p.pieceStep c).Kept := by
  unfold Part.pieceStep
  (repeat' split) <;> first | with_reducible exact h | simp (maxDischargeDepth := 99) [h]

@[simp] theorem kept_rereadRun {c : Nat} {o : Order} (h : p.Kept) : (p.rereadRun c o).Kept := by
  unfold Part.rereadRun
  (repeat' split) <;> first | with_reducible exact h | simp (maxDischargeDepth := 99) [h]

@[simp] theorem kept_failPiece {c : Nat} {o : Order} (h : p.Kept) : (p.failPiece c o).Kept := by
  unfold Part.failPiece
  (repeat' split) <;> first | with_reducible exact h | simp (maxDischargeDepth := 99) [h]

@[simp] theorem kept_verifyPiece {c i : Nat} (h : p.Kept) : (p.verifyPiece c i).Kept := by
  unfold Part.verifyPiece
  dsimp only
  (repeat' split) <;> first | with_reducible exact h | simp (maxDischargeDepth := 99) [h]

@[simp] theorem kept_chanReport {c : Nat} {o : Order} {s : ReportStatus} (h : p.Kept) : (p.chanReport c o s).Kept := by
  unfold Part.chanReport
  dsimp only
  (repeat' split) <;> first | with_reducible exact h | simp (maxDischargeDepth := 99) [h]

@[simp] theorem kept_chanTimeout {c : Nat} {o : Order} (h : p.Kept) : (p.chanTimeout c o).Kept := by
  unfold Part.chanTimeout
  dsimp only
  (repeat' split) <;> first | with_reducible exact h | simp (maxDischargeDepth := 99) [h]

@[simp] theorem kept_chanGone {c : Nat} {o : Order} (h : p.Kept) : (p.chanGone c o).Kept := by
  unfold Part.chanGone
  dsimp only
  (repeat' split) <;> first | with_reducible exact h | simp (maxDischargeDepth := 99) [h]

@[simp] theorem kept_chanRejoin {c : Nat} (h : p.Kept) : (p.chanRejoin c).Kept := by
  unfold Part.chanRejoin
  (repeat' split) <;> first | with_reducible exact h | simp (maxDischargeDepth := 99) [h]

@[simp] theorem kept_startService {c : Nat} (h : p.Kept) : (p.startService c).Kept := by
  unfold Part.startService
  dsimp only
  (repeat' split) <;> first | with_reducible exact h | simp (maxDischargeDepth := 99) [h]

@[simp] theorem kept_selectSource {c : Nat} (h : p.Kept) : (p.selectSource c).Kept := by
  unfold Part.selectSource
  dsimp only
  split
  · split <;> simp (maxDischargeDepth := 99) [h]
  · split
    · simp (maxDischargeDepth := 99) [h]
    · split
      · rename_i he
        have h1 := congrArg (fun x => Part.Kept x.2) he
        simp only [kept_selectVictim h, eq_iff_iff, true_iff] at h1
        simp (maxDischargeDepth := 99) [h1]
      · rename_i he
        have h1 := congrArg (fun x => Part.Kept x.2) he
        simp only [kept_selectVictim h, eq_iff_iff, true_iff] at h1
        simp (maxDischargeDepth := 99) [h1]

@[simp] theorem kept_moveDestage {c : Nat} {w : DestageRec} (h : p.Kept) : (p.moveDestage c w).Kept := by
  unfold Part.moveDestage
  dsimp only
  (repeat' split) <;> first | with_reducible exact h | simp (maxDischargeDepth := 99) [h]

@[simp] theorem kept_moveReclaim {c b : Nat} (h : p.Kept) : (p.moveReclaim c b).Kept := by
  unfold Part.moveReclaim
  dsimp only
  (repeat' split) <;> first | with_reducible exact h | simp (maxDischargeDepth := 99) [h]

@[simp] theorem kept_moveOn {c : Nat} (h : p.Kept) : (p.moveOn c).Kept := by
  unfold Part.moveOn
  dsimp only
  (repeat' split) <;> first | with_reducible exact h | simp (maxDischargeDepth := 99) [h]

@[simp] theorem kept_settleCheck {c : Nat} (h : p.Kept) : (p.settleCheck c).Kept := by
  unfold Part.settleCheck
  dsimp only
  (repeat' split) <;> first | with_reducible exact h | simp (maxDischargeDepth := 99) [h]

@[simp] theorem kept_onVictim {b : Nat} (h : p.Kept) : (p.onVictim b).Kept := kept_foldl (fun _ _ h => kept_ite (kept_settleCheck h) h) _ h

@[simp] theorem kept_selectStep {c : Nat} (h : p.Kept) : (p.selectStep c).Kept := by
  unfold Part.selectStep
  (repeat' split) <;> first | with_reducible exact h | simp (maxDischargeDepth := 99) [h]

@[simp] theorem kept_startChannels (h : p.Kept) : (p.startChannels).Kept := kept_foldl (fun _ _ h => kept_becomeIdle h) _ h

@[simp] theorem kept_stopChannels {s : StopCause} (h : p.Kept) : (p.stopChannels s).Kept := kept_foldl (fun _ _ h => kept_beginStop h) _ h

/-! ### Streams (Chapter 4) -/

theorem kept_divideSteps {i c : Nat} : ∀ (n : Nat) {p : Part} {d : Division}, p.Kept →
    (Part.divideSteps i c n p d).2.Kept
  | 0, _, _, h => h
  | n + 1, p, d, h => by
    unfold Part.divideSteps
    split
    · exact h
    · split
      · rename_i he
        have h1 := congrArg (fun x => Part.Kept x.2) he
        simp only [kept_bandRequest h, eq_iff_iff, true_iff] at h1
        exact kept_starve h1
      · rename_i he
        have h1 := congrArg (fun x => Part.Kept x.2) he
        simp only [kept_bandRequest h, eq_iff_iff, true_iff] at h1
        dsimp only
        split
        · exact kept_starve (kept_reserve h1)
        · exact kept_divideSteps n (kept_reserve h1)

@[simp] theorem kept_divide {a : PlaceArgs} {c : Nat} (h : p.Kept) : (p.divide a c).2.Kept := by
  unfold Part.divide
  dsimp only
  split
  · exact kept_divideSteps _ h
  · exact h

theorem kept_streamRetry {i c n : Nat} {t : TailPolicy} (h : p.Kept) : (p.streamRetry i c n t).2.2.Kept := by
  unfold Part.streamRetry
  split
  · rename_i he
    have h1 := congrArg (fun x => Part.Kept x.2) he
    simp only [kept_bandRequest h, eq_iff_iff, true_iff] at h1
    exact kept_starve h1
  · rename_i he
    have h1 := congrArg (fun x => Part.Kept x.2) he
    simp only [kept_bandRequest h, eq_iff_iff, true_iff] at h1
    dsimp only
    split
    · exact h1
    · exact kept_modStream (kept_reserve h1)

@[simp] theorem kept_closeStream {i : Nat} (h : p.Kept) : (p.closeStream i).2.2.Kept := by
  unfold Part.closeStream
  dsimp only
  (repeat' split) <;> simp (maxDischargeDepth := 99) [*]

@[simp] theorem kept_streamAdmitted {a : PlaceArgs} {x : Attrs} {d : Division} (h : p.Kept) : (p.streamAdmitted a x d).Kept := by
  unfold Part.streamAdmitted
  (repeat' split) <;> first | with_reducible exact h | simp (maxDischargeDepth := 99) [h]

@[simp] theorem kept_streamExpired {i : Nat} (h : p.Kept) : (p.streamExpired i).Kept := by
  unfold Part.streamExpired
  dsimp only
  (repeat' split) <;> first | with_reducible exact h | simp (maxDischargeDepth := 99) [h]

/-! ### Transactions (Chapters 9 and 10) -/

@[simp] theorem kept_quiesceClose {i : Nat} (h : p.Kept) : (p.quiesceClose i).Kept := by
  unfold Part.quiesceClose
  (repeat' split) <;> first | with_reducible exact h | simp (maxDischargeDepth := 99) [h]

@[simp] theorem kept_endTxn {t : Txn} {r : Result} {l : List Item} (h : p.Kept) : (p.endTxn t r l).Kept := by
  unfold Part.endTxn
  dsimp only
  (repeat' split) <;> first | with_reducible exact h | simp (maxDischargeDepth := 99) [h]

@[simp] theorem kept_landOld {t i : Nat} {c : Piece} (h : p.Kept) : (p.landOld t i c).Kept := by
  unfold Part.landOld
  (repeat' split) <;> first | with_reducible exact h | simp (maxDischargeDepth := 99) [h]

@[simp] theorem kept_landNew {t i : Nat} {c : Piece} (h : p.Kept) : (p.landNew t i c).Kept := by
  unfold Part.landNew
  (repeat' split) <;> first | with_reducible exact h | simp (maxDischargeDepth := 99) [h]

@[simp] theorem kept_landPositions {t : Nat} (h : p.Kept) : (p.landPositions t).Kept := by
  unfold Part.landPositions
  split
  · exact h
  · dsimp only
    split
    · exact kept_foldl (fun _ _ h => kept_landNew h) _ (kept_foldl (fun _ _ h => kept_landOld h) _ h)
    · exact kept_foldl (fun _ _ h => kept_landOld h) _ h

@[simp] theorem kept_fixOutcome {t : Nat} {r : Result} {l : Option Nat} (h : p.Kept) : (p.fixOutcome t r l).Kept := by
  unfold Part.fixOutcome
  dsimp only
  (repeat' split) <;> first | with_reducible exact h | simp (maxDischargeDepth := 99) [h]

theorem kept_retryPosition {t : Txn} {a : PlaceArgs} {c : Piece} (h : p.Kept) : (p.retryPosition t a c).2.Kept := by
  unfold Part.retryPosition
  split
  · split
    · rename_i he
      have h1 := congrArg (fun x => Part.Kept x.2.2) he
      simpa only [kept_streamRetry h, eq_iff_iff, true_iff] using h1
    · rename_i he
      have h1 := congrArg (fun x => Part.Kept x.2.2) he
      simpa only [kept_streamRetry h, eq_iff_iff, true_iff] using h1
  · split
    · rename_i he
      unfold Part.stagedRetry at he
      split at he
      · cases he; exact kept_append h
      · simp at he
    · exact h

@[simp] theorem kept_pieceFailed {t : Txn} {a : PlaceArgs} {i : Nat} {c : Piece} {b : Bool} {l : Nat} (h : p.Kept) : (p.pieceFailed t a i c b l).Kept := by
  unfold Part.pieceFailed
  dsimp only
  split
  · simp (maxDischargeDepth := 99) [h]
  · split
    · rename_i he
      have h1 := congrArg (fun x => Part.Kept x.2) he
      simp (maxDischargeDepth := 99) only [kept_retryPosition (kept_landNew (kept_withdraw (kept_setToJoin h))),
        eq_iff_iff, true_iff] at h1
      simp (maxDischargeDepth := 99) [h1]
    · rename_i he
      have h1 := congrArg (fun x => Part.Kept x.2) he
      simp (maxDischargeDepth := 99) only [kept_retryPosition (kept_landNew (kept_withdraw (kept_setToJoin h))),
        eq_iff_iff, true_iff] at h1
      simp (maxDischargeDepth := 99) [h1]

@[simp] theorem kept_pieceOk {t : Txn} {a : PlaceArgs} {i : Nat} {c : Piece} (h : p.Kept) : (p.pieceOk t a i c).Kept := by
  unfold Part.pieceOk
  (repeat' split) <;> first | with_reducible exact h | simp (maxDischargeDepth := 99) [h]

@[simp] theorem kept_placeMap {t : Nat} (h : p.Kept) : (p.placeMap t).Kept := by
  unfold Part.placeMap
  (repeat' split) <;> first | with_reducible exact h | simp (maxDischargeDepth := 99) [h]

@[simp] theorem kept_cancellingEnd {t : Nat} (h : p.Kept) : (p.cancellingEnd t).Kept := by
  unfold Part.cancellingEnd
  (repeat' split) <;> first | with_reducible exact h | simp (maxDischargeDepth := 99) [h]

@[simp] theorem kept_placeEnd {t : Nat} (h : p.Kept) : (p.placeEnd t).Kept := by
  unfold Part.placeEnd
  split
  · split
    · dsimp only
      exact kept_endTxn (kept_count (kept_foldl (fun _ _ h => kept_ite h (kept_land h)) _ h))
    · exact h
  · exact h

@[simp] theorem kept_discardEnd {t : Nat} (h : p.Kept) : (p.discardEnd t).Kept := by
  unfold Part.discardEnd
  (repeat' split) <;> first | with_reducible exact h | simp (maxDischargeDepth := 99) [h]

@[simp] theorem kept_placeSettle {t : Nat} (h : p.Kept) : (p.placeSettle t).Kept := by
  unfold Part.placeSettle
  (repeat' split) <;> first | with_reducible exact h | simp (maxDischargeDepth := 99) [h]

@[simp] theorem kept_placeReport {t : Txn} {a : PlaceArgs} {o : Order} {s : ReportStatus} {d : Nat} (h : p.Kept) : (p.placeReport t a o s d).Kept := by
  unfold Part.placeReport
  (repeat' split) <;> first | with_reducible exact h | simp (maxDischargeDepth := 99) [h]

@[simp] theorem kept_placeTimeout {t : Txn} {a : PlaceArgs} {o : Order} (h : p.Kept) : (p.placeTimeout t a o).Kept := by
  unfold Part.placeTimeout
  (repeat' split) <;> first | with_reducible exact h | simp (maxDischargeDepth := 99) [h]

@[simp] theorem kept_fetchEnd {t : Nat} (h : p.Kept) : (p.fetchEnd t).Kept := by
  unfold Part.fetchEnd
  (repeat' split) <;> first | with_reducible exact h | simp (maxDischargeDepth := 99) [h]

@[simp] theorem kept_prepareRetry {t a b : Nat} {r : RetryRun} (h : p.Kept) : (p.prepareRetry t a b r).Kept := by
  unfold Part.prepareRetry
  dsimp only
  (repeat' split) <;> first | with_reducible exact h | simp (maxDischargeDepth := 99) [h]

@[simp] theorem kept_fetchReport {t : Txn} {a b : Nat} {o : Order} {s : ReportStatus} {d : Nat} (h : p.Kept) : (p.fetchReport t a b o s d).Kept := by
  unfold Part.fetchReport
  (repeat' split) <;> first | with_reducible exact h | simp (maxDischargeDepth := 99) [h]

@[simp] theorem kept_fetchTimeout {t : Txn} {o : Order} (h : p.Kept) : (p.fetchTimeout t o).Kept := by
  unfold Part.fetchTimeout
  (repeat' split) <;> first | with_reducible exact h | simp (maxDischargeDepth := 99) [h]

@[simp] theorem kept_fetchGone {t : Txn} {a b : Nat} {o : Order} (h : p.Kept) : (p.fetchGone t a b o).Kept := by
  unfold Part.fetchGone
  (repeat' split) <;> first | with_reducible exact h | simp (maxDischargeDepth := 99) [h]

@[simp] theorem kept_fetchRetryJoin {t l : Nat} (h : p.Kept) : (p.fetchRetryJoin t l).Kept := by
  unfold Part.fetchRetryJoin
  (repeat' split) <;> first | with_reducible exact h | simp (maxDischargeDepth := 99) [h]

@[simp] theorem kept_txnReport {t : Nat} {o : Order} {s : ReportStatus} {d : Nat} (h : p.Kept) : (p.txnReport t o s d).Kept := by
  unfold Part.txnReport
  (repeat' split) <;> first | with_reducible exact h | simp (maxDischargeDepth := 99) [h]

@[simp] theorem kept_txnTimeout {t : Nat} {o : Order} (h : p.Kept) : (p.txnTimeout t o).Kept := by
  unfold Part.txnTimeout
  (repeat' split) <;> first | with_reducible exact h | simp (maxDischargeDepth := 99) [h]

@[simp] theorem kept_txnGone {t : Nat} {o : Order} (h : p.Kept) : (p.txnGone t o).Kept := by
  unfold Part.txnGone
  (repeat' split) <;> first | with_reducible exact h | simp (maxDischargeDepth := 99) [h]

@[simp] theorem kept_popHead (h : p.Kept) : (p.popHead).Kept := by
  unfold Part.popHead
  (repeat' split) <;> first | with_reducible exact h | simp (maxDischargeDepth := 99) [h]

@[simp] theorem kept_admitPlace {x : Queued} {a : PlaceArgs} {y : Attrs} {n : Nat} {d : Division} (h : p.Kept) : (p.admitPlace x a y n d).Kept := by
  unfold Part.admitPlace
  dsimp only
  (repeat' split) <;> first | with_reducible exact h | simp (maxDischargeDepth := 99) [h]

@[simp] theorem kept_admitDiscard {x : Queued} {a n : Nat} (h : p.Kept) : (p.admitDiscard x a n).Kept := by
  unfold Part.admitDiscard
  dsimp only
  (repeat' split) <;> first | with_reducible exact h | simp (maxDischargeDepth := 99) [h]

@[simp] theorem kept_admitFetch {x : Queued} {a n : Nat} {f : FetchPlan} (h : p.Kept) : (p.admitFetch x a n f).Kept := by
  unfold Part.admitFetch
  dsimp only
  (repeat' split) <;> first | with_reducible exact h | simp (maxDischargeDepth := 99) [h]

@[simp] theorem kept_endAtHead {x : Queued} {r : Result} {l : List Item} (h : p.Kept) : (p.endAtHead x r l).Kept := by
  unfold Part.endAtHead
  (repeat' split) <;> first | with_reducible exact h | simp (maxDischargeDepth := 99) [h]

@[simp] theorem kept_admitOpen {x : Queued} {i c t v l : Nat} (h : p.Kept) : (p.admitOpen x i c t v l).Kept := by
  unfold Part.admitOpen
  (repeat' split) <;> first | with_reducible exact h | simp (maxDischargeDepth := 99) [h]

@[simp] theorem kept_admitClose {x : Queued} {i : Nat} (h : p.Kept) : (p.admitClose x i).Kept := by
  unfold Part.admitClose
  dsimp only
  (repeat' split) <;> first | with_reducible exact h | simp (maxDischargeDepth := 99) [h]

theorem kept_reserveTest {n : Nat} {t : HeadTest} (ht : ∀ q, t = .accept q → q.Kept)
    (hq : p.reserveTest n t = .accept q) : q.Kept := by
  unfold Part.reserveTest at hq
  (repeat' split at hq) <;> first | exact ht _ hq | simp at hq

theorem kept_placeTest {x : Queued} {a : PlaceArgs} (h : p.Kept) (hq : p.placeTest x a = .accept q) : q.Kept := by
  unfold Part.placeTest at hq
  refine kept_reserveTest (fun r hr => ?_) hq
  dsimp only at hr
  (repeat' split at hr) <;> first | (cases hr; simp [h]) | simp at hr

theorem kept_headTest {x : Queued} (h : p.Kept) (hq : p.headTest x = .accept q) : q.Kept := by
  unfold Part.headTest at hq
  split at hq
  · simp at hq
  split at hq
  · simp at hq
  split at hq
  · exact kept_placeTest h hq
  · dsimp only at hq
    split at hq
    · cases hq; simp [h]
    · simp at hq
  · exact kept_reserveTest (fun r hr => by cases hr; simp [h]) hq
  · cases hq; simp [h]
  · cases hq; simp [h]
  · cases hq; simp [h]

@[simp] theorem kept_admitHead {k : ReqKind} (h : p.Kept) : (p.admitHead k).Kept := by
  unfold Part.admitHead
  (repeat' split) <;> first | exact kept_headTest h (by assumption) | simp [h]

@[simp] theorem kept_refuseHead (h : p.Kept) : (p.refuseHead).Kept := by
  unfold Part.refuseHead
  (repeat' split) <;> first | with_reducible exact h | simp (maxDischargeDepth := 99) [h]

@[simp] theorem kept_onDestagers (h : p.Kept) : (p.onDestagers).Kept := by
  unfold Part.onDestagers
  (repeat' split) <;> first | with_reducible exact h | simp (maxDischargeDepth := 99) [h]

@[simp] theorem kept_cancelTarget {t : Nat} (h : p.Kept) : (p.cancelTarget t).2.2.Kept := by
  unfold Part.cancelTarget
  dsimp only
  (repeat' split) <;> simp (maxDischargeDepth := 99) [*]

/-! ### Supervision (Chapter 11) -/

@[simp] theorem kept_startUpdate {m : Image} (h : p.Kept) : (p.startUpdate m).Kept := by
  unfold Part.startUpdate
  dsimp only
  (repeat' split) <;> first | with_reducible exact h | simp (maxDischargeDepth := 99) [h]

@[simp] theorem kept_enterOnline (h : p.Kept) : (p.enterOnline).Kept := by
  unfold Part.enterOnline
  (repeat' split) <;> first | with_reducible exact h | simp (maxDischargeDepth := 99) [h]

@[simp] theorem kept_leaveOnline {d : DeviceState} (h : p.Kept) : (p.leaveOnline d).Kept := by
  unfold Part.leaveOnline
  (repeat' split) <;> first | with_reducible exact h | simp (maxDischargeDepth := 99) [h]

@[simp] theorem kept_digestExpired (h : p.Kept) : (p.digestExpired).Kept := by
  unfold Part.digestExpired
  dsimp only
  (repeat' split) <;> first | with_reducible exact h | simp (maxDischargeDepth := 99) [h]

@[simp] theorem kept_mountEnd (h : p.Kept) : (p.mountEnd).Kept := by
  unfold Part.mountEnd
  dsimp only
  (repeat' split) <;> first | with_reducible exact h | simp (maxDischargeDepth := 99) [h]

@[simp] theorem kept_drainEnd (h : p.Kept) : (p.drainEnd).Kept := by
  unfold Part.drainEnd
  (repeat' split) <;> first | with_reducible exact h | simp (maxDischargeDepth := 99) [h]

@[simp] theorem kept_startQuiesce {t : Nat} {b : Bool} (h : p.Kept) : (p.startQuiesce t b).Kept := by
  unfold Part.startQuiesce
  dsimp only
  exact kept_note (kept_foldl (fun _ _ h => kept_quiesceClose h) _
    (kept_stopChannels (kept_modSv (kept_leaveOnline h) rfl rfl rfl)))

@[simp] theorem kept_hourPassed (h : p.Kept) : (p.hourPassed).Kept := by
  unfold Part.hourPassed
  dsimp only
  have h1 := kept_modSv (f := fun v => { v with hourAcc := 0 }) h rfl rfl rfl
  split
  · split
    · exact h1
    · exact kept_note (kept_modSv h1 rfl rfl rfl)
  · exact h

@[simp] theorem kept_formatTables {g : Geometry} {l : List Nat} (h : p.Kept) : (p.formatTables g l).Kept :=
  kept_levelChecks (kept_setMask (kept_rewriteDigest (kept_modSv (kept_modSc (kept_modRe (kept_modSl (kept_modTu
    (kept_modBm h))))) rfl rfl rfl)))

@[simp] theorem kept_formatDone {t : Nat} (h : p.Kept) : (p.formatDone t).Kept := by
  unfold Part.formatDone
  (repeat' split) <;> first | with_reducible exact h | simp (maxDischargeDepth := 99) [h]

@[simp] theorem kept_formatNext (h : p.Kept) : (p.formatNext).Kept := by
  unfold Part.formatNext
  dsimp only
  (repeat' split) <;> first | with_reducible exact h | simp (maxDischargeDepth := 99) [h]

@[simp] theorem kept_restoreDone (h : p.Kept) : (p.restoreDone).Kept := by
  unfold Part.restoreDone
  dsimp only
  (repeat' split) <;> first | with_reducible exact h | simp (maxDischargeDepth := 99) [h]

@[simp] theorem kept_takeReset {t : Nat} (h : p.Kept) : (p.takeReset t).Kept := by
  unfold Part.takeReset
  split
  · exact kept_mediaReset (kept_modSv h rfl rfl rfl)
  · rename_i w _
    have h1 := kept_modSv (f := fun v => { v with reset := some { w with tag := t, count := w.count + 1 } }) h rfl rfl rfl
    dsimp only
    split
    · exact kept_modMp h1 rfl
    · exact h1

@[simp] theorem kept_mediaCleared (h : p.Kept) : (p.mediaCleared).Kept := ⟨h.alert, OrderQueueOk.empty⟩

@[simp] theorem kept_freeLowNow (h : p.Kept) : (p.freeLowNow).Kept := by
  unfold Part.freeLowNow
  (repeat' split) <;> first | with_reducible exact h | simp (maxDischargeDepth := 99) [h]

@[simp] theorem kept_mapHighNow (h : p.Kept) : (p.mapHighNow).Kept := by
  unfold Part.mapHighNow
  (repeat' split) <;> first | with_reducible exact h | simp (maxDischargeDepth := 99) [h]

@[simp] theorem kept_tableResetSteps (h : p.Kept) : (p.tableResetSteps).Kept := by
  unfold Part.tableResetSteps
  dsimp only
  (repeat' split) <;> first | with_reducible exact h | simp (maxDischargeDepth := 99) [h]

@[simp] theorem kept_completeReset {w : ResetWork} (h : p.Kept) : (p.completeReset w).Kept := by
  unfold Part.completeReset
  dsimp only
  exact kept_noNotes (kept_announce (kept_say (kept_modSv (kept_modLi (kept_modTx (kept_mediaCleared
    (kept_clearChannels (kept_modSu (kept_dropFollows (kept_freeLowNow (kept_tableResetSteps h)))))))) rfl rfl rfl)))

@[simp] theorem kept_tryCompleteReset (h : p.Kept) : (p.tryCompleteReset).Kept := by
  unfold Part.tryCompleteReset
  (repeat' split) <;> first | with_reducible exact h | simp (maxDischargeDepth := 99) [h]

@[simp] theorem kept_cancelledAll (h : p.Kept) : (p.cancelledAll).Kept := by
  unfold Part.cancelledAll
  split
  · dsimp only
    refine kept_tryCompleteReset (kept_modSv ?_ rfl rfl rfl)
    exact ⟨h.alert, OrderQueueOk.empty⟩
  · simp [h]

@[simp] theorem kept_followUp {f : Follow} (h : p.Kept) : (p.followUp f).Kept := by
  unfold Part.followUp
  (repeat' split) <;> first | with_reducible exact h | simp (maxDischargeDepth := 99) [h]

@[simp] theorem kept_updateDurable {u : Nat} (h : p.Kept) : (p.updateDurable u).Kept := by
  unfold Part.updateDurable
  split
  · exact kept_foldl (fun _ _ h => kept_followUp h) _ (kept_markDone h)
  · exact h

@[simp] theorem kept_followDurable {f : Follow} (h : p.Kept) : (p.followDurable f).Kept := by
  unfold Part.followDurable
  (repeat' split) <;> first | with_reducible exact h | simp (maxDischargeDepth := 99) [h]

@[simp] theorem kept_formatComplete (h : p.Kept) : (p.formatComplete).Kept := by
  unfold Part.formatComplete
  (repeat' split) <;> first | with_reducible exact h | simp (maxDischargeDepth := 99) [h]

@[simp] theorem kept_stopTimers (h : p.Kept) : (p.stopTimers).Kept := ⟨h.alert, h.orders.map (fun _ => rfl) (fun _ => rfl) (fun _ _ _ => rfl)⟩

@[simp] theorem kept_powerFail (h : p.Kept) : (p.powerFail).Kept := by
  unfold Part.powerFail
  (repeat' split) <;> first | with_reducible exact h | simp (maxDischargeDepth := 99) [h]

@[simp] theorem kept_silence (h : p.Kept) : (p.silence).Kept := by
  unfold Part.silence
  (repeat' split) <;> first | with_reducible exact h | simp (maxDischargeDepth := 99) [h]

@[simp] theorem kept_ofImage {m : Image} {n : Nat} : (Part.ofImage m n).Kept :=
  ⟨by simp [Part.AlertOk, Part.ofImage, alertLevel], OrderQueueOk.empty⟩

@[simp] theorem kept_coldStart {m : Image} : (p.coldStart m).Kept := by
  unfold Part.coldStart
  dsimp only
  refine kept_modDevice (kept_freeLowNow (kept_tableResetSteps ?_))
  split
  · simp
  · exact ⟨by simp [Part.AlertOk, Part.ofImage, alertLevel], OrderQueueOk.empty⟩

@[simp] theorem kept_storeSettings {v : TimerArgs} (h : p.Kept) : (p.storeSettings v).Kept := by
  unfold Part.storeSettings
  dsimp only
  (repeat' split) <;> first | with_reducible exact h | simp (maxDischargeDepth := 99) [h]

/-! ### Events (Chapter 8 and log 4) -/

@[simp] theorem kept_handle {n : Note} (h : p.Kept) : (p.handle n).Kept := by
  unfold Part.handle
  (repeat' split) <;> first | with_reducible exact h | simp (maxDischargeDepth := 99) [h]

theorem kept_drain : ∀ (n : Nat) {p : Part}, p.Kept → (drain n p).Kept
  | 0, _, h => h
  | n + 1, p, h => by
    unfold drain
    split
    · exact h
    · exact kept_drain n (kept_handle (h.of_eq rfl rfl rfl rfl))

@[simp] theorem kept_drainAll (h : p.Kept) : (p.drainAll).Kept := kept_noNotes (kept_drain _ h)

theorem kept_event {f : Part → Part} (hf : (f p).Kept) : (p.event f).Kept :=
  kept_startUpdate (kept_beginSending (kept_drainAll hf))

@[simp] theorem kept_tick (h : p.Kept) : (p.tick).Kept := ⟨h.alert, h.orders.map (fun _ => rfl) (fun _ => rfl) (fun o _ ht => by simp [Timer.tick, ht, Timer.stopped])⟩

@[simp] theorem kept_unpinOrder {o : Order} (h : p.Kept) : (p.unpinOrder o).Kept := by
  unfold Part.unpinOrder
  (repeat' split) <;> first | with_reducible exact h | simp (maxDischargeDepth := 99) [h]

@[simp] theorem kept_orderError {o : Order} (h : p.Kept) : (p.orderError o).Kept := by
  unfold Part.orderError
  (repeat' split) <;> first | with_reducible exact h | simp (maxDischargeDepth := 99) [h]

@[simp] theorem kept_tellReport {o : Order} {s : ReportStatus} {d : Nat} (h : p.Kept) : (p.tellReport o s d).Kept := by
  unfold Part.tellReport
  (repeat' split) <;> first | with_reducible exact h | simp (maxDischargeDepth := 99) [h]

@[simp] theorem kept_tellTimeout {o : Order} (h : p.Kept) : (p.tellTimeout o).Kept := by
  unfold Part.tellTimeout
  (repeat' split) <;> first | with_reducible exact h | simp (maxDischargeDepth := 99) [h]

@[simp] theorem kept_tellGone {o : Order} (h : p.Kept) : (p.tellGone o).Kept := by
  unfold Part.tellGone
  (repeat' split) <;> first | with_reducible exact h | simp (maxDischargeDepth := 99) [h]

@[simp] theorem kept_mediaFault {o : Order} {f : EventBits} (h : p.Kept) : (p.mediaFault o f).Kept := by
  unfold Part.mediaFault
  (repeat' split) <;> first | with_reducible exact h | simp (maxDischargeDepth := 99) [h]

@[simp] theorem kept_issuedReport {o : Order} {s : ReportStatus} {d : Nat} (h : p.Kept) : (p.issuedReport o s d).Kept := by
  unfold Part.issuedReport
  dsimp only
  (repeat' split) <;> first | with_reducible exact h | simp (maxDischargeDepth := 99) [h]

@[simp] theorem kept_lateReport {o : Order} {s : ReportStatus} (h : p.Kept) : (p.lateReport o s).Kept := by
  unfold Part.lateReport
  dsimp only
  (repeat' split) <;> first | with_reducible exact h | simp (maxDischargeDepth := 99) [h]

@[simp] theorem kept_takeReport {i : Nat} {s : ReportStatus} {d : Nat} (h : p.Kept) : (p.takeReport i s d).Kept := by
  unfold Part.takeReport
  (repeat' split) <;> first | with_reducible exact h | simp (maxDischargeDepth := 99) [h]

theorem kept_sendCancel {o : Order} (h : p.Kept) (ho : o ∈ p.mp.orders) (hs : o.state ≠ .queued) :
    (p.sendCancel o.id).Kept := ⟨h.alert, h.orders.again ho hs⟩

theorem Part.mem_of_order {i : Nat} {o : Order} (h : p.order i = some o) : o ∈ p.mp.orders ∧ o.id = i := by
  unfold Part.order at h
  exact ⟨List.mem_of_find?_eq_some h, by have := List.find?_some h; simpa using this⟩

@[simp] theorem kept_orderExpired {i : Nat} (h : p.Kept) : (p.orderExpired i).Kept := by
  unfold Part.orderExpired
  split
  · exact h
  · rename_i o ho
    obtain ⟨hm, rfl⟩ := Part.mem_of_order ho
    split
    · rename_i hs
      have := kept_sendCancel h hm (by rw [hs.1]; decide)
      simp (maxDischargeDepth := 99) [this]
    · exact h

@[simp] theorem kept_cancelAgain {i : Nat} (h : p.Kept) : (p.cancelAgain i).Kept := by
  unfold Part.cancelAgain
  split
  · exact h
  · rename_i o ho
    obtain ⟨hm, rfl⟩ := Part.mem_of_order ho
    split
    · rename_i hs
      exact kept_sendCancel h hm (by rw [hs.1]; decide)
    · exact h

@[simp] theorem kept_mediaIdled (h : p.Kept) : (p.mediaIdled).Kept := by
  unfold Part.mediaIdled
  (repeat' split) <;> first | with_reducible exact h | simp (maxDischargeDepth := 99) [h]

@[simp] theorem kept_rejoin {w : Owner} (h : p.Kept) : (p.rejoin w).Kept := by
  unfold Part.rejoin
  dsimp only
  (repeat' split) <;> first | with_reducible exact h | simp (maxDischargeDepth := 99) [h]

end Sys2Proof.Machine
end

