-- ==== Sys2Proof/Laws/Still.lean ====
section
/-! SUPPORT. The operations that leave every channel DISABLED, no QUIESCE in progress and no PLACE held (Part.Still),
and what that gives: an event's reports between blocks have no taker. -/

set_option linter.unnecessarySeqFocus false
set_option linter.unusedTactic false
set_option linter.unusedSimpArgs false

namespace Sys2Proof.Machine

variable {p q : Part}

/-! ### Updates of the blocks -/

theorem Part.Still.of_eq (h : p.Still) (hr : q.re.chans = p.re.chans) (hv : q.sv.quiesce = p.sv.quiesce)
    (hl : q.sl.held = p.sl.held) : q.Still := by
  obtain ⟨h1, h2, h3⟩ := h
  exact ⟨by rw [hr]; exact h1, by rw [hv]; exact h2, by rw [hl]; exact h3⟩

/-- A channel of a part that is still. -/
theorem Part.Still.chan (h : p.Still) (c : Nat) : (p.chan c).state = .disabled ∧ (p.chan c).copy = none := by
  unfold Part.chan
  rw [List.getD_eq_getElem?_getD]
  cases hc : p.re.chans[c]? with
  | none => exact ⟨rfl, rfl⟩
  | some k => exact h.1 k (List.mem_of_getElem? hc)

@[simp] theorem still_ite {c : Prop} [Decidable c] (hp : p.Still) (hq : q.Still) : (if c then p else q).Still := by
  split <;> assumption

theorem still_foldl {α : Type} {f : Part → α → Part} (hf : ∀ q x, Part.Still q → (f q x).Still) :
    ∀ (l : List α) {p : Part}, p.Still → (l.foldl f p).Still
  | [], _, h => h
  | x :: l, _, h => still_foldl hf l (hf _ x h)

@[simp] theorem still_modSv {f : Supervisor → Supervisor} (h : p.Still) (hq : (f p.sv).quiesce = p.sv.quiesce) :
    (p.modSv f).Still := h.of_eq rfl hq rfl
@[simp] theorem still_modSl {f : LogUnit → LogUnit} (h : p.Still) (hl : (f p.sl).held = p.sl.held) :
    (p.modSl f).Still := h.of_eq rfl rfl hl
/-- A change of a channel that leaves its state and has no copy. -/
@[simp] theorem still_modChan {c : Nat} {f : Chan → Chan} (h : p.Still)
    (hf : ∀ k : Chan, k.state = .disabled → k.copy = none → (f k).state = .disabled ∧ (f k).copy = none) :
    (p.modChan c f).Still := by
  refine ⟨fun k hk => ?_, h.2⟩
  simp only [Part.modChan, Part.modRe_re, modAt] at hk
  obtain ⟨i, hi, rfl⟩ := List.getElem_of_mem hk
  rw [List.getElem_modify]
  have hm := h.1 _ (List.getElem_mem (l := p.re.chans) (by simpa using hi))
  split
  · exact hf _ hm.1 hm.2
  · exact hm

@[simp] theorem still_modBm {f : BandManager → BandManager} (h : p.Still) : (p.modBm f).Still := h.of_eq rfl rfl rfl
@[simp] theorem still_modTu {f : TransUnit → TransUnit} (h : p.Still) : (p.modTu f).Still := h.of_eq rfl rfl rfl
@[simp] theorem still_modMp {f : MediaPort → MediaPort} (h : p.Still) : (p.modMp f).Still := h.of_eq rfl rfl rfl
@[simp] theorem still_modSu {f : List Stream → List Stream} (h : p.Still) : (p.modSu f).Still := h.of_eq rfl rfl rfl
@[simp] theorem still_modSc {f : ScoringUnit → ScoringUnit} (h : p.Still) : (p.modSc f).Still := h.of_eq rfl rfl rfl
@[simp] theorem still_modTx {f : TxnUnit → TxnUnit} (h : p.Still) : (p.modTx f).Still := h.of_eq rfl rfl rfl
@[simp] theorem still_modLi {f : LinkIface → LinkIface} (h : p.Still) : (p.modLi f).Still := h.of_eq rfl rfl rfl
@[simp] theorem still_modStore {f : Store → Store} (h : p.Still) : (p.modStore f).Still := h.of_eq rfl rfl rfl
@[simp] theorem still_note {n : Note} (h : p.Still) : (p.note n).Still := h.of_eq rfl rfl rfl
@[simp] theorem still_noNotes (h : p.Still) : (p.noNotes).Still := h.of_eq rfl rfl rfl
@[simp] theorem still_modBand {b : Nat} {f : Band → Band} (h : p.Still) : (p.modBand b f).Still := h.of_eq rfl rfl rfl
@[simp] theorem still_modStream {i : Nat} {f : Stream → Stream} (h : p.Still) : (p.modStream i f).Still := h.of_eq rfl rfl rfl
@[simp] theorem still_modSetup {c : Nat} {f : ChanSetup → ChanSetup} (h : p.Still) : (p.modSetup c f).Still := h.of_eq rfl rfl rfl
@[simp] theorem still_modParked {c : Nat} {f : List Nat → List Nat} (h : p.Still) : (p.modParked c f).Still := h.of_eq rfl rfl rfl
@[simp] theorem still_modTxn {t : Nat} {f : Txn → Txn} (h : p.Still) : (p.modTxn t f).Still := h.of_eq rfl rfl rfl
@[simp] theorem still_modRemap {b o : Nat} {f : Remap → Remap} (h : p.Still) : (p.modRemap b o f).Still := h.of_eq rfl rfl rfl
@[simp] theorem still_modRuns {a n : Nat} {f : Run → Run} (h : p.Still) : (p.modRuns a n f).Still := h.of_eq rfl rfl rfl
@[simp] theorem still_modOrders {f : List Order → List Order} (h : p.Still) : (p.modOrders f).Still := h.of_eq rfl rfl rfl
@[simp] theorem still_follow {f : Follow} (h : p.Still) : (p.follow f).Still := h.of_eq rfl rfl rfl
@[simp] theorem still_modDevice {d : DeviceState} (h : p.Still) : (p.modDevice d).Still := h.of_eq rfl rfl rfl
@[simp] theorem still_say {m : Message} (h : p.Still) : (p.say m).Still := h.of_eq rfl rfl rfl
@[simp] theorem still_sayHeld {m : Message} (h : p.Still) : (p.sayHeld m).Still := h.of_eq rfl rfl rfl
@[simp] theorem still_holdPlaces {n : Nat} (h : p.Still) : (p.holdPlaces n).Still := h.of_eq rfl rfl rfl
@[simp] theorem still_beginSending (h : p.Still) : (p.beginSending).Still := h.of_eq rfl rfl rfl
@[simp] theorem still_count {c : Nat} {f : Tally → Tally} (h : p.Still) : (p.count c f).Still := h.of_eq rfl rfl rfl
@[simp] theorem still_pinBand {b : Nat} (h : p.Still) : (p.pinBand b).Still := h.of_eq rfl rfl rfl
@[simp] theorem still_unpark {b : Nat} (h : p.Still) : (p.unpark b).Still := h.of_eq rfl rfl rfl
@[simp] theorem still_closeOnly {b : Nat} (h : p.Still) : (p.closeOnly b).Still := h.of_eq rfl rfl rfl
@[simp] theorem still_takeVictim {b : Nat} (h : p.Still) : (p.takeVictim b).Still := h.of_eq rfl rfl rfl
@[simp] theorem still_pinRuns {a n : Nat} (h : p.Still) : (p.pinRuns a n).Still := h.of_eq rfl rfl rfl
@[simp] theorem still_holdRuns {a n : Nat} (h : p.Still) : (p.holdRuns a n).Still := h.of_eq rfl rfl rfl
@[simp] theorem still_releaseReserve {n : Nat} (h : p.Still) : (p.releaseReserve n).Still := h.of_eq rfl rfl rfl
@[simp] theorem still_modPlacePiece {t i : Nat} {f : Piece → Piece} (h : p.Still) : (p.modPlacePiece t i f).Still := h.of_eq rfl rfl rfl
@[simp] theorem still_addTxn {t : Txn} (h : p.Still) : (p.addTxn t).Still := h.of_eq rfl rfl rfl
@[simp] theorem still_starve {i : Nat} (h : p.Still) : (p.starve i).Still := h.of_eq rfl rfl rfl
@[simp] theorem still_startDigestTimer (h : p.Still) : (p.startDigestTimer).Still := h.of_eq rfl rfl rfl
@[simp] theorem still_formatHeader (h : p.Still) : (p.formatHeader).Still := h.of_eq rfl rfl rfl
@[simp] theorem still_markDone {u : Nat} (h : p.Still) : (p.markDone u).Still := h.of_eq rfl rfl rfl
@[simp] theorem still_openStream {i c t v l : Nat} (h : p.Still) : (p.openStream i c t v l).Still := h.of_eq rfl rfl rfl
@[simp] theorem still_rewriteDigest (h : p.Still) : (p.rewriteDigest).Still := h.of_eq rfl rfl rfl
@[simp] theorem still_retireTracks {l : List Nat} (h : p.Still) : (p.retireTracks l).Still := by
  unfold Part.retireTracks
  dsimp only
  split
  · exact h
  · exact h.of_eq rfl rfl rfl
@[simp] theorem still_dropFollows (h : p.Still) : (p.dropFollows).Still := h.of_eq rfl rfl rfl
@[simp] theorem still_clearEvents {e : EventBits} (h : p.Still) : (p.clearEvents e).Still := h.of_eq rfl rfl rfl
@[simp] theorem still_placeFreed (h : p.Still) : (p.placeFreed).Still := h.of_eq rfl rfl rfl
@[simp] theorem still_removeOrder {i : Nat} (h : p.Still) : (p.removeOrder i).Still := h.of_eq rfl rfl rfl
@[simp] theorem still_issue {o : Order} {n : Nat} (h : p.Still) : (p.issue o n).Still := h.of_eq rfl rfl rfl
@[simp] theorem still_sendCancel {i : Nat} (h : p.Still) : (p.sendCancel i).Still := h.of_eq rfl rfl rfl
@[simp] theorem still_strayReport (h : p.Still) : (p.strayReport).Still := h.of_eq rfl rfl rfl
@[simp] theorem still_mediaLinkError (h : p.Still) : (p.mediaLinkError).Still := h.of_eq rfl rfl rfl
@[simp] theorem still_leaveOnline {d : DeviceState} (h : p.Still) : (p.leaveOnline d).Still := h.of_eq rfl rfl rfl
/-! ### The Event Set and the Band Manager -/

@[simp] theorem still_announce {f : EventBits} (h : p.Still) : (p.announce f).Still := by
  unfold Part.announce
  (repeat' split) <;> first | with_reducible exact h | simp (maxDischargeDepth := 99) [h]

@[simp] theorem still_raise {f : EventBits} (h : p.Still) : (p.raise f).Still := still_announce (h.of_eq rfl rfl rfl)

@[simp] theorem still_setMask {f : EventBits} (h : p.Still) : (p.setMask f).Still := still_announce (h.of_eq rfl rfl rfl)

@[simp] theorem still_mediaFault {o : Order} {f : EventBits} (h : p.Still) : (p.mediaFault o f).Still := by
  unfold Part.mediaFault
  (repeat' split) <;> first | with_reducible exact h | simp (maxDischargeDepth := 99) [h]

@[simp] theorem still_reportFree {n : Nat} (h : p.Still) : (p.reportFree n).Still := by
  unfold Part.reportFree
  dsimp only
  (repeat' split) <;> first | with_reducible exact h | simp (maxDischargeDepth := 99) [h]

@[simp] theorem still_tellLoss {r : Requester} (h : p.Still) : (p.tellLoss r).Still := by
  cases r
  · exact still_modStream h
  · exact still_modChan h fun _ h1 h2 => ⟨h1, h2⟩

@[simp] theorem still_loseOwner {b : Nat} (h : p.Still) : (p.loseOwner b).Still := by
  unfold Part.loseOwner
  dsimp only
  (repeat' split) <;> first | with_reducible exact h | simp (maxDischargeDepth := 99) [h]

@[simp] theorem still_give {b : Nat} {r : Requester} (h : p.Still) : (p.give b r).Still := by
  cases r
  · exact still_modStream (still_modBand h)
  · exact still_modChan (still_modBand h) fun _ h1 h2 => ⟨h1, h2⟩

@[simp] theorem still_rewind {b : Nat} (h : p.Still) : (p.rewind b).Still := by
  unfold Part.rewind
  dsimp only
  (repeat' split) <;> first | with_reducible exact h | simp (maxDischargeDepth := 99) [h]

@[simp] theorem still_releaseCheck {b : Nat} (h : p.Still) : (p.releaseCheck b).Still := by
  unfold Part.releaseCheck
  dsimp only
  (repeat' split) <;> first | with_reducible exact h | simp (maxDischargeDepth := 99) [h]

@[simp] theorem still_countFell {b : Nat} (h : p.Still) : (p.countFell b).Still := by
  unfold Part.countFell
  dsimp only
  (repeat' split) <;> first | with_reducible exact h | simp (maxDischargeDepth := 99) [h]

@[simp] theorem still_dropCount {b : Nat} {f : Band → Band} (h : p.Still) : (p.dropCount b f).Still := by
  unfold Part.dropCount
  (repeat' split) <;> first | with_reducible exact h | simp (maxDischargeDepth := 99) [h]

@[simp] theorem still_unpinBand {b : Nat} (h : p.Still) : (p.unpinBand b).Still := by
  unfold Part.unpinBand
  (repeat' split) <;> first | with_reducible exact h | simp (maxDischargeDepth := 99) [h]

@[simp] theorem still_landBand {b : Nat} (h : p.Still) : (p.landBand b).Still := by
  unfold Part.landBand
  (repeat' split) <;> first | with_reducible exact h | simp (maxDischargeDepth := 99) [h]

@[simp] theorem still_closeBand {b : Nat} (h : p.Still) : (p.closeBand b).Still := by
  unfold Part.closeBand
  (repeat' split) <;> first | with_reducible exact h | simp (maxDischargeDepth := 99) [h]

@[simp] theorem still_closeTest {b : Nat} (h : p.Still) : (p.closeTest b).Still := by
  unfold Part.closeTest
  dsimp only
  (repeat' split) <;> first | with_reducible exact h | simp (maxDischargeDepth := 99) [h]

@[simp] theorem still_bindSuspect {b : Nat} (h : p.Still) : (p.bindSuspect b).Still := by
  unfold Part.bindSuspect
  (repeat' split) <;> first | with_reducible exact h | simp (maxDischargeDepth := 99) [h]

@[simp] theorem still_bandError {b : Nat} (h : p.Still) : (p.bandError b).Still := by
  unfold Part.bandError
  dsimp only
  (repeat' split) <;> first | with_reducible exact h | simp (maxDischargeDepth := 99) [h]

@[simp] theorem still_orderError {o : Order} (h : p.Still) : (p.orderError o).Still := by
  unfold Part.orderError
  (repeat' split) <;> first | with_reducible exact h | simp (maxDischargeDepth := 99) [h]

@[simp] theorem still_returnOnly {b : Nat} (h : p.Still) : (p.returnOnly b).Still := by
  unfold Part.returnOnly
  (repeat' split) <;> first | with_reducible exact h | simp (maxDischargeDepth := 99) [h]

@[simp] theorem still_returnVictim {b : Nat} (h : p.Still) : (p.returnVictim b).Still := by
  unfold Part.returnVictim
  (repeat' split) <;> first | with_reducible exact h | simp (maxDischargeDepth := 99) [h]

theorem still_bandRequest {r : Requester} {c : Nat} (h : p.Still) : (p.bandRequest r c).2.Still := by
  unfold Part.bandRequest
  (repeat' split) <;> simp (maxDischargeDepth := 99) [*]

theorem still_reserve {r : Requester} {b n : Nat} (h : p.Still) : (p.reserve r b n).2.2.Still := by
  unfold Part.reserve
  dsimp only
  (repeat' split) <;> simp (maxDischargeDepth := 99) [*]

theorem still_joinParked {b : Nat} {f : Part → Nat → Part} (hf : ∀ q b, Part.Still q → (f q b).Still) (h : p.Still) :
    (p.joinParked b f).Still := by
  unfold Part.joinParked
  dsimp only
  refine still_note (still_modParked (still_modBand ?_))
  split
  · split
    · exact hf _ _ h
    · exact h
  · exact h

theorem still_dispose {b : Nat} {f : Part → Nat → Part} (hf : ∀ q b, Part.Still q → (f q b).Still) (h : p.Still) :
    (p.dispose b f).Still := by
  unfold Part.dispose
  split
  · simp [h]
  split
  · exact hf _ _ h
  · exact still_joinParked hf h

@[simp] theorem still_park {b : Nat} {t : TailPolicy} (h : p.Still) : (p.park b t).2.Still := by
  unfold Part.park
  dsimp only
  split
  · exact still_dispose (fun _ _ h => still_closeBand h) (by simp (maxDischargeDepth := 99) [h])
  · exact h

@[simp] theorem still_parkTallied {b : Nat} {t : TailPolicy} (h : p.Still) : (p.parkTallied b t).2.Still := by
  simp [Part.parkTallied, h]

/-! ### The Staging Log Unit and the Translation Unit -/

@[simp] theorem still_levelChecks {o : Part} (h : p.Still) : (p.levelChecks o).Still := by
  unfold Part.levelChecks
  dsimp only
  (repeat' split) <;> first | with_reducible exact h | simp (maxDischargeDepth := 99) [h]

@[simp] theorem still_append {l : List StagedPart} {a c : Nat} (h : p.Still) : (p.append l a c).Still := by
  unfold Part.append
  dsimp only
  exact still_levelChecks (still_note (still_modSl h rfl))

@[simp] theorem still_tailCheck (h : p.Still) : (p.tailCheck).Still := by
  unfold Part.tailCheck
  dsimp only
  split
  · exact h
  · exact still_levelChecks (still_note (still_modSl h rfl))

@[simp] theorem still_freeRuns {a n : Nat} {g : Run → Bool} {f : Run → Run} (h : p.Still) :
    (p.freeRuns a n g f).Still := by
  unfold Part.freeRuns
  split <;> simp (maxDischargeDepth := 99) [h]

@[simp] theorem still_unpinRuns {a n : Nat} (h : p.Still) : (p.unpinRuns a n).Still := by
  unfold Part.unpinRuns
  exact still_freeRuns h

@[simp] theorem still_unholdRuns {a n : Nat} (h : p.Still) : (p.unholdRuns a n).Still := by
  unfold Part.unholdRuns
  exact still_freeRuns h

@[simp] theorem still_landRuns {a n : Nat} (h : p.Still) : (p.landRuns a n).Still := by
  unfold Part.landRuns
  dsimp only
  split <;> simp (maxDischargeDepth := 99) [h]

@[simp] theorem still_pin {l : Place} {n : Nat} (h : p.Still) : (p.pin l n).Still := by
  unfold Part.pin
  (repeat' split) <;> first | with_reducible exact h | simp (maxDischargeDepth := 99) [h]

@[simp] theorem still_unpin {l : Place} {n : Nat} (h : p.Still) : (p.unpin l n).Still := by
  unfold Part.unpin
  (repeat' split) <;> first | with_reducible exact h | simp (maxDischargeDepth := 99) [h]

@[simp] theorem still_land {l : Place} {n : Nat} (h : p.Still) : (p.land l n).Still := by
  unfold Part.land
  (repeat' split) <;> first | with_reducible exact h | simp (maxDischargeDepth := 99) [h]

@[simp] theorem still_unpinOrder {o : Order} (h : p.Still) : (p.unpinOrder o).Still := by
  unfold Part.unpinOrder
  (repeat' split) <;> first | with_reducible exact h | simp (maxDischargeDepth := 99) [h]

/-- In a part that is still no PLACE is held. -/
@[simp] theorem setHeld_false_of_still (h : p.Still) : p.setHeld false = p := by
  unfold Part.setHeld; rw [if_pos h.2.2]

@[simp] theorem still_loseBlocks {x : Place × Nat} (h : p.Still) : (p.loseBlocks x).Still := by
  unfold Part.loseBlocks
  (repeat' split) <;> first | with_reducible exact h | simp (maxDischargeDepth := 99) [h]

@[simp] theorem still_gainBlocks {x : Place × Nat} (h : p.Still) : (p.gainBlocks x).Still := by
  unfold Part.gainBlocks
  (repeat' split) <;> first | with_reducible exact h | simp (maxDischargeDepth := 99) [h]

@[simp] theorem still_mapHighCheck {n : Nat} (h : p.Still) : (p.mapHighCheck n).Still := by
  unfold Part.mapHighCheck
  (repeat' split) <;> first | with_reducible exact h | simp (maxDischargeDepth := 99) [h]

@[simp] theorem still_takeReserve {n : Nat} (h : p.Still) : (p.takeReserve n).Still := by
  unfold Part.takeReserve
  (repeat' split) <;> first | with_reducible exact h | simp (maxDischargeDepth := 99) [h]

@[simp] theorem still_reportRise {o : Part} {b : Nat} (h : p.Still) : (p.reportRise o b).Still := by
  unfold Part.reportRise
  (repeat' split) <;> first | with_reducible exact h | simp (maxDischargeDepth := 99) [h]

@[simp] theorem still_mapUpdate {l : List MapItem} (h : p.Still) : (p.mapUpdate l).2.Still := by
  unfold Part.mapUpdate
  dsimp only
  exact still_follow (still_mapHighCheck (still_foldl (fun _ _ h => still_reportRise h) _
    (still_foldl (fun _ _ h => still_gainBlocks h) _ (still_foldl (fun _ _ h => still_loseBlocks h) _ (still_modTu h)))))

@[simp] theorem still_updateChecks {l : List Nat} {t : Bool} (h : p.Still) : (p.updateChecks l t).Still := by
  unfold Part.updateChecks
  have := still_foldl (f := Part.countFell) (fun _ _ h => still_countFell h) l h
  dsimp only
  split <;> simp [this]

/-! ### The Media Port -/

@[simp] theorem still_setToJoin {w : Owner} {l : List Order} (h : p.Still) : (p.setToJoin w l).Still := by
  cases w
  · exact still_modMp (still_modTxn h)
  · exact still_modMp (still_modChan h fun _ h1 h2 => ⟨h1, h2⟩)

@[simp] theorem still_modOrderRemap {o : Order} {f : Remap → Remap} (h : p.Still) : (p.modOrderRemap o f).Still := by
  unfold Part.modOrderRemap
  (repeat' split) <;> first | with_reducible exact h | simp (maxDischargeDepth := 99) [h]

theorem still_joinOne {o : Order} (h : p.Still) (hq : p.joinOne o = some q) : q.Still := by
  unfold Part.joinOne at hq
  split at hq
  · simp at hq
  · simp only [Option.some.injEq] at hq
    rw [← hq]
    split <;> simp (maxDischargeDepth := 99) [h]

@[simp] theorem still_joinPass {l : List Order} (h : p.Still) : (p.joinPass l).2.Still := by
  unfold Part.joinPass
  suffices ∀ (l : List Order) (a : List Order × Part), a.2.Still →
      (l.foldl (fun acc o => match acc.2.joinOne o with
        | some q => (acc.1, q)
        | none => (acc.1 ++ [o], acc.2)) a).2.Still from this l _ h
  intro l
  induction l with
  | nil => exact fun a h => h
  | cons o l ih =>
    intro a ha
    refine ih _ ?_
    dsimp only
    split
    · exact still_joinOne ha (by assumption)
    · exact ha

@[simp] theorem still_joinList {w : Owner} {l : List Order} (h : p.Still) : (p.joinList w l).Still := by
  unfold Part.joinList
  dsimp only
  (repeat' split) <;> first | with_reducible exact h | simp (maxDischargeDepth := 99) [h]

@[simp] theorem still_joinOrders {w : Owner} {l : List Order} (h : p.Still) : (p.joinOrders w l).Still := by
  unfold Part.joinOrders
  (repeat' split) <;> first | with_reducible exact h | simp (maxDischargeDepth := 99) [h]

@[simp] theorem still_giveBack {o : Order} (h : p.Still) : (p.giveBack o).Still := by
  unfold Part.giveBack
  dsimp only
  (repeat' split) <;> first | with_reducible exact h | simp (maxDischargeDepth := 99) [h]

@[simp] theorem still_withdraw {f : Order → Bool} (h : p.Still) : (p.withdraw f).Still := by
  unfold Part.withdraw
  dsimp only
  split
  · exact h
  · exact still_placeFreed (still_foldl (fun _ _ h => still_giveBack h) _ (still_modOrders h))

/-! ### Remaps -/

@[simp] theorem still_settleRemap {r : Remap} {a : Option Nat} (h : p.Still) : (p.settleRemap r a).Still := by
  unfold Part.settleRemap
  dsimp only
  refine still_note (still_modChan ?_ fun k h1 h2 => ⟨h1, by simp [h2]⟩)
  (repeat' split) <;> simp (maxDischargeDepth := 99) [h]

@[simp] theorem still_settleApplied {b o : Nat} (h : p.Still) : (p.settleApplied b o).Still := by
  unfold Part.settleApplied
  (repeat' split) <;> first | with_reducible exact h | simp (maxDischargeDepth := 99) [h]

/-! ### Streams and transactions -/

theorem still_divideSteps {i c : Nat} : ∀ (n : Nat) {p : Part} {d : Division}, p.Still →
    (Part.divideSteps i c n p d).2.Still
  | 0, _, _, h => h
  | n + 1, p, d, h => by
    unfold Part.divideSteps
    split
    · exact h
    · split
      · rename_i he
        have h1 := congrArg (fun x => Part.Still x.2) he
        simp only [still_bandRequest h, eq_iff_iff, true_iff] at h1
        exact still_starve h1
      · rename_i he
        have h1 := congrArg (fun x => Part.Still x.2) he
        simp only [still_bandRequest h, eq_iff_iff, true_iff] at h1
        dsimp only
        split
        · exact still_starve (still_reserve h1)
        · exact still_divideSteps n (still_reserve h1)

@[simp] theorem still_divide {a : PlaceArgs} {c : Nat} (h : p.Still) : (p.divide a c).2.Still := by
  unfold Part.divide
  dsimp only
  split
  · exact still_divideSteps _ h
  · exact h

@[simp] theorem still_closeStream {i : Nat} (h : p.Still) : (p.closeStream i).2.2.Still := by
  unfold Part.closeStream
  dsimp only
  (repeat' split) <;> simp (maxDischargeDepth := 99) [*]

@[simp] theorem still_streamAdmitted {a : PlaceArgs} {x : Attrs} {d : Division} (h : p.Still) : (p.streamAdmitted a x d).Still := by
  unfold Part.streamAdmitted
  (repeat' split) <;> first | with_reducible exact h | simp (maxDischargeDepth := 99) [h]

@[simp] theorem still_streamExpired {i : Nat} (h : p.Still) : (p.streamExpired i).Still := by
  unfold Part.streamExpired
  dsimp only
  (repeat' split) <;> first | with_reducible exact h | simp (maxDischargeDepth := 99) [h]

@[simp] theorem still_quiesceClose {i : Nat} (h : p.Still) : (p.quiesceClose i).Still := by
  unfold Part.quiesceClose
  rw [h.2.1]
  exact h

@[simp] theorem still_endTxn {t : Txn} {r : Result} {l : List Item} (h : p.Still) : (p.endTxn t r l).Still := by
  unfold Part.endTxn
  dsimp only
  (repeat' split) <;> first | with_reducible exact h | simp (maxDischargeDepth := 99) [h]

@[simp] theorem still_landOld {t i : Nat} {c : Piece} (h : p.Still) : (p.landOld t i c).Still := by
  unfold Part.landOld
  (repeat' split) <;> first | with_reducible exact h | simp (maxDischargeDepth := 99) [h]

@[simp] theorem still_landNew {t i : Nat} {c : Piece} (h : p.Still) : (p.landNew t i c).Still := by
  unfold Part.landNew
  (repeat' split) <;> first | with_reducible exact h | simp (maxDischargeDepth := 99) [h]

@[simp] theorem still_landPositions {t : Nat} (h : p.Still) : (p.landPositions t).Still := by
  unfold Part.landPositions
  split
  · exact h
  · dsimp only
    split
    · exact still_foldl (fun _ _ h => still_landNew h) _ (still_foldl (fun _ _ h => still_landOld h) _ h)
    · exact still_foldl (fun _ _ h => still_landOld h) _ h

@[simp] theorem still_fixOutcome {t : Nat} {r : Result} {l : Option Nat} (h : p.Still) : (p.fixOutcome t r l).Still := by
  unfold Part.fixOutcome
  dsimp only
  (repeat' split) <;> first | with_reducible exact h | simp (maxDischargeDepth := 99) [h]

@[simp] theorem still_placeMap {t : Nat} (h : p.Still) : (p.placeMap t).Still := by
  unfold Part.placeMap
  (repeat' split) <;> first | with_reducible exact h | simp (maxDischargeDepth := 99) [h]

@[simp] theorem still_cancellingEnd {t : Nat} (h : p.Still) : (p.cancellingEnd t).Still := by
  unfold Part.cancellingEnd
  (repeat' split) <;> first | with_reducible exact h | simp (maxDischargeDepth := 99) [h]

@[simp] theorem still_placeEnd {t : Nat} (h : p.Still) : (p.placeEnd t).Still := by
  unfold Part.placeEnd
  split
  · split
    · dsimp only
      exact still_endTxn (still_count (still_foldl (fun _ _ h => still_ite h (still_land h)) _ h))
    · exact h
  · exact h

@[simp] theorem still_discardEnd {t : Nat} (h : p.Still) : (p.discardEnd t).Still := by
  unfold Part.discardEnd
  (repeat' split) <;> first | with_reducible exact h | simp (maxDischargeDepth := 99) [h]

@[simp] theorem still_placeSettle {t : Nat} (h : p.Still) : (p.placeSettle t).Still := by
  unfold Part.placeSettle
  (repeat' split) <;> first | with_reducible exact h | simp (maxDischargeDepth := 99) [h]

@[simp] theorem still_fetchEnd {t : Nat} (h : p.Still) : (p.fetchEnd t).Still := by
  unfold Part.fetchEnd
  (repeat' split) <;> first | with_reducible exact h | simp (maxDischargeDepth := 99) [h]

@[simp] theorem still_prepareRetry {t a b : Nat} {r : RetryRun} (h : p.Still) : (p.prepareRetry t a b r).Still := by
  unfold Part.prepareRetry
  dsimp only
  (repeat' split) <;> first | with_reducible exact h | simp (maxDischargeDepth := 99) [h]

@[simp] theorem still_fetchReport {t : Txn} {a b : Nat} {o : Order} {s : ReportStatus} {d : Nat} (h : p.Still) : (p.fetchReport t a b o s d).Still := by
  unfold Part.fetchReport
  (repeat' split) <;> first | with_reducible exact h | simp (maxDischargeDepth := 99) [h]

@[simp] theorem still_fetchTimeout {t : Txn} {o : Order} (h : p.Still) : (p.fetchTimeout t o).Still := by
  unfold Part.fetchTimeout
  (repeat' split) <;> first | with_reducible exact h | simp (maxDischargeDepth := 99) [h]

@[simp] theorem still_fetchGone {t : Txn} {a b : Nat} {o : Order} (h : p.Still) : (p.fetchGone t a b o).Still := by
  unfold Part.fetchGone
  (repeat' split) <;> first | with_reducible exact h | simp (maxDischargeDepth := 99) [h]

@[simp] theorem still_fetchRetryJoin {t l : Nat} (h : p.Still) : (p.fetchRetryJoin t l).Still := by
  unfold Part.fetchRetryJoin
  (repeat' split) <;> first | with_reducible exact h | simp (maxDischargeDepth := 99) [h]

@[simp] theorem still_popHead (h : p.Still) : (p.popHead).Still := by
  unfold Part.popHead
  have h1 : (p.modTx fun x => { x with queue := x.queue.drop 1 }).Still := still_modTx h
  rw [setHeld_false_of_still h1]
  exact h1

@[simp] theorem still_admitPlace {x : Queued} {a : PlaceArgs} {y : Attrs} {n : Nat} {d : Division} (h : p.Still) : (p.admitPlace x a y n d).Still := by
  unfold Part.admitPlace
  dsimp only
  (repeat' split) <;> first | with_reducible exact h | simp (maxDischargeDepth := 99) [h]

@[simp] theorem still_admitDiscard {x : Queued} {a n : Nat} (h : p.Still) : (p.admitDiscard x a n).Still := by
  unfold Part.admitDiscard
  dsimp only
  (repeat' split) <;> first | with_reducible exact h | simp (maxDischargeDepth := 99) [h]

@[simp] theorem still_admitFetch {x : Queued} {a n : Nat} {f : FetchPlan} (h : p.Still) : (p.admitFetch x a n f).Still := by
  unfold Part.admitFetch
  dsimp only
  (repeat' split) <;> first | with_reducible exact h | simp (maxDischargeDepth := 99) [h]

@[simp] theorem still_endAtHead {x : Queued} {r : Result} {l : List Item} (h : p.Still) : (p.endAtHead x r l).Still := by
  unfold Part.endAtHead
  (repeat' split) <;> first | with_reducible exact h | simp (maxDischargeDepth := 99) [h]

@[simp] theorem still_admitOpen {x : Queued} {i c t v l : Nat} (h : p.Still) : (p.admitOpen x i c t v l).Still := by
  unfold Part.admitOpen
  (repeat' split) <;> first | with_reducible exact h | simp (maxDischargeDepth := 99) [h]

@[simp] theorem still_admitClose {x : Queued} {i : Nat} (h : p.Still) : (p.admitClose x i).Still := by
  unfold Part.admitClose
  dsimp only
  (repeat' split) <;> first | with_reducible exact h | simp (maxDischargeDepth := 99) [h]

/-! ### Events -/

theorem foldl_same {α : Type} {f : Part → α → Part} (hf : ∀ x, f p x = p) : ∀ l : List α, l.foldl f p = p
  | [] => rfl
  | x :: l => by rw [List.foldl_cons, hf]; exact foldl_same hf l

theorem setFlag_of_still (h : p.Still) (c : Nat) : p.setFlag c = p := by
  unfold Part.setFlag; simp [(h.chan c).1]

theorem inputReport_of_still (h : p.Still) (t : TriggerSource) (a b : Nat → Bool) : p.inputReport t a b = p :=
  foldl_same (fun c => by simp [Part.levelReport, setFlag_of_still h]) _

theorem wakeStalled_of_still (h : p.Still) : p.wakeStalled = p :=
  foldl_same (fun c => by simp [setFlag_of_still h]) _

/-- No report between blocks has a taker in a part that is still. -/
theorem handle_of_still (h : p.Still) (n : Note) : p.handle n = p := by
  have hs := fun c => (h.chan c).1
  have hc := fun c => (h.chan c).2
  cases n <;> unfold Part.handle <;> dsimp only
  case destagers => unfold Part.onDestagers; simp [h.2.2]
  case drain => unfold Part.drainEnd; rw [h.2.1]
  case freeCount a b =>
    unfold Part.onFreeCount
    simp only [inputReport_of_still h, wakeStalled_of_still h]
    simp
  case parkJoined => simp [wakeStalled_of_still h]
  case demand a b => simp [Part.onDemand, inputReport_of_still h]
  case logInput => simp [Part.onLogInput, inputReport_of_still h]
  case hour a b => simp [Part.onHour, inputReport_of_still h]
  case victim b =>
    have : p.onVictim b = p := foldl_same (fun c => by simp [Part.settleCheck, hs]) _
    simp [this]
  case service c => simp [Part.startService, hs]
  case select c => simp [Part.selectStep, hs]
  case move c => simp [Part.moveOn, hs]
  case settle c => simp [Part.settleCheck, hs]
  case copy c => simp [Part.copyCheck, hc]
  case piece c => simp [Part.pieceStep, hc]

theorem drain_of_still : ∀ (n : Nat) {p : Part}, p.Still → (drain n p).noNotes = p.noNotes
  | 0, _, _ => rfl
  | n + 1, p, h => by
    unfold drain
    split
    · rfl
    · rename_i rest _
      have h1 : Part.Still { p with notes := rest } := h.of_eq rfl rfl rfl
      rw [handle_of_still h1, drain_of_still n h1]
      rfl

/-- The reports of an event have no taker. -/
theorem drainAll_of_still (h : p.Still) : p.drainAll = p.noNotes := drain_of_still _ h

/-- Nothing to work off. -/
theorem drainAll_of_no_notes (h : p.notes = []) : p.drainAll = p := by
  have : drain Config.cascadeFuel p = p := by
    unfold Config.cascadeFuel drain
    rw [h]
  unfold Part.drainAll
  rw [this]
  unfold Part.noNotes
  rw [← h]

/-- An event that leaves the part still: what it does, the transmitter, and the update it starts. -/
theorem event_of_still {f : Part → Part} (h : (f p).Still) :
    p.event f = (f p).noNotes.beginSending.startUpdate p.image := by
  unfold Part.event; rw [drainAll_of_still h]

/-- An event that makes no report between blocks. -/
theorem event_of_no_notes {f : Part → Part} (h : (f p).notes = []) :
    p.event f = (f p).beginSending.startUpdate p.image := by
  unfold Part.event; rw [drainAll_of_no_notes h]

/-- An event that changes nothing stored, and for which no step waits, starts no update. -/
theorem startUpdate_same {m : Image} (hi : p.image = m) (hf : p.store.follows = []) : p.startUpdate m = p := by
  unfold Part.startUpdate; dsimp only; rw [if_pos ⟨hi, hf⟩]

/-! ### Commands -/

theorem taken_of_hears {s : State} {f : Part → Part} (h : s.deaf = false) :
    s.taken f = .next { s with part := s.part.event f } := by unfold State.taken; rw [h]; rfl

theorem heard_of_hears {s : State} {f : Part → Part} (h : s.deaf = false) :
    s.heard f = .next { s with part := (f s.part).beginSending } := by unfold State.heard; rw [h]; rfl

theorem taken_of_deaf {s : State} {f : Part → Part} (h : s.deaf = true) : s.taken f = .next s := by
  unfold State.taken; rw [h]; rfl

theorem heard_of_deaf {s : State} {f : Part → Part} (h : s.deaf = true) : s.heard f = .next s := by
  unfold State.heard; rw [h]; rfl

/-- A request that passes the checks of R165 gets the verdict of its kind's own rule. -/
theorem arrive_own {k : ReqKind} {r : Req} {hold ok : Bool} {own : Part → Verdict}
    (hp : p.li.canReserve (owed k hold) = true) (hr : p.arrivalRefusal k r ok = none) :
    p.arrive k r hold ok own = match own p with
      | .refuse x items => p.say (replyMsg r.tag x k items)
      | .take p' => p' := by
  unfold Part.arrive; rw [if_pos hp, hr] <;> rfl

/-- A request that a check of R165 refuses. -/
theorem arrive_refused {k : ReqKind} {r : Req} {hold ok : Bool} {own : Part → Verdict} {x : Result}
    (hp : p.li.canReserve (owed k hold) = true) (hr : p.arrivalRefusal k r ok = some x) :
    p.arrive k r hold ok own = p.say (replyMsg r.tag x k []) := by
  unfold Part.arrive; rw [if_pos hp, hr]

/-- A request for which no place can be reserved. -/
theorem arrive_full {k : ReqKind} {r : Req} {hold ok : Bool} {own : Part → Verdict}
    (hp : p.li.canReserve (owed k hold) = false) :
    p.arrive k r hold ok own = p.sayRefusal r.tag .queueFull k := by
  unfold Part.arrive; rw [if_neg (by simp [hp])]

end Sys2Proof.Machine
end

