-- ==== Sys2Proof/Laws/TableResets.lean ====
section
/-! SUPPORT. What the reset steps of the stored tables can change, of a cold start and of the RESET request alike (R41,
R63, R100): the bands and their lists, the Run List and the tail, the flags and their NOTICE, the digest, and the
arbiter's favoured lane. -/

set_option linter.unnecessarySeqFocus false
set_option linter.unusedTactic false
set_option linter.unusedSimpArgs false

namespace Sys2Proof.Machine

/-- The reset steps of the stored tables lead from p to q. -/
structure TableStep (p q : Part) : Prop where
  tx : q.tx = p.tx
  su : q.su = p.su
  re : q.re = p.re
  sc : q.sc = p.sc
  tu : q.tu = p.tu
  store : q.store = p.store
  fresh : q.fresh = p.fresh
  geom : q.bm.geom = p.bm.geom
  mp : ∃ f r, q.mp = { p.mp with favoured := f, runCount := r } ∧ (r = p.mp.runCount ∨ r = 0)
  sv : ∃ e a d, q.sv = { p.sv with events := e, alert := a, header := { p.sv.header with digest := d } }
  li : ∃ l g, q.li = { p.li with queue := l, gathered := g } ∧ (p.li.sending = false → g = p.li.gathered)

variable {p q : Part}

theorem TableStep.refl (p : Part) : TableStep p p :=
  ⟨rfl, rfl, rfl, rfl, rfl, rfl, rfl, rfl, ⟨_, _, rfl, Or.inl rfl⟩, ⟨_, _, _, rfl⟩, ⟨_, _, rfl, fun _ => rfl⟩⟩

theorem TableStep.foldl {α : Type} {f : Part → α → Part} (hf : ∀ q x, TableStep p q → TableStep p (f q x)) :
    ∀ (l : List α) {q : Part}, TableStep p q → TableStep p (l.foldl f q)
  | [], _, h => h
  | x :: l, _, h => TableStep.foldl hf l (hf _ x h)

@[simp] theorem tableStep_ite {c : Prop} [Decidable c] {a b : Part} (ha : TableStep p a) (hb : TableStep p b) :
    TableStep p (if c then a else b) := by split <;> assumption

@[simp] theorem tableStep_modBm {f : BandManager → BandManager} (h : TableStep p q)
    (hg : (f q.bm).geom = q.bm.geom) : TableStep p (q.modBm f) :=
  { h with geom := hg.trans h.geom }
@[simp] theorem tableStep_modBand {b : Nat} {f : Band → Band} (h : TableStep p q) : TableStep p (q.modBand b f) :=
  { h with }
@[simp] theorem tableStep_modParked {c : Nat} {f : List Nat → List Nat} (h : TableStep p q) :
    TableStep p (q.modParked c f) := { h with }
@[simp] theorem tableStep_modSl {f : LogUnit → LogUnit} (h : TableStep p q) : TableStep p (q.modSl f) := { h with }
@[simp] theorem tableStep_note {n : Note} (h : TableStep p q) : TableStep p (q.note n) := { h with }
@[simp] theorem tableStep_unpark {b : Nat} (h : TableStep p q) : TableStep p (q.unpark b) := { h with }
@[simp] theorem tableStep_closeOnly {b : Nat} (h : TableStep p q) : TableStep p (q.closeOnly b) := { h with }

theorem announce_queue (l : LinkIface) (f : EventBits) : ∃ x g, l.announce f = { l with queue := x, gathered := g } ∧
    (l.sending = false → g = l.gathered) := by
  unfold LinkIface.announce
  split
  · exact ⟨_, _, rfl, fun _ => rfl⟩
  · split
    · rename_i h
      refine ⟨_, _, rfl, fun hs => ?_⟩
      simp [hs] at h
    · split <;> exact ⟨_, _, rfl, fun _ => rfl⟩

@[simp] theorem tableStep_raise {f : EventBits} (h : TableStep p q) : TableStep p (q.raise f) := by
  obtain ⟨e, a, d, hv⟩ := h.sv
  obtain ⟨l, g, hl, hg⟩ := h.li
  have hsv : (q.raise f).sv = { q.sv with
      events := q.sv.events ||| f, alert := alertLevel (q.sv.events ||| f) q.sv.mask } := by
    unfold Part.raise Part.announce; dsimp only; split <;> rfl
  have hli : ∃ x g, (q.raise f).li = { q.li with queue := x, gathered := g } ∧
      (q.li.sending = false → g = q.li.gathered) := by
    unfold Part.raise Part.announce
    dsimp only
    split
    · exact ⟨_, _, rfl, fun _ => rfl⟩
    · exact announce_queue _ _
  have heq : (q.raise f).tx = q.tx ∧ (q.raise f).su = q.su ∧ (q.raise f).re = q.re ∧ (q.raise f).sc = q.sc ∧
      (q.raise f).tu = q.tu ∧ (q.raise f).store = q.store ∧ (q.raise f).fresh = q.fresh ∧ (q.raise f).bm = q.bm ∧
      (q.raise f).mp = q.mp := by
    unfold Part.raise Part.announce
    dsimp only
    split <;> exact ⟨rfl, rfl, rfl, rfl, rfl, rfl, rfl, rfl, rfl⟩
  obtain ⟨h1, h2, h3, h4, h5, h6, h7, h8, h9⟩ := heq
  obtain ⟨x, g', hx, hx'⟩ := hli
  refine ⟨h1.trans h.tx, h2.trans h.su, h3.trans h.re, h4.trans h.sc, h5.trans h.tu, h6.trans h.store,
    h7.trans h.fresh, by rw [h8, h.geom], by rw [h9]; exact h.mp, ⟨_, _, d, by rw [hsv, hv]⟩,
    ⟨x, g', by rw [hx, hl], fun hs => ?_⟩⟩
  rw [hx' (by rw [hl]; exact hs), hl]
  exact hg hs

@[simp] theorem tableStep_retireTracks {l : List Nat} (h : TableStep p q) : TableStep p (q.retireTracks l) := by
  obtain ⟨e, a, d, hv⟩ := h.sv
  unfold Part.retireTracks
  dsimp only
  split
  · exact h
  · exact { h with
      geom := h.geom
      sv := ⟨e, a, ((q.modBm fun m => { m with retired := l.foldl (fun l t => insertAsc t l) q.bm.retired }).digest), by
        unfold Part.rewriteDigest
        simp only [Part.modSv_sv, Part.modBm_sv, hv]⟩ }

@[simp] theorem tableStep_modMp {f : Lane} {r : Nat} (h : TableStep p q) (hr : r = q.mp.runCount ∨ r = 0) :
    TableStep p (q.modMp fun m => { m with favoured := f, runCount := r }) := by
  obtain ⟨f', r', hm, hr'⟩ := h.mp
  refine { h with mp := ⟨f, r, by simp only [Part.modMp_mp, hm], ?_⟩ }
  rcases hr with hr | hr
  · rw [hm] at hr; simp only at hr; rw [hr]; exact hr'
  · exact Or.inr hr

@[simp] theorem tableStep_reportFree {n : Nat} (h : TableStep p q) : TableStep p (q.reportFree n) := by
  unfold Part.reportFree
  dsimp only
  (repeat' split) <;> simp (maxDischargeDepth := 99) [h]

@[simp] theorem tableStep_rewind {b : Nat} (h : TableStep p q) : TableStep p (q.rewind b) := by
  unfold Part.rewind
  dsimp only
  split
  · exact tableStep_raise (tableStep_retireTracks (tableStep_modBm (tableStep_modBand h) rfl))
  · exact tableStep_reportFree (tableStep_modBand h)

theorem tableStep_resetPark {b : Nat} (h : TableStep p q) : TableStep p (q.resetPark b) := by
  unfold Part.resetPark Part.dispose Part.joinParked
  dsimp only
  (repeat' split) <;> simp (maxDischargeDepth := 99) [h]

theorem tableStep_resetReturn {b : Nat} (h : TableStep p q) : TableStep p (q.resetReturn b) := by
  unfold Part.resetReturn Part.returnOnly
  (repeat' split) <;> simp (maxDischargeDepth := 99) [h]

theorem tableStep_resetRelease {b : Nat} (h : TableStep p q) : TableStep p (q.resetRelease b) := by
  unfold Part.resetRelease
  dsimp only
  split <;> simp (maxDischargeDepth := 99) [h]

theorem tableStep_levelChecks {o : Part} (h : TableStep p q) : TableStep p (q.levelChecks o) := by
  unfold Part.levelChecks
  dsimp only
  have h1 : TableStep p (if (!o.fillHigh && q.fillHigh) = true then q.raise evStageHigh else q) := by
    simp (maxDischargeDepth := 99) [h]
  have h2 : TableStep p (if o.demandHigh = q.demandHigh then
      (if (!o.fillHigh && q.fillHigh) = true then q.raise evStageHigh else q) else
      (if (!o.fillHigh && q.fillHigh) = true then q.raise evStageHigh else q).note
        (.demand o.demandHigh q.demandHigh)) := tableStep_ite h1 (tableStep_note h1)
  exact tableStep_ite h2 (tableStep_modMp h2 (Or.inr rfl))

theorem tableStep_tailCheck (h : TableStep p q) : TableStep p q.tailCheck := by
  unfold Part.tailCheck
  dsimp only
  split
  · exact h
  · exact tableStep_levelChecks (tableStep_note (tableStep_modSl h))

theorem tableStep_resetLevels (h : TableStep p q) : TableStep p q.resetLevels := by
  unfold Part.resetLevels
  have h1 : TableStep p (if q.fillHigh then q.raise evStageHigh else q) := tableStep_ite (tableStep_raise h) h
  exact tableStep_modMp h1 (Or.inl rfl)

theorem tableStep_freeLowNow (h : TableStep p q) : TableStep p q.freeLowNow := by
  unfold Part.freeLowNow; exact tableStep_ite (tableStep_raise h) h

/-- What the reset steps of the stored tables can change, once the remaps and the reserves are gone (R41, R63,
R100). -/
theorem tableStep_tableResetSteps (p : Part) :
    TableStep (p.modTu fun t => { t with remaps := [], reserveTotal := 0 }) p.tableResetSteps := by
  unfold Part.tableResetSteps
  dsimp only
  split
  · refine tableStep_resetLevels ?_
    unfold Part.logResetSteps
    refine tableStep_tailCheck (tableStep_modSl ?_)
    unfold Part.mapHighNow
    have h1 : TableStep (p.modTu fun t => { t with remaps := [], reserveTotal := 0 })
        (p.modTu fun t => { t with remaps := [], reserveTotal := 0 }).bandResetSteps := by
      unfold Part.bandResetSteps
      dsimp only
      refine TableStep.foldl (fun _ _ h => tableStep_resetRelease h) _ (TableStep.foldl
        (fun _ _ h => tableStep_resetReturn h) _ (TableStep.foldl (fun _ _ h => tableStep_resetPark h) _ ?_))
      exact tableStep_modBm (TableStep.refl _) rfl
    exact tableStep_ite (tableStep_raise h1) h1
  · exact TableStep.refl _

/-- Without a valid format mark the stored tables are left as they are. -/
theorem tableResetSteps_unformatted (h : p.sv.header.mark = false) :
    p.tableResetSteps = p.modTu fun t => { t with remaps := [], reserveTotal := 0 } := by
  unfold Part.tableResetSteps
  dsimp only
  rw [if_neg]
  simp [h]

end Sys2Proof.Machine
end

