-- ==== Sys2Proof/Tests/Slice0.lean ====
section
/-! SUPPORT. Small tests: what WellFormed refuses, one step of some commands, and for every statement with hypotheses
a state and operands that meet them. -/

namespace Sys2Proof.Tests

open Sys2Proof Sys2Proof.Machine Sys2Proof.Spec

/-! ### Small states -/

def q0 (len : Nat) : Req := { tag := 7, bodyLen := len }

def zone0 : Zone := { first := 0, pairs := 1, T := 64, S := 128 }

/-- One pair of 64 tracks and a staging region of 16. -/
def geo : Geometry := { K := 1, zones := [zone0], stgFirst := 64, stgCount := 16, stgS := 128, L := 7822 }

/-- A formatted part in a device state, with nothing on the media. -/
def mounted (d : DeviceState) : Part :=
  { State.reset.part with
    bm := { geom := geo, retired := [], pendingRetire := [], bands := [Band.blank, Band.blank],
            parked := List.replicate 8 [] }
    sv := { State.reset.part.sv with header := { mark := true, digest := digestOf geo [], hours := 0 }, device := d } }

def st (p : Part) : State := { State.reset with part := p }

def online : State := st (mounted .online)

/-- A part with so many of its ordinary places kept. -/
def crowded (n : Nat) : State := st { mounted .online with li := { LinkIface.cold with reserved := n } }

def notice (f : EventBits) : Message := { tag := 0, place := .notice, payload := .notice f }

def busyRefusal : Message := { tag := 9, place := .refusal, payload := .reply .queueFull .status [] }

def placeArgs (stream len : Nat) : PlaceArgs :=
  { stream := stream, cls := 1, tail := 0, verify := 0, start := 0, len := len, handle := 5 }

def tTxn (r : DataReq) : Txn :=
  { tag := 7, hold := false, req := r, cls := 1, tail := .pad, verify := false, streamed := false, reserve := 0
    pieces := [], toJoin := [], outcome := none, failLba := none, holes := [], coveredEnd := 0, blocksRead := 0
    retries := [], ended := false, removed := 0 }

def tOrder (id : Nat) (state : OrderState) : Order :=
  { id := id, op := .read, track := 64, sector := 0, dir := .up, count := 4, place := .log 0, handle := 5, bufOff := 0
    owner := .txn 7, cls := 1, state := state
    timer := if state = .queued then Timer.stopped else { state := .running, elapsed := 0, limit := 2000 }
    lba := 0, piece := 0, attempt := 0, retry := false, update := 0 }

/-- An ONLINE part with transactions and orders. -/
def working (txns : List Txn) (orders : List Order) : Part :=
  { mounted .online with
    tx := { queue := [], txns := txns }
    mp := { MediaPort.cold with ready := true, orders := orders } }

/-- An ONLINE part with one request in the Request Queue. -/
def queued (r : DataReq) : Part :=
  { mounted .online with tx := { queue := [{ tag := 7, hold := false, req := r }], txns := [] } }

/-- Channel 0 of a part. -/
def withChan (p : Part) (k : Chan) : Part :=
  { p with re := { p.re with chans := k :: List.replicate 3 Chan.blank } }

/-- A part with one Map Store update in progress. -/
def updating (p : Part) (follows : List Follow) : Part :=
  { p with store := { p.store with
      updates := [{ id := 0, follows := follows, after := Image.unformatted, done := false }], next := 1 } }

/-! ### Premises in one piece -/

theorem hears_of {s : State} (h : s.pins.resetLine = false ∧ s.part.sv.device ≠ .halted) : Hears s := h

theorem tagFree_of {p : Part} {tag : Nat} (h : (∀ x ∈ p.tx.queue, x.tag ≠ tag) ∧ (∀ t ∈ p.tx.txns, t.tag ≠ tag) ∧
    p.sv.mount = none ∧ p.sv.quiesce = none ∧ p.sv.format = none ∧ p.sv.restore = none) : TagFree p tag := by
  obtain ⟨h1, h2, h3, h4, h5, h6⟩ := h
  unfold TagFree
  rw [h3, h4, h5, h6]
  exact ⟨h1, h2, by simp, by simp, by simp, by simp⟩

/-- Arrives from one condition that can be decided. -/
theorem arrives_of {s : State} {k : ReqKind} {q : Req} {owes len : Nat}
    (h : (s.pins.resetLine = false ∧ s.part.sv.device ≠ .halted) ∧
      ((s.part.li.queue.countP fun m => decide (m.place = .ordinary)) + s.part.li.reserved + owes ≤ 70) ∧
      ((∀ x ∈ s.part.tx.queue, x.tag ≠ q.tag) ∧ (∀ t ∈ s.part.tx.txns, t.tag ≠ q.tag) ∧
        s.part.sv.mount = none ∧ s.part.sv.quiesce = none ∧ s.part.sv.format = none ∧ s.part.sv.restore = none) ∧
      s.part.sv.reset = none ∧ q.bodyLen = len ∧ k.takenIn s.part.sv.device = true) : Arrives s k q owes len where
  hears := h.1
  places := h.2.1
  tag := .inr (tagFree_of h.2.2.1)
  reset := .inr h.2.2.2.1
  length := h.2.2.2.2.1
  tables := fun _ => ⟨h.2.2.1.2.2.2.2.1, h.2.2.1.2.2.2.2.2⟩
  state := h.2.2.2.2.2

/-- The arrival of a CANCEL, whose target is a live tag. -/
theorem arrives_cancel {s : State} {q : Req} (h : (s.pins.resetLine = false ∧ s.part.sv.device ≠ .halted) ∧
      ((s.part.li.queue.countP fun m => decide (m.place = .ordinary)) + s.part.li.reserved + 1 ≤ 70) ∧
      s.part.sv.reset = none ∧ q.bodyLen = 1) : Arrives s .cancel q 1 1 where
  hears := h.1
  places := h.2.1
  tag := .inl rfl
  reset := .inr h.2.2.1
  length := h.2.2.2
  tables := fun h => absurd h (by decide)
  state := by cases s.part.sv.device <;> rfl

/-- Heads where no transaction is live. -/
theorem heads_of {s : State} {h : Queued} (x : (s.pins.resetLine = false ∧ s.part.sv.device ≠ .halted) ∧
      (s.part.notes = [] ∧ s.part.store.follows = []) ∧ (s.part.sv.reset = none ∧ s.part.sv.restore = none) ∧
      s.part.tx.queue.head? = some h ∧ h.req.kind.takenIn s.part.sv.device = true ∧ s.part.tx.txns = []) :
    Heads s h where
  hears := x.1
  rested := x.2.1
  admits := x.2.2.1
  front := x.2.2.2.1
  state := x.2.2.2.2.1
  record := by rw [x.2.2.2.2.2]; decide
  range := by rw [x.2.2.2.2.2]; simp
  stream := by rw [x.2.2.2.2.2]; simp

theorem room_of {p : Part} {n : Nat}
    (h : (p.li.queue.countP fun m => decide (m.place = .ordinary)) + p.li.reserved + n ≤ 70) : Room p n := h

theorem noRoom_of {p : Part} {n : Nat}
    (h : ¬(p.li.queue.countP fun m => decide (m.place = .ordinary)) + p.li.reserved + n ≤ 70) : ¬Room p n := h

theorem rested_of {p : Part} (h : p.notes = [] ∧ p.store.follows = []) : p.Rested := h

theorem still_of {p : Part} (h : (∀ k ∈ p.re.chans, k.state = .disabled ∧ k.copy = none) ∧ p.sv.quiesce = none ∧
    p.sl.held = false) : p.Still := h

/-! ### What WellFormed refuses -/

theorem test_wf_accepts : ([.status (q0 0), .coldStart 3, .badKindRequest 0 8, .eventsRead (q0 3) 3,
    .triggerSet (q0 2) 0 2, .classRead (q0 2) 1 0, .channelRead (q0 2) 3 255, .timersRead (q0 1) 2, .regionRead (q0 1) 0,
    .scoringRead (q0 2) 3 true, .format (q0 26) geo [3], .place (q0 16) true (placeArgs 16 8192),
    .orderTimerExpiry 63, .streamIdleExpiry 16, .orderRejoin (.chan 3), .report 255 .fault 65535] : List Instr).all
    Instr.wf = true := by decide
theorem test_wf_tag : (Instr.status { tag := 256, bodyLen := 0 }).wf = false := by decide
theorem test_wf_body : (Instr.status { tag := 0, bodyLen := 6450 }).wf = false := by decide
theorem test_wf_straps : (Instr.coldStart 4).wf = false := by decide
theorem test_wf_badKind : ([.badKindRequest 0 1, .badKindRequest 0 0x25, .badKindRequest 0 256, .badKindRequest 256 8] :
    List Instr).any Instr.wf = false := by decide
theorem test_wf_cancel : (Instr.cancel (q0 1) 256).wf = false := by decide
theorem test_wf_forms : ([.eventsRead (q0 3) 1, .eventsRead (q0 3) 2, .eventsRead (q0 3) 256, .triggerSet (q0 2) 0 1,
    .classRead (q0 2) 1 1, .regionRead (q0 1) 1, .scoringRead (q0 2) 1 true, .scoringRead (q0 2) 2 true,
    .channelRead (q0 2) 0 1, .timersRead (q0 1) 1] : List Instr).any Instr.wf = false := by decide
theorem test_wf_numbers : ([.tally (q0 2) 256 true, .band (q0 2) 65536, .triggerClear (q0 2) 256,
    .scoringWrite (q0 3) true 256, .scoringEvaluate (q0 4) true 65536, .retire (q0 4) (256 ^ 4),
    .fetch (q0 12) true (256 ^ 5) 1 0, .fetch (q0 12) true 0 65536 0, .fetch (q0 12) true 0 1 (256 ^ 4),
    .discard (q0 11) true 0 (256 ^ 5), .locate (q0 9) 0 (256 ^ 4), .streamOpen (q0 8) 256 0 0 0 0,
    .streamOpen (q0 8) 1 256 0 0 0, .streamOpen (q0 8) 1 0 256 0 0, .streamOpen (q0 8) 1 0 0 256 0,
    .streamOpen (q0 8) 1 0 0 0 (256 ^ 4), .streamClose (q0 1) 256, .report 256 .ok 0, .report 0 .ok 65536] :
    List Instr).any Instr.wf = false := by decide
theorem test_wf_zone : ([{ zone0 with first := 256 ^ 3 }, { zone0 with pairs := 65536 }, { zone0 with T := 65536 },
    { zone0 with S := 65536 }] : List Zone).any Zone.wf = false := by decide
theorem test_wf_geometry : ([{ geo with K := 256 }, { geo with zones := [{ zone0 with T := 65536 }] },
    { geo with stgFirst := 256 ^ 3 }, { geo with stgCount := 256 ^ 3 }, { geo with stgS := 65536 },
    { geo with L := 256 ^ 5 }] : List Geometry).any Geometry.wf = false := by decide
theorem test_wf_geometry_zones : ({ geo with zones := List.replicate 256 zone0 } : Geometry).wf = false := by
  decide +kernel
theorem test_wf_tables : ([.format (q0 0) { geo with K := 256 } [], .format (q0 0) geo [256 ^ 3],
    .restore (q0 0) geo [256 ^ 3]] : List Instr).any Instr.wf = false := by decide
theorem test_wf_region : ([⟨256 ^ 5, 1, 0, 0, 0⟩, ⟨0, 256 ^ 5, 0, 0, 0⟩, ⟨0, 1, 256, 0, 0⟩, ⟨0, 1, 0, 256, 0⟩,
    ⟨0, 1, 0, 0, 256⟩] : List Region).any Region.wf = false := by decide
theorem test_wf_regions : (Instr.regionWrite (q0 0) (List.replicate 256 ⟨0, 1, 0, 0, 0⟩)).wf = false := by
  decide +kernel
theorem test_wf_class : ([⟨256, 0, 0, 0, 0⟩, ⟨0, 256, 0, 0, 0⟩, ⟨0, 0, 65536, 0, 0⟩, ⟨0, 0, 0, 256, 0⟩,
    ⟨0, 0, 0, 0, 256⟩] : List ClassArgs).any ClassArgs.wf = false := by decide
theorem test_wf_class_number : (Instr.classWrite (q0 8) 256 ⟨0, 0, 0, 0, 0⟩).wf = false := by decide
theorem test_wf_channel : ([⟨256, 0, 0, 0, 0, 0, 0, 0, 0, 0, 0⟩, ⟨0, 256, 0, 0, 0, 0, 0, 0, 0, 0, 0⟩,
    ⟨0, 0, 256, 0, 0, 0, 0, 0, 0, 0, 0⟩, ⟨0, 0, 0, 256, 0, 0, 0, 0, 0, 0, 0⟩, ⟨0, 0, 0, 0, 65536, 0, 0, 0, 0, 0, 0⟩,
    ⟨0, 0, 0, 0, 0, 256, 0, 0, 0, 0, 0⟩, ⟨0, 0, 0, 0, 0, 0, 0, 256 ^ 4, 0, 0, 0⟩,
    ⟨0, 0, 0, 0, 0, 0, 0, 0, 256 ^ 4, 0, 0⟩, ⟨0, 0, 0, 0, 0, 0, 0, 0, 0, 256 ^ 4, 0⟩,
    ⟨0, 0, 0, 0, 0, 0, 0, 0, 0, 0, 65536⟩] : List ChannelArgs).any ChannelArgs.wf = false := by decide
theorem test_wf_channel_number : (Instr.channelWrite (q0 25) 256 ⟨0, 0, 0, 0, 0, 0, 0, 0, 0, 0, 0⟩).wf = false := by
  decide
theorem test_wf_timers : ([⟨65536, 0, 0, 0, 0, 0, 0, 0⟩, ⟨0, 65536, 0, 0, 0, 0, 0, 0⟩, ⟨0, 0, 256, 0, 0, 0, 0, 0⟩,
    ⟨0, 0, 0, 256, 0, 0, 0, 0⟩, ⟨0, 0, 0, 0, 256, 0, 0, 0⟩, ⟨0, 0, 0, 0, 0, 256, 0, 0⟩,
    ⟨0, 0, 0, 0, 0, 0, 65536, 0⟩, ⟨0, 0, 0, 0, 0, 0, 0, 65536⟩] : List TimerArgs).any TimerArgs.wf = false := by decide
theorem test_wf_place : ([⟨256, 0, 0, 0, 0, 1, 0⟩, ⟨0, 256, 0, 0, 0, 1, 0⟩, ⟨0, 0, 256, 0, 0, 1, 0⟩,
    ⟨0, 0, 0, 256, 0, 1, 0⟩, ⟨0, 0, 0, 0, 256 ^ 5, 1, 0⟩, ⟨0, 0, 0, 0, 0, 65536, 0⟩, ⟨0, 0, 0, 0, 0, 1, 256 ^ 4⟩] :
    List PlaceArgs).any PlaceArgs.wf = false := by decide
theorem test_wf_events : ([.orderTimerExpiry 64, .cancelRepeat 64, .streamIdleExpiry 0, .streamIdleExpiry 17,
    .orderRejoin (.txn 256), .orderRejoin (.chan 4), .fetchRetryJoin 256 0, .remapPostRetry 4, .placeMapUpdate 256,
    .transactionCancellingEnd 256, .fetchEnd 256, .channelStopComplete 4, .placeUpdateDurable 256,
    .discardUpdateDurable 256] : List Instr).any Instr.wf = false := by decide

/-! ### Premises met: the machine as a whole, events and arrival -/

theorem witness_StepTakesTheFrontCommand : ({ online with pending := [.ready, .notReady] } : State).pending =
    .ready :: [.notReady] := rfl

/-- A part on which a character has come, or none. -/
def heard (d : DeviceState) (l : Option Link) : State :=
  { st (mounted d) with line := l.toList.map fun x => ⟨x, .byte 0xC3#8⟩ }

/-- No character, one of each link, and a part that is HALTED with a character and without. -/
theorem witness_EmptyQueuePassesOneMillisecond :
    (∀ l ∈ [none, some Link.command, some Link.media], (heard .online l).pending = [] ∧ Hears (heard .online l)) ∧
    (∀ l ∈ [none, some Link.command], (heard .halted l).pending = [] ∧ ¬Hears (heard .halted l)) ∧
    ((heard .online none).line = [] ∧ (heard .online (some .command)).line = ⟨.command, .byte 0xC3#8⟩ :: [] ∧
      (heard .online (some .media)).line = ⟨.media, .byte 0xC3#8⟩ :: []) :=
  ⟨fun _ _ => ⟨rfl, hears_of ⟨rfl, by simp [heard, st, mounted]⟩⟩, fun _ _ => ⟨rfl, fun h => h.2 rfl⟩, rfl, rfl, rfl⟩

theorem witness_DeafPartStaysAsItIs : ¬Hears (st (mounted .halted)) ∧
    ¬Hears { online with pins := { online.pins with resetLine := true } } :=
  ⟨fun h => absurd h.2 (by decide), fun h => absurd h.1 (by decide)⟩

/-- A valid mark, and none. -/
theorem witness_ColdStartKeepsTheStoreAndClearsTheRest : online.part.store.updates = [] ∧
    online.part.sv.format = none ∧ online.part.sv.header.mark = true ∧ State.reset.part.store.updates = [] ∧
    State.reset.part.sv.format = none ∧ State.reset.part.sv.header.mark = false := by decide

theorem witness_LineCommandsActOnTheirLine : online.pins.resetLine = false ∧
    ({ online with pins := { online.pins with resetLine := true } } : State).pins.resetLine = true := by decide

/-- Each clause: nothing new, no NOTICE, a NOTICE being sent, one that waits at the front, one that waits behind. -/
theorem witness_RaisedFlagGoesToTheEventSetAndANotice :
    (0#12 &&& ~~~0#12 &&& ~~~0#12 = 0#12) ∧ evFence &&& ~~~0#12 &&& ~~~0#12 ≠ 0 ∧
    (∀ m ∈ online.part.li.queue, m.place ≠ .notice) ∧
    (notice evFence).place = .notice ∧
    ([busyRefusal, notice evFence] = [busyRefusal] ++ notice evFence :: [] ∧
      ∀ x ∈ [busyRefusal] ++ [], x.place ≠ .notice) := by decide

/-- The longest body, the first length that is too long, and a check that is off by one. -/
theorem witness_DiscardedFramesAreCounted : Hears online ∧ (List.replicate 6449 0#8).length ≤ 6449 ∧
    6449 < 256 * (0x19#8).toNat + (0x32#8).toNat ∧ ¬6449 < 256 * (0x19#8).toNat + (0x31#8).toNat ∧
    (crc16 (natChars 2 0 ++ [1, 7])).toNat ≠ 256 * (0#8).toNat + (0#8).toNat :=
  ⟨hears_of (by decide), Nat.le_of_eq List.length_replicate, by decide, by decide, by decide +kernel⟩

/-- Some frames of requests, a kind that is none, and the three answers to it. -/
theorem witness_BadKindIsRefused :
    (∀ x ∈ [(Instr.status (q0 0), 1, []), (.band (q0 2) 3, 5, natChars 2 3), (.streamClose (q0 1) 16, 0x25, [16]),
        (.cancel (q0 1) 255, 2, [255])], x.1.wf = true ∧ frameOf x.1 = some x.2 ∧
      reqOf x.1 = some (q0 x.2.2.length)) ∧
    (isRequestCode 8 = false ∧ isRequestCode 0 = false ∧ isRequestCode 0x26 = false ∧ isRequestCode 0x25 = true) ∧
    Hears (crowded 69) ∧ Room (crowded 69).part 1 ∧ Hears (crowded 70) ∧
    ¬Room (crowded 70).part 1 ∧ (∀ m ∈ (crowded 70).part.li.queue, m.place ≠ .refusal) ∧
    (∃ m ∈ [busyRefusal], m.place = TxPlace.refusal) :=
  ⟨by decide, by decide, hears_of (by decide), room_of (by decide), hears_of (by decide), noRoom_of (by decide),
    by decide, ⟨busyRefusal, by decide, rfl⟩⟩

theorem witness_SentFrameLeavesItsQueue :
    let l : LinkIface := { LinkIface.cold with queue := [notice evFence, busyRefusal], sending := true }
    (st { mounted .online with li := l }).pins.resetLine = false ∧ l.queue = notice evFence :: [busyRefusal] ∧
      l.sending = true ∧ LinkIface.cold.sending = false := by decide

/-- One request for each clause: no place, a busy tag, a reset in progress, a wrong length, tables being written, a
state that does not take the kind. -/
theorem witness_ArrivalChecksInTheirOrder :
    let busy := st (working [tTxn (.locate 0 1)] [])
    let resetting := st { mounted .online with
      sv := { (mounted .online).sv with reset := some { tag := 1, count := 1, allTaken := false } } }
    let restoring := st { mounted .fenced with sv := { (mounted .fenced).sv with restore := some 1 } }
    requestOf (.mount (q0 1) false) = some (.mount, q0 1, false) ∧ (ReqKind.mount.isLong = true) ∧
    (Hears (crowded 69) ∧ (crowded 69).part.Rested ∧ ¬Room (crowded 69).part 2 ∧
      ∀ m ∈ (crowded 69).part.li.queue, m.place ≠ .refusal) ∧
    requestOf (.status (q0 0)) = some (.status, q0 0, true) ∧
    (Hears busy ∧ busy.part.Rested ∧ Room busy.part 1 ∧ ¬TagFree busy.part (q0 0).tag) ∧
    (Hears resetting ∧ resetting.part.Rested ∧ Room resetting.part 1 ∧ TagFree resetting.part 7 ∧
      resetting.part.sv.reset ≠ none) ∧
    (Hears online ∧ online.part.Rested ∧ Room online.part 1 ∧ TagFree online.part 7 ∧ online.part.sv.reset = none ∧
      ¬LengthOk (.status (q0 1)) ∧ LengthOk (.band (q0 2) 0)) ∧
    (Hears restoring ∧ restoring.part.Rested ∧ Room restoring.part 1 ∧ LengthOk (.timersRead (q0 1) 0) ∧
      ReqKind.timers.isSetup = true ∧ restoring.part.sv.restore ≠ none) ∧
    stateRefusal .band State.reset.part.sv.device = some .wrongState := by
  refine ⟨rfl, rfl, ⟨hears_of (by decide), rested_of (by decide), noRoom_of (by decide), by decide⟩, rfl,
    ⟨hears_of (by decide), rested_of (by decide), room_of (by decide), fun h => absurd h.2.1 (by decide)⟩,
    ⟨hears_of (by decide), rested_of (by decide), room_of (by decide), tagFree_of (by decide), by decide⟩,
    ⟨hears_of (by decide), rested_of (by decide), room_of (by decide), tagFree_of (by decide), rfl,
      (by decide : ¬((1 : Nat) = 0)), (rfl : (2 : Nat) = 2)⟩,
    ⟨hears_of (by decide), rested_of (by decide), room_of (by decide), (rfl : (1 : Nat) = 1), rfl, by decide⟩, rfl⟩

/-! ### Premises met: reads, and requests that act at once -/

theorem witness_StatusReportsThePartAsItStands : Arrives State.reset .status (q0 0) 1 0 := arrives_of (by decide)

theorem witness_EventsRegionAndTimersReads : Arrives online .events (q0 3) 1 3 ∧ Arrives online .region (q0 1) 1 1 ∧
    Arrives online .timers (q0 1) 1 1 :=
  ⟨arrives_of (by decide), arrives_of (by decide), arrives_of (by decide)⟩

/-- Slots 15 and 16. -/
theorem witness_TallyReportsAndClears : Arrives State.reset .tally (q0 2) 1 2 ∧ 15 ≤ 15 ∧ 15 < 16 :=
  ⟨arrives_of (by decide), by decide⟩

theorem witness_ScoringReadReportsAndClears : Arrives online .scoring (q0 2) 1 2 ∧ 2 < 3 :=
  ⟨arrives_of (by decide), by decide⟩

/-- Bands 1 and 2 of a part with two bands, and a part that is UNFORMATTED. -/
theorem witness_BandAndEvaluateReportOneBand : Arrives online .band (q0 2) 1 2 ∧ Arrives online .scoring (q0 4) 1 4 ∧
    (1 < 2 * pairCount online.part.bm.geom ∧ 2 * pairCount online.part.bm.geom ≤ 2) ∧
    (State.reset.part.Rested ∧ Hears State.reset ∧ Room State.reset.part 1 ∧ TagFree State.reset.part 7 ∧
      State.reset.part.sv.reset = none ∧ State.reset.part.sv.device = .unformatted) :=
  ⟨arrives_of (by decide), arrives_of (by decide), by decide,
    ⟨rested_of (by decide), hears_of (by decide), room_of (by decide), tagFree_of (by decide), by decide⟩⟩

theorem witness_ClassAndChannelReads : Arrives online .cls (q0 2) 1 2 ∧ Arrives online .channel (q0 2) 1 2 :=
  ⟨arrives_of (by decide), arrives_of (by decide)⟩

theorem witness_EventsClearReportsThenClears : Arrives State.reset .events (q0 3) 1 3 := arrives_of (by decide)

/-- A channel that is IDLE, one that is at work, one that is DISABLED, one that is being stopped. -/
theorem witness_TriggerSetsAndClearsTheFlag :
    let s (k : Chan) := st (withChan (mounted .online) k)
    let idle := s { Chan.blank with state := .idle }
    let move := s { Chan.blank with state := .move }
    let stopped := s { Chan.blank with state := .move, stop := some .disable }
    (Arrives idle .trigger (q0 2) 1 2 ∧ idle.part.Rested ∧ (idle.part.chan 0).state ≠ .disabled ∧
      (idle.part.chan 0).stop = none) ∧
    (Arrives move .trigger (q0 2) 1 2 ∧ (move.part.chan 0).state = .move) ∧
    (Arrives stopped .trigger (q0 2) 1 2 ∧ (stopped.part.chan 0).stop ≠ none) ∧ (move.part.chan 3).state = .disabled :=
  ⟨⟨arrives_of (by decide), rested_of (by decide), by decide⟩, ⟨arrives_of (by decide), by decide⟩,
    ⟨arrives_of (by decide), by decide⟩, by decide⟩

/-- A tag in the Request Queue, one in neither table, one that is ENDED, one in CANCELLING. -/
theorem witness_CancelOfQueuedEndingAndUnknown :
    let waiting := st (queued (.locate 0 1))
    let gone := st (working [{ tTxn (.discard 0 1) with ended := true }] [])
    let ending := st (working [{ tTxn (.fetch 0 4 5) with outcome := some .cancelled }] [tOrder 0 .issued])
    (Arrives waiting .cancel (q0 1) 1 1 ∧ waiting.part.Rested ∧ waiting.part.Still ∧
      (waiting.part.tx.queue.find? fun y => decide (y.tag = 7)) = some { tag := 7, hold := false, req := .locate 0 1 }) ∧
    (Arrives gone .cancel (q0 1) 1 1 ∧ gone.part.Still ∧ (∀ t ∈ gone.part.tx.txns, t.tag = 7 → t.ended = true)) ∧
    (Arrives ending .cancel (q0 1) 1 1 ∧ ending.part.Still ∧ (∀ y ∈ ending.part.tx.queue, y.tag ≠ 7) ∧
      ending.part.txn 7 = some { tTxn (.fetch 0 4 5) with outcome := some .cancelled }) :=
  ⟨⟨arrives_cancel (by decide), rested_of (by decide), still_of (by decide), by decide⟩,
    ⟨arrives_cancel (by decide), still_of (by decide), by decide⟩,
    ⟨arrives_cancel (by decide), still_of (by decide), by decide⟩⟩

theorem witness_CancelOfLiveTransaction :
    let s := st (working [tTxn (.fetch 0 8 5)] [tOrder 0 .issued, tOrder 1 .queued])
    Arrives s .cancel (q0 1) 1 1 ∧ s.part.Rested ∧ s.part.Still ∧ (∀ y ∈ s.part.tx.queue, y.tag ≠ 7) ∧
      s.part.txn 7 = some (tTxn (.fetch 0 8 5)) ∧ (tTxn (.fetch 0 8 5)).ended = false ∧
      (tTxn (.fetch 0 8 5)).outcome = none ∧ (tOrder 0 .issued ∈ s.part.mp.orders ∧ (tOrder 0 .issued).owner = .txn 7 ∧
        (tOrder 0 .issued).state ≠ .queued) :=
  ⟨arrives_cancel (by decide), rested_of (by decide), still_of (by decide), by decide⟩

/-! ### Premises met: setup requests and supervision -/

def region (start len : Nat) : Region := { start := start, len := len, cls := 8, tail := 2, verify := 2 }

theorem witness_MaskClassRegionAndScoringWrites : online.part.Rested ∧ Arrives online .events (q0 3) 1 3 ∧
    Arrives online .cls (q0 8) 1 8 ∧ Arrives online .region (q0 28) 1 (2 + 13 * [region 0 1, region 1 2].length) ∧
    Arrives online .scoring (q0 3) 1 3 ∧ 3 < 4 :=
  ⟨rested_of (by decide), arrives_of (by decide), arrives_of (by decide), arrives_of (by decide),
    arrives_of (by decide), by decide⟩

/-- A list with a fault, and one without. -/
theorem witness_RegionListAcceptedWhenOrderedAndDisjoint : regionFault 100 0 none [region 0 2, region 1 2] = some 1 ∧
    regionFault 100 0 none [region 0 2, region 2 98] = none := by decide

theorem witness_TimersWriteStoresSettingsInRange : Arrives online .timers (q0 13) 1 13 := arrives_of (by decide)

/-- A staging region that is filled so far: 12 and 15 sixteenths are the high mark and the urgent level. -/
def filled (sixteenths : Nat) : Part :=
  let r : Run :=
    { pos := 0, len := 128 * sixteenths, start := 0, live := 0, cls := 1, inFlight := false, pins := 0, hold := 0 }
  { mounted .online with sl := { runs := [r], head := 128 * sixteenths % 2048, tail := 0, held := false } }

theorem witness_LevelsOfFillRaiseStageHighAndTurnTheLane :
    let high (x : Part) : Prop := 0 < stgCap x.bm ∧ x.sv.settings.highMark * stgCap x.bm ≤ 16 * fill x.sl
    let urgent (x : Part) : Prop := 0 < stgCap x.bm ∧ 15 * stgCap x.bm ≤ 16 * fill x.sl
    ¬high (filled 11) ∧ high (filled 12) ∧ ¬urgent (filled 14) ∧ urgent (filled 15) := by decide

def chanArgs (job : Nat) : ChannelArgs :=
  { enable := 1, job := job, source := 4, mode := 2, count := 1024, destClass := 8, victims := 0x01FE, handle := 0
    compareHour := 0, period := 0, freeLow := 8 }

def chanSetup (job : Job) : ChanSetup :=
  { enable := true, job := job, source := .mediaIdle, mode := .batch, count := 1024, destClass := 8, victims := 0x01FE
    handle := 0, compareHour := 0, period := 0, freeLow := 8 }

/-- A channel that is DISABLED in a part that is not ONLINE, and one that is not, under another job. -/
theorem witness_ChannelWriteStoresItsSetup :
    let stopped := st (mounted .stopped)
    let busy := st (withChan (mounted .online) { Chan.blank with state := .idle })
    (Arrives stopped .channel (q0 25) 1 25 ∧ stopped.part.Rested ∧ (stopped.part.chan 0).state = .disabled ∧
      stopped.part.sv.device ≠ .online ∧ stopped.part.sl.held = false) ∧
    ((chanArgs 1).enable = (if (chanSetup .reclaim).enable then 1 else 0) ∧ (chanArgs 1).job = (chanSetup .reclaim).job.code ∧
      (chanArgs 1).source = (chanSetup .reclaim).source.code ∧ (chanArgs 1).mode = (chanSetup .reclaim).mode.code ∧
      (chanSetup .reclaim).count = max 1 (min 65535 (chanArgs 1).count) ∧
      (chanSetup .reclaim).freeLow = max 1 (min 255 (chanArgs 1).freeLow) ∧ (chanArgs 1).victims &&& ~~~0x01FE#16 = 0) ∧
    (Arrives busy .channel (q0 25) 1 25 ∧ busy.part.Rested ∧ (busy.part.chan 0).state ≠ .disabled ∧
      (chanSetup .reclaim).job ≠ (busy.part.setup 0).job ∧ (chanSetup .destage).job = (busy.part.setup 0).job ∧
      (chanSetup .destage).handle = (busy.part.setup 0).handle) :=
  ⟨⟨arrives_of (by decide), rested_of (by decide), by decide⟩, by decide,
    ⟨arrives_of (by decide), rested_of (by decide), by decide⟩⟩

theorem witness_OnlyARunningChannelBecomesIdle :
    let p : Part := { mounted .online with
      re := { setups := List.replicate 4 (chanSetup .destage), chans := List.replicate 4 Chan.blank } }
    ((p.setup 3).enable = true ∧ p.sv.device = .online ∧ (p.chan 3).stop = none ∧ (p.chan 3).state = .disabled ∧
      3 < p.re.chans.length) ∧ ((mounted .online).setup 3).enable = false := by decide

/-- A RESET request in progress, whose answer has been taken or has not. -/
def inReset (p : Part) (awaits : Bool) : State :=
  st { p with
    sv := { p.sv with reset := some { tag := 7, count := 1, allTaken := !awaits } }
    mp := { p.mp with awaitAll := awaits } }

theorem witness_ResetTakenAndJoined : (Hears online ∧ online.part.Rested ∧ online.part.sv.reset = none ∧ Room online.part 1) ∧
    (Hears (inReset (mounted .online) true) ∧ (inReset (mounted .online) true).part.Rested ∧
      (inReset (mounted .online) true).part.sv.reset = some { tag := 7, count := 1, allTaken := false }) ∧
    (Hears (inReset (mounted .online) false) ∧ (inReset (mounted .online) false).part.mp.awaitAll = false) :=
  ⟨⟨hears_of (by decide), rested_of (by decide), by decide, room_of (by decide)⟩,
    ⟨hears_of (by decide), rested_of (by decide), by decide⟩, ⟨hears_of (by decide), by decide⟩⟩

/-- The part while a FORMAT is in progress. -/
def formatting (phase : FormatPhase) : Part :=
  let p := mounted .stopped
  updating { p with sv := { p.sv with
    format := some { tag := 7, geom := geo, retired := [], phase := phase }
    header := { p.sv.header with mark := false } } } [.format]

theorem witness_CancelledAllCompletesTheReset :
    (Hears online ∧ online.part.Rested ∧ online.part.mp.awaitAll = false) ∧
    (let s := inReset (formatting .unmark) true
     Hears s ∧ s.part.Rested ∧ s.part.mp.awaitAll = true ∧
      s.part.sv.reset = some { tag := 7, count := 1, allTaken := false } ∧ s.part.sv.format ≠ none) ∧
    (let s := inReset (working [tTxn (.fetch 0 8 5)] [tOrder 0 .issued]) true
     Hears s ∧ s.part.Rested ∧ s.part.mp.awaitAll = true ∧ s.part.sv.format = none ∧ s.part.sv.restore = none) :=
  ⟨⟨hears_of (by decide), rested_of (by decide), by decide⟩, ⟨hears_of (by decide), rested_of (by decide), by decide⟩,
    ⟨hears_of (by decide), rested_of (by decide), by decide⟩⟩

/-- The highest number of blocks that check 14 lets 63 usable tracks of 128 sectors take, and one more. -/
theorem witness_FormatRefusedOrStarted : Arrives State.reset .format (q0 26) 1 (17 + 9 * geo.zones.length + 3 * 0) ∧
    State.reset.part.Rested ∧ geometryFault geo [] = none ∧ geometryFault { geo with L := 7823 } [] = some 14 :=
  ⟨arrives_of (by decide), rested_of (by decide), by decide, by decide⟩

theorem witness_FormatGoesOnToItsEnd :
    let u : StoreUpdate := { id := 0, follows := [.format], after := Image.unformatted, done := false }
    ∀ phase ∈ [FormatPhase.unmark, .tables, .header],
      (Hears (st (formatting phase)) ∧ (st (formatting phase)).part.Rested ∧ (st (formatting phase)).part.Still) ∧
      (st (formatting phase)).part.sv.format = some { tag := 7, geom := geo, retired := [], phase := phase } ∧
      (st (formatting phase)).part.sv.reset = none ∧ u.follows = [.format] ∧
      (st (formatting phase)).part.updateOf u.id = some u ∧
      ((st (formatting phase)).part.store.updates.find? fun x => decide (.format ∈ x.follows) && !x.done) = some u := by
  intro u phase hp
  simp only [List.mem_cons, List.not_mem_nil, or_false] at hp
  rcases hp with rfl | rfl | rfl <;>
    exact ⟨⟨hears_of (by decide), rested_of (by decide), still_of (by decide)⟩, by decide⟩

/-- A part whose band 0 holds blocks on its first two tracks. -/
def written (d : DeviceState) (valid : Nat) : Part :=
  let p := mounted d
  { p with bm := { p.bm with bands := [{ Band.blank with state := .closed, wp := 256, valid := valid, cls := 1 },
    Band.blank] } }

/-- Each answer: track 80 lies in no region, 64 in the staging region, 1 in band 0's written span, 2 in neither band's;
63 is retired, 0 waits. Tracks 63 and 0 are the ends of the zone. -/
theorem witness_RetireAnswersInItsOrder :
    let p := written .online 3
    let s := st { p with bm := { p.bm with retired := [63], pendingRetire := [{ track := 0, band := 0 }] } }
    (Arrives s .retire (q0 4) 1 4 ∧ s.part.Rested) ∧
    classify s.part.bm 80 = .unassigned ∧ classify s.part.bm 64 = .staging ∧ classify s.part.bm 63 = .freeIn 0 ∧
    classify s.part.bm 0 = .written 0 ∧ classify s.part.bm 1 = .written 0 ∧ classify s.part.bm 2 = .freeIn 0 ∧
    (63 ∈ s.part.bm.retired ∧ 0 ∉ s.part.bm.retired ∧
      s.part.bm.pendingRetire.find? (fun x => decide (x.track = 0)) = some { track := 0, band := 0 }) ∧
    (∀ t ∈ [1, 2], t ∉ s.part.bm.retired ∧ ∀ e ∈ s.part.bm.pendingRetire, e.track ≠ t) ∧
    ¬2048 ≤ s.part.bm.retired.length + s.part.bm.pendingRetire.length :=
  ⟨⟨arrives_of (by decide), rested_of (by decide)⟩, by decide⟩

/-- A digest that matches, and one that does not. -/
theorem witness_MountComputesTheDigest :
    let mounting (g : Geometry) : State := st { mounted .mounting with
      bm := { (mounted .mounting).bm with geom := g }
      sv := { (mounted .mounting).sv with mount := some { tag := 7, hold := true } } }
    (Arrives (st (mounted .stopped)) .mount (q0 1) 2 1 ∧ (st (mounted .stopped)).part.Rested) ∧
    (Hears (mounting geo) ∧ (mounting geo).part.Rested ∧ (mounting geo).part.sv.device = .mounting ∧
      (mounting geo).part.sv.reset = none ∧ (mounting geo).part.sv.mount = some { tag := 7, hold := true }) ∧
    digestOf geo [] = (mounting geo).part.sv.header.digest ∧
    digestOf { geo with L := 7821 } [] ≠ (mounting { geo with L := 7821 }).part.sv.header.digest :=
  ⟨⟨arrives_of (by decide), rested_of (by decide)⟩, ⟨hears_of (by decide), rested_of (by decide), by decide⟩,
    rfl, by decide +kernel⟩

theorem witness_QuiesceDrainsToStopped :
    let s := st { mounted .quiescing with sv := { (mounted .quiescing).sv with
      quiesce := some { tag := 7, hold := false, closed := 2, refused := 1 } } }
    (Arrives online .quiesce (q0 1) 2 1 ∧ Arrives online .quiesce (q0 1) 1 1 ∧ online.part.Rested ∧
      online.part.tx.queue = [] ∧ online.part.tx.txns = [] ∧ (∀ x ∈ online.part.su, x.state = .free) ∧
      (∀ k ∈ online.part.re.chans, k.state = .disabled)) ∧
    (Hears s ∧ s.part.Rested ∧ s.part.sv.device = .quiescing ∧ s.part.sv.reset = none ∧
      s.part.sv.quiesce = some { tag := 7, hold := false, closed := 2, refused := 1 } ∧ s.part.tx.queue = [] ∧
      s.part.tx.txns = [] ∧ (∀ x ∈ s.part.su, x.state = .free) ∧ ∀ k ∈ s.part.re.chans, k.state = .disabled) ∧
    (Hears online ∧ online.part.sv.quiesce = none) :=
  ⟨⟨arrives_of (by decide), arrives_of (by decide), rested_of (by decide), by decide⟩,
    ⟨hears_of (by decide), rested_of (by decide), by decide⟩, ⟨hears_of (by decide), by decide⟩⟩

/-- A busy part, tables at fault, tables of another digest, the stored tables, and their update. -/
theorem witness_RestoreRefusedOrWritten :
    let fenced := st (mounted .fenced)
    let busy := st (withChan (mounted .fenced) { Chan.blank with state := .settle })
    let p := mounted .fenced
    let ends := st (updating { p with sv := { p.sv with restore := some 7 } } [.restore])
    let u : StoreUpdate := { id := 0, follows := [.restore], after := Image.unformatted, done := false }
    (Arrives fenced .restore (q0 26) 1 (17 + 9 * geo.zones.length + 3 * 0) ∧ fenced.part.Rested ∧
      ¬(fenced.part.tx.txns ≠ [] ∨ (∃ x ∈ fenced.part.su, x.state ≠ .free) ∨ ∃ k ∈ fenced.part.re.chans, k.state ≠ .disabled)) ∧
    (Arrives busy .restore (q0 26) 1 (17 + 9 * geo.zones.length + 3 * 0) ∧
      ∃ k ∈ busy.part.re.chans, k.state ≠ .disabled) ∧
    geometryFault { geo with K := 0 } [] = some 1 ∧
    (geometryFault { geo with L := 7821 } [] = none ∧ digestOf { geo with L := 7821 } [] ≠ fenced.part.sv.header.digest) ∧
    (geometryFault geo [] = none ∧ digestOf geo [] = fenced.part.sv.header.digest) ∧
    (Hears ends ∧ ends.part.Rested ∧ ends.part.sv.restore = some 7 ∧ ends.part.sv.reset = none ∧
      ends.part.updateOf u.id = some u ∧
      (ends.part.store.updates.find? fun x => decide (.restore ∈ x.follows) && !x.done) = some u) :=
  ⟨⟨arrives_of (by decide), rested_of (by decide), by decide⟩, ⟨arrives_of (by decide), by decide⟩, by decide,
    ⟨by decide, by decide +kernel⟩, ⟨by decide, rfl⟩, ⟨hears_of (by decide), rested_of (by decide), by decide⟩⟩

/-! ### Premises met: data requests and the head of the Request Queue -/

/-- Each kind at the ends of its ranges, on a logical space of 7822 blocks: the last length that is in range and the
first that is not. -/
theorem witness_DataRequestsJoinTheRequestQueue : online.part.bm.geom.L = 7822 ∧
    Arrives online .place (q0 16) 2 16 ∧ Arrives online .place (q0 16) 1 16 ∧ Arrives online .fetch (q0 12) 2 12 ∧
    Arrives online .discard (q0 11) 2 11 ∧ Arrives online .locate (q0 9) 1 9 ∧ Arrives online .streamOpen (q0 8) 1 8 ∧
    Arrives online .streamClose (q0 1) 1 1 ∧
    (0 + 7822 ≤ online.part.bm.geom.L ∧ ¬1 + 7822 ≤ online.part.bm.geom.L) ∧
    (let s := st { mounted .online with tx := {
      queue := (List.range 16).map fun i => { tag := 100 + i, hold := false, req := .locate 0 1 }, txns := [] } }
     Arrives s .locate (q0 9) 1 9 ∧ 16 ≤ s.part.tx.queue.length) ∧ online.part.tx.queue.length < 16 :=
  ⟨by decide, arrives_of (by decide), arrives_of (by decide), arrives_of (by decide), arrives_of (by decide),
    arrives_of (by decide), arrives_of (by decide), arrives_of (by decide), by decide,
    ⟨arrives_of (by decide), by decide⟩, by decide⟩

def head (r : DataReq) : Queued := { tag := 7, hold := false, req := r }

/-- A part with a stream in a state. -/
def withStream (p : Part) (x : Stream) : Part := { p with su := x :: List.replicate 15 Stream.blank }

def activeStream : Stream := { Stream.blank with state := .active, cls := 1, band := some 0, nextLba := some 4 }

theorem witness_LocateAndStreamRequestsEndAtTheHead :
    Heads (st (queued (.locate 0 1))) (head (.locate 0 1)) ∧
    (Heads (st (queued (.streamOpen 16 8 2 2 0))) (head (.streamOpen 16 8 2 2 0)) ∧
      (queued (.streamOpen 16 8 2 2 0)).stream 16 = Stream.blank) ∧
    (Heads (st (withStream (queued (.streamOpen 1 0 0 0 10)) activeStream)) (head (.streamOpen 1 0 0 0 10)) ∧
      ((withStream (queued (.streamOpen 1 0 0 0 10)) activeStream).stream 1).state ≠ .free) ∧
    (Heads (st (queued (.streamClose 1))) (head (.streamClose 1)) ∧ ((queued (.streamClose 1)).stream 1).state = .free) ∧
    (let p := withStream (queued (.streamClose 1)) { activeStream with state := .starved, band := none }
     Heads (st p) (head (.streamClose 1)) ∧ (p.stream 1).state ≠ .free ∧ (p.stream 1).state ≠ .active) ∧
    (let p := withStream (queued (.streamClose 1)) activeStream
     Heads (st p) (head (.streamClose 1)) ∧ (p.stream 1).state = .active ∧ (p.stream 1).band = some 0) :=
  ⟨heads_of (by decide), ⟨heads_of (by decide), by decide⟩, ⟨heads_of (by decide), by decide⟩,
    ⟨heads_of (by decide), by decide⟩, ⟨heads_of (by decide), by decide⟩, ⟨heads_of (by decide), by decide⟩⟩

/-- A PLACE of a stream, one of none, and one that is held: the log is full and a channel destages. -/
theorem witness_PlaceAdmittedWithPiecesThatCoverItsRange :
    let p1 := withStream (queued (.place (placeArgs 1 300))) activeStream
    let b : Band := { Band.blank with state := .opened, cls := 1, owner := some (.stream 1) }
    let s1 := st { p1 with bm := { p1.bm with bands := [b, Band.blank] } }
    let s2 := st (queued (.place (placeArgs 0 2048)))
    let p3 := withChan { queued (.place (placeArgs 0 1)) with sl := (filled 16).sl } { Chan.blank with state := .idle }
    let s3 := st { p3 with re := { p3.re with setups := List.replicate 4 (chanSetup .destage) } }
    (Heads s1 (head (.place (placeArgs 1 300))) ∧ s1.part.Still ∧ (∀ t ∈ s1.part.tx.txns, t.tag ≠ 7) ∧
      (s1.part.stream 1).state ≠ .free ∧ (s1.part.divide (placeArgs 1 300) 1).1.left = 0 ∧
      (s1.part.resolve (placeArgs 1 300)).cls = 1) ∧
    (Heads s2 (head (.place (placeArgs 0 2048))) ∧ s2.part.Still ∧ (s2.part.resolve (placeArgs 0 2048)).cls = 1 ∧
      (s2.part.divide (placeArgs 0 2048) 1).2.stagingTest (s2.part.divide (placeArgs 0 2048) 1).1.left = .take) ∧
    (Heads s3 (head (.place (placeArgs 0 1))) ∧ (s3.part.resolve (placeArgs 0 1)).cls = 1 ∧
      (s3.part.divide (placeArgs 0 1) 1).1.left ≠ 0 ∧
      (s3.part.divide (placeArgs 0 1) 1).2.stagingTest (s3.part.divide (placeArgs 0 1) 1).1.left = .hold) :=
  ⟨⟨heads_of (by decide), still_of (by decide), by decide +kernel⟩,
    ⟨heads_of (by decide), still_of (by decide), by decide +kernel⟩, ⟨heads_of (by decide), by decide +kernel⟩⟩

def mapped (p : Part) : Part :=
  { p with tu := { p.tu with extents := [⟨0, 2, .log 0⟩, ⟨2, 2, .log 8⟩, ⟨6, 2, .band 0 0⟩] } }

/-- So many orders of a channel; the first 62 leave ids 0 and 1. -/
def chanOrders (n : Nat) : List Order := (List.range n).map fun i => { tOrder ((i + 2) % 64) .queued with owner := .chan 0 }

/-- A FETCH that reads, one of a hole, and one that lacks places. -/
theorem witness_FetchAdmittedWithItsReads :
    let s1 := st (mapped (queued (.fetch 0 8 5)))
    let s2 := st (queued (.fetch 0 8 5))
    let s3 := st { mapped (queued (.fetch 0 8 5)) with mp := { MediaPort.cold with orders := chanOrders 62 } }
    (Heads s1 (head (.fetch 0 8 5)) ∧ s1.part.Still ∧ (∀ o ∈ s1.part.mp.orders, o.owner ≠ .txn 7) ∧
      (∀ e ∈ s1.part.mp.writeWait, e.owner ≠ .txn 7) ∧ (s1.part.fetchPlan 0 8).runs.length = 3) ∧
    (Heads s2 (head (.fetch 0 8 5)) ∧ s2.part.Still ∧ (s2.part.fetchPlan 0 8).runs = []) ∧
    (Heads s3 (head (.fetch 0 8 5)) ∧ s3.part.Still ∧ (∀ o ∈ s3.part.mp.orders, o.owner ≠ .txn 7) ∧
      64 < s3.part.mp.orders.length + (s3.part.fetchPlan 0 8).runs.length) :=
  ⟨⟨heads_of (by decide), still_of (by decide), by decide +kernel⟩,
    ⟨heads_of (by decide), still_of (by decide), by decide +kernel⟩,
    ⟨heads_of (by decide), still_of (by decide), by decide +kernel⟩⟩

/-- A range that no entry touches, between entries that end and begin at it, and one that an entry touches. -/
theorem witness_DiscardAdmittedEmptiesItsRange :
    let s1 := st (mapped (queued (.discard 4 2)))
    let s2 := st (mapped (queued (.discard 1 4)))
    (Heads s1 (head (.discard 4 2)) ∧ s1.part.Still ∧ (∀ e ∈ s1.part.tu.extents, e.start + e.len ≤ 4 ∨ 4 + 2 ≤ e.start) ∧
      s1.part.tu.extents.length + s1.part.tu.reserveTotal + 1 ≤ 262144) ∧
    (Heads s2 (head (.discard 1 4)) ∧ s2.part.Still ∧ (⟨2, 2, .log 8⟩ : Extent) ∈ s2.part.tu.extents) :=
  ⟨⟨heads_of (by decide), still_of (by decide), by decide⟩, ⟨heads_of (by decide), still_of (by decide), by decide⟩⟩

/-- A kind that the device's state refuses, a map reserve that cannot be taken, and staging space that never comes. -/
theorem witness_HeadRefusedForItsReason :
    let s1 := st { queued (.discard 0 1) with sv := (mounted .fenced).sv }
    let s2 := st { queued (.place (placeArgs 0 1)) with
      tu := { extents := [], regions := [], remaps := [], reserveTotal := 262142 } }
    let s3 := st (queued (.place (placeArgs 0 2049)))
    let s4 := st (mapped (queued (.fetch 0 8 5)))
    (Hears s1 ∧ s1.part.Rested ∧ s1.part.sv.reset = none ∧ s1.part.tx.queue.head? = some (head (.discard 0 1)) ∧
      stateRefusal (DataReq.kind (.discard 0 1)) s1.part.sv.device = some .fenced) ∧
    (Heads s2 (head (.place (placeArgs 0 1))) ∧ s2.part.reserveFor (.place (placeArgs 0 1)) = 3 ∧
      262144 < s2.part.tu.extents.length + s2.part.tu.reserveTotal + 3 ∧ s2.part.tx.txns = [] ∧ s2.part.tu.remaps = []) ∧
    (Heads s3 (head (.place (placeArgs 0 2049))) ∧ (s3.part.resolve (placeArgs 0 2049)).cls = 1 ∧
      s3.part.tu.extents.length + s3.part.tu.reserveTotal + s3.part.reserveFor (.place (placeArgs 0 2049)) ≤ 262144 ∧
      (s3.part.divide (placeArgs 0 2049) 1).1.left ≠ 0 ∧
      (s3.part.divide (placeArgs 0 2049) 1).2.stagingTest (s3.part.divide (placeArgs 0 2049) 1).1.left = .refuse) ∧
    Heads s4 (head (.fetch 0 8 5)) :=
  ⟨⟨hears_of (by decide), rested_of (by decide), by decide⟩, ⟨heads_of (by decide), by decide⟩,
    ⟨heads_of (by decide), by decide +kernel⟩, heads_of (by decide)⟩

/-! ### Premises met: the map, the Media Port and the ends -/

/-- Two items that touch, one of them moved and one removed. -/
theorem witness_MapUpdateMovesExactlyItsBlocks :
    [({ start := 0, len := 2, place := some (.log 9) } : MapItem), { start := 2, len := 2, place := none }].Pairwise
      (fun i j => i.start + i.len ≤ j.start ∨ j.start + j.len ≤ i.start) ∧ 0 ≤ 1 ∧ 1 < 0 + 2 := by decide

theorem witness_StrayReportsAreCounted :
    let s := st (working [] [tOrder 0 .queued])
    Hears s ∧ s.part.Rested ∧ s.part.mp.awaitAll = false ∧ (∀ o ∈ s.part.mp.orders, o.id = 0 → o.state = .queued) ∧
      (inReset (mounted .online) true).part.mp.awaitAll = true :=
  ⟨hears_of (by decide), rested_of (by decide), by decide⟩

/-- A READ order that is a retry, or is not. -/
def readOrder (retry : Bool) : Order := { tOrder 0 .issued with retry := retry }

/-- A FETCH with an order in the window beside the one that is reported, a map, and further orders. -/
def reading (retry : Bool) (more : List Order) : State :=
  st (mapped (working [tTxn (.fetch 0 8 5)] (readOrder retry :: { tOrder 1 .issued with lba := 6 } :: more)))

/-- A retry order; a first order whose retry finds places, and one whose retry (two runs) does not. -/
theorem witness_ReportOnAnOrderOfAFetch :
    (∀ s ∈ [reading false [], reading true []], ∀ o ∈ [readOrder false, readOrder true],
      s.part.order 0 = some o → o.state = .issued ∧ o.op = .read ∧ o.owner = .txn 7 ∧ s.part.txn 7 =
        some (tTxn (.fetch 0 8 5)) ∧ s.part.mp.awaitAll = false ∧ (tTxn (.fetch 0 8 5)).outcome = none ∧
        (tTxn (.fetch 0 8 5)).toJoin = [] ∧
        ∃ x ∈ s.part.mp.orders, x.id ≠ 0 ∧ x.owner = .txn 7 ∧ x.state ≠ .queued) ∧
    ((reading false []).part.order 0 = some (readOrder false) ∧ (reading true []).part.order 0 = some (readOrder true)) ∧
    (Hears (reading false []) ∧ (reading false []).part.Rested ∧ (reading false []).part.Still) ∧
    (Hears (reading true []) ∧ (reading true []).part.Rested ∧ (reading true []).part.Still) ∧
    (let s := reading false (chanOrders 62)
     Hears s ∧ s.part.Rested ∧ s.part.Still ∧ s.part.order 0 = some (readOrder false) ∧
      64 < (s.part.mp.orders.filter fun x => decide (x.id ≠ 0)).length +
        (s.part.runsOf (lookup s.part.tu.extents (readOrder false).lba (readOrder false).count)).length) :=
  ⟨by decide, by decide, ⟨hears_of (by decide), rested_of (by decide), still_of (by decide)⟩,
    ⟨hears_of (by decide), rested_of (by decide), still_of (by decide)⟩,
    ⟨hears_of (by decide), rested_of (by decide), still_of (by decide), by decide +kernel⟩⟩

/-- An order whose timer has reached its limit. -/
def due (o : Order) : Order := { o with timer := { state := .running, elapsed := 2000, limit := 2000 } }

theorem witness_ReportsAndTimeoutsActInTheirOrder :
    let s (o : Order) := st (working [tTxn (.fetch 0 8 5)] [o])
    (∀ o ∈ [tOrder 0 .issued, tOrder 0 .cancelling, due (tOrder 0 .issued)],
      (Hears (s o) ∧ (s o).part.Rested) ∧ (s o).part.order 0 = some o ∧ (s o).part.mp.awaitAll = false) ∧
    ((tOrder 0 .issued).timer.elapsed < (tOrder 0 .issued).timer.limit) ∧
    ((due (tOrder 0 .issued)).timer.state = .running ∧
      (due (tOrder 0 .issued)).timer.limit ≤ (due (tOrder 0 .issued)).timer.elapsed) := by
  refine ⟨fun o ho => ?_, by decide, by decide⟩
  simp only [List.mem_cons, List.not_mem_nil, or_false] at ho
  rcases ho with rfl | rfl | rfl <;> exact ⟨⟨hears_of (by decide), rested_of (by decide)⟩, by decide⟩

/-- A first order and a retry of a FETCH, and a CANCELLING order, each due; one that is not. -/
theorem witness_TimedOutOrderIsCancelled :
    let s (o : Order) := st (working [tTxn (.fetch 0 8 5)] [o])
    (∀ o ∈ [due (readOrder false), due (readOrder true), due (tOrder 0 .cancelling), tOrder 0 .cancelling],
      (Hears (s o) ∧ (s o).part.Rested ∧ (s o).part.Still) ∧ (s o).part.order 0 = some o ∧
      o.timer.state = .running ∧ o.op = .read ∧ o.owner = .txn 7 ∧
      (s o).part.txn 7 = some (tTxn (.fetch 0 8 5))) ∧
    ((due (readOrder true)).timer.limit ≤ (due (readOrder true)).timer.elapsed ∧
      (tTxn (.fetch 0 8 5)).outcome = none) ∧
    ¬(tOrder 0 .cancelling).timer.limit ≤ (tOrder 0 .cancelling).timer.elapsed := by
  refine ⟨fun o ho => ?_, by decide, by decide⟩
  simp only [List.mem_cons, List.not_mem_nil, or_false] at ho
  rcases ho with rfl | rfl | rfl | rfl <;>
    exact ⟨⟨hears_of (by decide), rested_of (by decide), still_of (by decide)⟩, by decide⟩

theorem witness_MediaReadyStateFollowsTheSequencer : (Hears online ∧ online.part.mp.ready = false ∧
    online.part.sv.reset = none) ∧ (Hears (inReset (mounted .online) true) ∧
      (inReset (mounted .online) true).part.mp.ready = false ∧ (inReset (mounted .online) true).part.sv.reset ≠ none) ∧
    (Hears (st (working [] [])) ∧ (st (working [] [])).part.mp.ready = true) :=
  ⟨⟨hears_of (by decide), by decide⟩, ⟨hears_of (by decide), by decide⟩, ⟨hears_of (by decide), by decide⟩⟩

theorem witness_IdleTimersOfMediaAndStreams :
    let running : Timer := { state := .running, elapsed := 500, limit := 500 }
    let media := st { mounted .online with mp := { MediaPort.cold with ready := true, idle := running } }
    let stream (x : Stream) := st (withStream (mounted .online) { x with idle := running })
    (Hears media ∧ media.part.Rested ∧ media.part.Still ∧ media.part.mp.idle.state = .running ∧
      media.part.mp.idle.limit ≤ media.part.mp.idle.elapsed) ∧
    online.part.mp.idle.state ≠ .running ∧ (online.part.stream 16).idle.state ≠ .running ∧
    (let s := stream { Stream.blank with state := .dormant }
     Hears s ∧ s.part.Rested ∧ s.part.Still ∧ (s.part.stream 1).idle.state = .running ∧
      (s.part.stream 1).idle.limit ≤ (s.part.stream 1).idle.elapsed ∧ (s.part.stream 1).state ≠ .active) ∧
    (let s := stream activeStream
     Hears s ∧ s.part.Rested ∧ s.part.Still ∧ (s.part.stream 1).idle.state = .running ∧
      (s.part.stream 1).idle.limit ≤ (s.part.stream 1).idle.elapsed ∧
      (s.part.stream 1).state = .active ∧ (s.part.stream 1).band = some 0) :=
  ⟨⟨hears_of (by decide), rested_of (by decide), still_of (by decide), by decide⟩, by decide, by decide,
    ⟨hears_of (by decide), rested_of (by decide), still_of (by decide), by decide⟩,
    ⟨hears_of (by decide), rested_of (by decide), still_of (by decide), by decide⟩⟩

/-- A part whose hour accumulator stands at a value, with H. -/
def hour (acc h : Nat) : State := st { mounted .stopped with
  sv := { (mounted .stopped).sv with header := { mark := true, digest := 0, hours := h }, hourAcc := acc } }

/-- A digest that matches and one that does not, when it is due; the accumulator at the hour and short of it; H at its
last value but one, and at its end. -/
theorem witness_DigestChecksAndHours :
    let run (g : Geometry) : State := st { mounted .online with
      bm := { (mounted .online).bm with geom := g }
      sv := { (mounted .online).sv with digestTimer := { state := .running, elapsed := 3600000, limit := 3600000 } } }
    (Hears (run geo) ∧ (run geo).part.Rested ∧ (run geo).part.sv.device = .online ∧ (run geo).part.sv.reset = none ∧
      (run geo).part.sv.digestTimer.state = .running ∧
      (run geo).part.sv.digestTimer.limit ≤ (run geo).part.sv.digestTimer.elapsed) ∧
    digestOf geo [] = (run geo).part.sv.header.digest ∧
    digestOf { geo with L := 7821 } [] ≠ (run { geo with L := 7821 }).part.sv.header.digest ∧
    online.part.sv.digestTimer.state ≠ .running ∧
    (hour 3599999 0).part.sv.hourAcc < 3600000 ∧
    (3600000 ≤ (hour 3600000 4294967295).part.sv.hourAcc ∧
      4294967295 ≤ (hour 3600000 4294967295).part.sv.header.hours) ∧
    (Hears (hour 3600000 4294967294) ∧ (hour 3600000 4294967294).part.Rested ∧ (hour 3600000 4294967294).part.Still ∧
      3600000 ≤ (hour 3600000 4294967294).part.sv.hourAcc ∧ (hour 3600000 4294967294).part.sv.device ≠ .unformatted ∧
      (hour 3600000 4294967294).part.sv.header.hours < 4294967295) :=
  ⟨⟨hears_of (by decide), rested_of (by decide), by decide⟩, rfl, by decide +kernel, by decide, by decide, by decide,
    ⟨hears_of (by decide), rested_of (by decide), still_of (by decide), by decide⟩⟩

def tRemap : Remap :=
  { chan := 0, lba := 0, len := 4, src := .log 0, dstBand := 0, dstOff := 0, failed := false, closed := true, orders := 0
    joined := true, applying := true, applied := 4, cls := 1 }

/-- A part whose channel 0 has posted one piece, under a pending remap, from a run that is held twice. -/
def copied (r : Remap) : Part :=
  let y : Copy :=
    { phase := .writing, lba := 0, len := 4, src := r.src, cls := 1, verify := false, readFailed := false, placed := 4
      pieces := [{ off := 0, len := 4, band := 0, dst := 0, update := 0, state := .posted, verifying := false }]
      noBand := false, cutShort := false }
  let p := withChan (mounted .online) { Chan.blank with state := .move, copy := some y }
  { p with
    tu := { p.tu with remaps := [r], reserveTotal := 2 }
    sl := { (filled 12).sl with runs := (filled 12).sl.runs.map fun x => { x with hold := 2 } } }

/-- The update of a REPLY, of a PLACE, of a DISCARD and of a remap, and a number that no update has. -/
theorem witness_DurableUpdatesTakeTheStepsPlacedAfterThem :
    let m : Message := { tag := 1, place := .ordinary, payload := .reply .ok .cls [] }
    let run (p : Part) (f : List Follow) := st (updating p f)
    let u (f : List Follow) : StoreUpdate := { id := 0, follows := f, after := Image.unformatted, done := false }
    let place : Txn := { tTxn (.place (placeArgs 0 4)) with ended := true, reserve := 4 }
    let discard : Txn := { tTxn (.discard 0 4) with ended := true, reserve := 1 }
    (Hears online ∧ online.part.Rested ∧ ∀ x ∈ online.part.store.updates, x.id = 0 → x.done = true) ∧
    (Hears (run (mounted .online) [.reply m]) ∧ (run (mounted .online) [.reply m]).part.Rested ∧
      (run (mounted .online) [.reply m]).part.updateOf 0 = some (u [.reply m])) ∧
    (let s := run (working [place] []) [.checks [0] true, .place 7]
     Hears s ∧ s.part.Rested ∧ s.part.Still ∧ (s.part.store.updates.find?
        (fun x => decide (.place 7 ∈ x.follows) && !x.done)) = some (u [.checks [0] true, .place 7]) ∧
      s.part.updateOf 0 = some (u [.checks [0] true, .place 7]) ∧ s.part.txn 7 = some place ∧ place.req.kind = .place) ∧
    (let s := run (working [discard] []) [.checks [0] true, .discard 7]
     Hears s ∧ s.part.Rested ∧ s.part.Still ∧ (s.part.store.updates.find?
        (fun x => decide (.discard 7 ∈ x.follows) && !x.done)) = some (u [.checks [0] true, .discard 7]) ∧
      s.part.updateOf 0 = some (u [.checks [0] true, .discard 7]) ∧ s.part.txn 7 = some discard ∧
      discard.req.kind = .discard) ∧
    (∀ r ∈ [tRemap, { tRemap with src := .band 1 3 }],
      let s := run (copied r) [.checks [0] true, .remap 0 0]
      (Hears s ∧ s.part.Rested) ∧ (s.part.store.updates.find?
        (fun x => decide (.remap 0 0 ∈ x.follows) && !x.done)) = some (u [.checks [0] true, .remap 0 0]) ∧
      s.part.updateOf 0 = some (u [.checks [0] true, .remap 0 0]) ∧
      s.part.tu.remaps.find? (fun r => decide (r.dstBand = 0 ∧ r.dstOff = 0) && r.applying) = some r ∧
      r.chan < s.part.re.chans.length) ∧
    (∀ y ∈ (copied tRemap).sl.runs, Meets 0 4 y → y.hold ≠ 1) := by
  refine ⟨⟨hears_of (by decide), rested_of (by decide), by decide⟩,
    ⟨hears_of (by decide), rested_of (by decide), by decide⟩,
    ⟨hears_of (by decide), rested_of (by decide), still_of (by decide), by decide⟩,
    ⟨hears_of (by decide), rested_of (by decide), still_of (by decide), by decide⟩, fun r hr => ?_, by decide⟩
  simp only [List.mem_cons, List.not_mem_nil, or_false] at hr
  rcases hr with rfl | rfl <;> exact ⟨⟨hears_of (by decide), rested_of (by decide)⟩, by decide⟩

/-- No READY; a full window; only a FOREGROUND head; only a BACKGROUND head; both, below and at the burst. -/
theorem witness_IssueFollowsTheArbiter :
    let back : Order := { tOrder 1 .queued with owner := .chan 0 }
    let s (l : List Order) (run : Nat) : State := st { working [] l with
      mp := { (working [] l).mp with runCount := run } }
    let full := s ((List.range 8).map fun i => tOrder i .issued) 0
    (Hears online ∧ online.part.mp.ready = false) ∧
    (Hears full ∧ 8 ≤ full.part.mp.orders.countP fun o => decide (o.state = .issued ∨ o.state = .cancelling)) ∧
    (let x := s ((List.range 7).map fun i => tOrder i .issued) 0
     Hears x ∧ (x.part.mp.orders.countP fun o => decide (o.state = .issued ∨ o.state = .cancelling)) < 8 ∧
      x.part.mp.ready = true ∧ x.part.foreHead = none ∧ x.part.backHead = none) ∧
    (let x := s [tOrder 0 .queued] 0
     Hears x ∧ x.part.foreHead = some (tOrder 0 .queued) ∧ x.part.backHead = none) ∧
    (let x := s [back] 0
     Hears x ∧ x.part.foreHead = none ∧ x.part.backHead = some back) ∧
    (let x := s [tOrder 0 .queued, back] 3
     Hears x ∧ x.part.foreHead = some (tOrder 0 .queued) ∧ x.part.backHead ≠ none ∧
      x.part.mp.runCount < x.part.sv.settings.burst) ∧
    (let x := s [tOrder 0 .queued, back] 4
     Hears x ∧ x.part.foreHead ≠ none ∧ x.part.backHead = some back ∧ x.part.sv.settings.burst ≤ x.part.mp.runCount) :=
  ⟨⟨hears_of (by decide), by decide⟩, ⟨hears_of (by decide), by decide⟩, ⟨hears_of (by decide), by decide⟩,
    ⟨hears_of (by decide), by decide⟩, ⟨hears_of (by decide), by decide⟩, ⟨hears_of (by decide), by decide⟩,
    ⟨hears_of (by decide), by decide⟩⟩

/-- A PLACE's WRITE order that waits to join, and the PLACE. -/
def tWrite (off : Nat) : Order := { tOrder 0 .queued with op := .write, place := .band 0 off }

def placing : Txn := { tTxn (.place (placeArgs 0 4)) with toJoin := [tWrite 8, { tWrite 8 with op := .verify }] }

/-- A part whose PLACE and whose channel 0 have orders to join, and which has told one of them of a freed place, with
so many orders in the queue. -/
def told (w : Owner) (n : Nat) : State :=
  let p := withChan (working [placing] (chanOrders n))
    { Chan.blank with state := .move, toJoin := [{ tWrite 0 with owner := .chan 0 }] }
  st { p with mp := { p.mp with told := [w], writeWait := [{ owner := .chan 0, band := 0, off := 0 }] } }

/-- A part whose FETCH has a retry that waits, of two runs. -/
def retrying (orders : List Order) : State :=
  st (mapped (working [{ tTxn (.fetch 0 8 5) with retries := [{ lba := 0, len := 4 }] }] orders))

theorem witness_FreedPlacesAreTakenByThoseWhoWait :
    (Hears online ∧ online.part.Rested ∧ Owner.txn 7 ∉ online.part.mp.told) ∧
    (∀ n ∈ [63, 64], (told (.txn 7) n).part.mp.orders.length = n ∧ (told (.txn 7) n).part.sv.reset = none ∧
      Owner.txn 7 ∈ (told (.txn 7) n).part.mp.told ∧ (told (.txn 7) n).part.txn 7 = some placing) ∧
    ((∀ o ∈ placing.toJoin, o.op ≠ .read ∧ o.owner = .txn 7) ∧ behind (told (.txn 7) 63).part.mp.writeWait (tWrite 8) = true ∧
      behind (told (.txn 7) 63).part.mp.writeWait (tWrite 0) = false) ∧
    (Hears (told (.txn 7) 63) ∧ (told (.txn 7) 63).part.Rested) ∧
    (Hears (told (.chan 0) 63) ∧ (told (.chan 0) 63).part.Rested ∧ (told (.chan 0) 63).part.sv.reset = none ∧
      Owner.chan 0 ∈ (told (.chan 0) 63).part.mp.told ∧ ((told (.chan 0) 63).part.chan 0).toJoin ≠ [] ∧
      0 < (told (.chan 0) 63).part.re.chans.length) ∧
    (∀ n ∈ [62, 63], (retrying (chanOrders n)).part.txn 7 =
        some { tTxn (.fetch 0 8 5) with retries := [{ lba := 0, len := 4 }] } ∧
      (retrying (chanOrders n)).part.mp.orders.length + ((retrying (chanOrders n)).part.runsOf
        (lookup (retrying (chanOrders n)).part.tu.extents 0 4)).length = n + 2) ∧
    (Hears (retrying (chanOrders 62)) ∧ (retrying (chanOrders 62)).part.Rested ∧ (retrying (chanOrders 62)).part.Still ∧
      (retrying (chanOrders 62)).part.sv.reset = none) :=
  ⟨⟨hears_of (by decide), rested_of (by decide), by decide⟩, by decide +kernel, by decide,
    ⟨hears_of (by decide), rested_of (by decide)⟩, ⟨hears_of (by decide), rested_of (by decide), by decide⟩,
    by decide +kernel, ⟨hears_of (by decide), rested_of (by decide), still_of (by decide), rfl⟩⟩

/-- A channel with a copy whose second piece waits. -/
def copying (stop : Option StopCause) (reserve : Nat) : Part :=
  let y : Copy :=
    { phase := .writing, lba := 0, len := 8, src := .log 0, cls := 1, verify := false, readFailed := false, placed := 8
      pieces := [{ off := 0, len := 8, band := 0, dst := 0, update := 0, state := .waiting, verifying := false }]
      noBand := false, cutShort := false }
  let p := withChan (mounted .online) { Chan.blank with state := .move, copy := some y, stop := stop }
  { p with tu := { p.tu with reserveTotal := reserve } }

/-- The last reserve that can be taken and the first that cannot; with nothing live and with a transaction; no piece;
a stop with a copy, one without, and none. -/
theorem witness_WaitingPiecesAndStopsGoOn :
    let s (stop : Option StopCause) (n : Nat) := st (copying stop n)
    let busy := st { copying none 262143 with tx := { queue := [], txns := [tTxn (.locate 0 1)] } }
    let bare := st (withChan (mounted .fenced) { Chan.blank with state := .move, stop := some .fence })
    (Hears (s none 262142) ∧ (s none 262142).part.Rested ∧ (s none 262142).part.sv.reset = none ∧
      (s none 262142).part.re.chans.length = 4 ∧
      ((s none 262142).part.chan 0).copy.bind Copy.waitingPiece = some 0 ∧
      ¬262144 < (s none 262142).part.tu.extents.length + (s none 262142).part.tu.reserveTotal + 2 ∧
      (s none 262142).part.tu.remaps.length < 64) ∧
    (Hears (s none 262143) ∧ (s none 262143).part.Rested ∧
      262144 < (s none 262143).part.tu.extents.length + (s none 262143).part.tu.reserveTotal + 2 ∧
      (s none 262143).part.tx.txns = [] ∧ (s none 262143).part.tu.remaps = []) ∧
    (Hears busy ∧ busy.part.Rested ∧ busy.part.tx.txns ≠ []) ∧
    ((online.part.chan 0).copy.bind Copy.waitingPiece = none ∧ (online.part.chan 0).stop = none) ∧
    (Hears bare ∧ bare.part.Rested ∧ (bare.part.chan 0).stop ≠ none ∧ (bare.part.chan 0).copy = none ∧
      bare.part.sv.device ≠ .online) ∧
    (Hears (s (some .disable) 0) ∧ (s (some .disable) 0).part.Rested ∧ ((s (some .disable) 0).part.chan 0).stop ≠ none ∧
      ((s (some .disable) 0).part.chan 0).copy ≠ none) :=
  ⟨⟨hears_of (by decide), rested_of (by decide), by decide⟩, ⟨hears_of (by decide), rested_of (by decide), by decide⟩,
    ⟨hears_of (by decide), rested_of (by decide), by decide⟩, by decide,
    ⟨hears_of (by decide), rested_of (by decide), by decide⟩, ⟨hears_of (by decide), rested_of (by decide), by decide⟩⟩

/-- A PLACE that is due, one whose outcome is fixed, a FETCH that has read all. -/
theorem witness_TransactionsReachTheirEnds :
    let piece : Piece := { lba := 0, len := 4, pos := { place := .log 0, update := 0, ended := true }, old := none
                           retryUsed := false, verifying := false, succeeded := true }
    let due : Txn := { tTxn (.place (placeArgs 0 4)) with pieces := [piece] }
    let failed : Txn := { tTxn (.place (placeArgs 0 4)) with outcome := some .mediaError, failLba := some 3 }
    let done : Txn := { tTxn (.fetch 0 8 5) with coveredEnd := 8, blocksRead := 8 }
    ∀ t ∈ [due, failed, done], (Hears (st (working [t] [])) ∧ (working [t] []).Rested ∧ (working [t] []).Still) ∧
      (working [t] []).sv.reset = none ∧ (working [t] []).txn 7 = some t ∧ t.toJoin = [] ∧ t.retries = [] ∧
      (∀ o ∈ (working [t] []).mp.orders, o.owner ≠ .txn 7) ∧ (∀ c ∈ t.pieces, c.succeeded = true) := by
  intro piece due failed done t ht
  simp only [List.mem_cons, List.not_mem_nil, or_false] at ht
  rcases ht with rfl | rfl | rfl <;>
    exact ⟨⟨hears_of (by decide), rested_of (by decide), still_of (by decide)⟩, by decide⟩

theorem witness_RoundedDivision : (1 ≤ 2 ∧ 5 - 5 / 2 * 2 ≠ 0) ∧ 4 - 4 / 2 * 2 = 0 ∧ 5 * 2 ≤ 6 * 2 := by decide

/-- Two candidates, one that saturates, and none. -/
theorem witness_SelectionTakesTheBestVictim :
    let p := mounted .online
    let old : Band := { Band.blank with state := .closed, wp := 8064, valid := 1, cls := 1 }
    let q : Part := { p with
      bm := { p.bm with bands := [old, { old with valid := 8064 }] }
      sv := { p.sv with
        header := { p.sv.header with hours := 4095 }
        classes := [{ firstZone := 0, lastZone := 31, quota := 1, weight := 31, slot := 0 }] } }
    (q.score 0).saturated = true ∧ (q.score 1).saturated = false ∧ q.sc.saturated = false ∧
      (∀ b ∈ [0, 1], b < q.bm.bands.length ∧ (q.band b).state = .closed ∧ 1 ≤ (q.band b).valid ∧
        (0x01FE#16).getLsbD (q.band b).cls = true) ∧ ∀ b < p.bm.bands.length, (p.band b).state ≠ .closed := by
  decide +kernel

theorem witness_EveryStepKeepsTheInvariants : OrderQueueOk (working [] [tOrder 0 .issued, tOrder 63 .queued]).mp.orders ∧
    (working [] [tOrder 0 .issued, tOrder 63 .queued]).AlertOk ∧
    (working [] [tOrder 0 .issued, tOrder 63 .queued]).SendingOk ∧
    (working [] [tOrder 0 .issued, tOrder 63 .queued]).Rested :=
  ⟨⟨by decide, by decide, by decide, by decide, by decide⟩, (by decide : (_ : Bool) = _),
    fun h => absurd h (by decide), rested_of (by decide)⟩

/-! ### Premises met: the clauses on the tables and the channels -/

/-- A part whose channel 0 has a setup and a state record. -/
def serving (u : ChanSetup) (k : Chan) : Part :=
  let p := withChan (mounted .online) k
  { p with re := { p.re with setups := List.replicate 4 u } }

def workRec : DestageRec := { pos := 0, len := 4, start := 0, cls := 1 }

/-- A service that starts; the sources of each job, with and without work; MOVE with live blocks, with none, with a
victim that has blocks and one that has none, and with a stop; SETTLE with valid blocks, without, and with a pin. -/
theorem witness_TriggerSetsAndClearsTheFlag_services :
    let move : Chan := { Chan.blank with state := .move }
    let run : Run :=
      { pos := 0, len := 4, start := 0, live := 4, cls := 1, inFlight := false, pins := 0, hold := 0 }
    let d := serving (chanSetup .destage) Chan.blank
    let r := serving (chanSetup .reclaim) Chan.blank
    let full (valid pins : Nat) : Part := { r with bm := { r.bm with bands :=
      [{ Band.blank with state := .closed, wp := 256, valid := valid, cls := 1, pins := pins }, Band.blank] } }
    let at' (p : Part) (k : Chan) : Part := mapped (withChan p k)
    (((withChan d { Chan.blank with state := .idle, flag := true }).chan 0).state = .idle ∧
      (d.chan 0).flag = false) ∧
    ((d.setup 0).job = .destage ∧ d.destageWork none = none ∧
      ({ d with sl := { d.sl with runs := [run] } } : Part).destageWork none = some run) ∧
    ((r.setup 0).job = .reclaim ∧ (r.chan 0).victim = none ∧ (r.selectVictim (r.setup 0).victims).1 = none ∧
      ((full 3 0).selectVictim (r.setup 0).victims).1 = some 0 ∧
      ((withChan r { Chan.blank with victim := some 0 }).chan 0).victim ≠ none) ∧
    (((at' d { move with work := some workRec }).chan 0).work = some workRec ∧
      exactCheck (mapped d).tu.extents 0 4 (.log 0) ≠ [] ∧ exactCheck d.tu.extents 0 4 (.log 0) = []) ∧
    (((at' r { move with victim := some 0 }).chan 0).victim = some 0 ∧
      bandScan (mapped r).tu.extents 0 0 1024 = some (6, 2, 0) ∧ bandScan (mapped r).tu.extents 1 0 1024 = none) ∧
    (((at' d { move with stop := some .disable }).chan 0).stop ≠ none) ∧
    (∀ x ∈ [(3, 0), (0, 0), (0, 1)], ((full x.1 x.2).band 0).valid = x.1 ∧ ((full x.1 x.2).band 0).pins = x.2 ∧
      ((full x.1 x.2).band 0).pendingRemaps = 0 ∧ ((full x.1 x.2).band 0).inFlight = 0) := by
  decide +kernel

/-- Staging requests that fit, that never can, that wait; a run with one pin, one hold and its flag, and one with
none; a record that is named, and a name that no record has. -/
theorem witness_LevelsOfFillRaiseStageHighAndTurnTheLane_log :
    let run (n : Nat) (b : Bool) : Run :=
      { pos := 0, len := 4, start := 0, live := 0, cls := 1, inFlight := b, pins := n, hold := n }
    let destaging : Part := { serving (chanSetup .destage) { Chan.blank with state := .idle } with sl := (filled 16).sl }
    (fill (filled 15).sl + 128 ≤ stgCap (filled 15).bm ∧ (filled 15).sl.runs.length + 2 ≤ 16384) ∧
    stgCap (filled 15).bm < 2049 ∧
    (¬fill destaging.sl + 1 ≤ stgCap destaging.bm ∧ ¬stgCap destaging.bm < 1 ∧ (destaging.setup 0).enable = true ∧
      (destaging.setup 0).job = .destage ∧ (destaging.chan 0).state ≠ .disabled ∧ (destaging.chan 0).stop = none) ∧
    ((filled 16).setup 0).enable = false ∧
    (Meets 3 1 (run 1 true) ∧ ¬Meets 4 1 (run 1 true) ∧ (run 1 true).pins = 1 ∧ (run 1 true).hold = 1 ∧
      (run 2 false).pins ≠ 1 ∧ (run 2 false).hold ≠ 1) ∧
    ((∃ r ∈ (filled 12).sl.runs, r.pos = 0) ∧ ∀ r ∈ (filled 12).sl.runs, r.pos ≠ 1) := by decide

/-- Channels whose source is MEDIA_IDLE: one that is IDLE, one that is stopped, one that is DISABLED. -/
theorem witness_OnlyARunningChannelBecomesIdle_media :
    let p (k : Chan) := serving (chanSetup .destage) k
    (((p { Chan.blank with state := .idle }).setup 0).source = .mediaIdle ∧
      ((p { Chan.blank with state := .idle }).setup 0).enable = true ∧
      (p { Chan.blank with state := .idle }).sv.device = .online ∧
      ((p { Chan.blank with state := .idle }).chan 0).state ≠ .disabled) ∧
    ((p { Chan.blank with state := .move, stop := some .disable }).chan 0).stop ≠ none ∧
    ((p Chan.blank).chan 0).state = .disabled ∧ 0 < (p Chan.blank).re.chans.length := by decide

/-- A reset that ends while a message is being sent, with a valid mark, and one without. -/
theorem witness_CancelledAllCompletesTheReset_marks :
    let l : LinkIface := { LinkIface.cold with queue := [busyRefusal, notice evFence], sending := true }
    (Hears (inReset { mounted .online with li := l } true) ∧
      (inReset { mounted .online with li := l } true).part.sv.header.mark = true ∧
      (inReset { mounted .online with li := l } true).part.li.sending = true ∧
      (inReset { mounted .online with li := l } true).part.li.queue ≠ []) ∧
    (Hears (inReset State.reset.part true) ∧ (inReset State.reset.part true).part.sv.header.mark = false ∧
      (inReset State.reset.part true).part.sv.format = none ∧ (inReset State.reset.part true).part.mp.awaitAll = true) :=
  ⟨⟨hears_of (by decide), by decide⟩, ⟨hears_of (by decide), by decide⟩⟩

/-- A part with one band in a state. -/
def oneBand (x : Band) : Part :=
  let p := mounted .online
  { p with bm := { p.bm with bands := [x, Band.blank] } }

/-- A band in each state, with and without its suspect flag; errors short of the threshold and at it. -/
theorem witness_RetireAnswersInItsOrder_bands :
    (∀ x ∈ [BandState.free, .opened, .parked, .closed, .reclaiming, .suspect, .retired], ∀ f ∈ [false, true],
      let p := oneBand { Band.blank with state := x, suspectFlag := f }
      0 < p.bm.bands.length ∧ (p.band 0).state = x ∧ (p.band 0).suspectFlag = f ∧ p.bm.retired.Pairwise (· < ·)) ∧
    min 255 (((oneBand { Band.blank with errors := 2 }).band 0).errors + 1) < (mounted .online).sv.settings.suspect ∧
    (mounted .online).sv.settings.suspect ≤ min 255 (((oneBand { Band.blank with errors := 3 }).band 0).errors + 1) := by
  decide

/-- Band 0 of class 1 with so much written, and bands on the parked list of its class. -/
def parking (wp : Nat) (l : List Nat) : Part :=
  let p := oneBand { Band.blank with state := .opened, cls := 1, owner := some (.stream 1), wp := wp }
  { p with bm := { p.bm with
    bands := p.bm.bands ++ List.replicate 4 { Band.blank with state := .parked, wp := 1, cls := 1 }
    geom := { geo with zones := [{ zone0 with pairs := 3 }], stgFirst := 192 }
    parked := l :: List.replicate 7 [] } }

/-- A band in which nothing is reserved, one with less than a track of room, one without room, and one with room,
beside three and beside four parked bands. -/
theorem witness_LocateAndStreamRequestsEndAtTheHead_parks :
    (∀ x ∈ [(0, [2, 3, 4, 5]), (7937, [2, 3, 4, 5]), (130, [3, 4, 5]), (130, [2, 3, 4, 5])],
      let p := parking x.1 x.2
      (p.band 0).state = .opened ∧ (p.band 0).wp = x.1 ∧ 0 < (pairGeo p.bm.geom 0).S ∧ 0 ∉ p.parkedList 1 ∧
        (p.band 0).cls - 1 < p.bm.parked.length ∧ p.parkedList (p.band 0).cls = x.2 ∧
        ∀ o ∈ x.2, o < p.bm.bands.length ∧ (p.band o).owner = none) ∧
    (room (parking 7937 []).bm 0 < 128 ∧ 128 ≤ room (parking 130 []).bm 0) ∧
    (¬room (parking 8063 []).bm 0 < 1 ∧ room (parking 8064 []).bm 0 < 1) ∧
    (oneBand Band.blank).park 0 .pad = (0, oneBand Band.blank) := by decide +kernel

/-- A division of a stream's PLACE and of one without a stream; a requester that owns a band, one with a band on the
list, one for which a band is free, one without; a reservation with room and without. -/
theorem witness_PlaceAdmittedWithPiecesThatCoverItsRange_bands :
    let owned (wp : Nat) : Part := withStream (oneBand { Band.blank with
      state := .opened, cls := 1, owner := some (.stream 1), wp := wp }) activeStream
    let dormant : Stream := { Stream.blank with state := .dormant, cls := 1 }
    let listed : Part := withStream { parking 130 [2] with sv := (mounted .online).sv } dormant
    let spare : Part := withStream { mounted .online with
      bm := { (mounted .online).bm with geom := { geo with zones := [{ zone0 with pairs := 3 }], stgFirst := 192 }
                                        bands := List.replicate 6 Band.blank } } dormant
    ((owned 0).stream 1).state ≠ .free ∧ ((owned 0).stream 1).nextLba = some 4 ∧
    (¬(4 : Nat) = 0 ∧ (256 : Nat) ≤ 256) ∧
    (((owned 0).stream 1).band = some 0 ∧ ((owned 0).band 0).state = .opened ∧
      ((owned 0).band 0).owner = some (.stream 1)) ∧
    ((listed.stream 1).band = none ∧ listed.parkedList 1 = 2 :: []) ∧
    ((spare.stream 1).band = none ∧ spare.parkedList 1 = [] ∧ classCount spare.bm 1 < (spare.classRec 1).quota ∧
      spare.sv.settings.reserve < (spare.bm.bands.countP fun b => decide (b.state = .free)) ∧
      (spare.band 0).state = .free ∧ 128 ≤ room spare.bm 0) ∧
    ¬(mounted .online).sv.settings.reserve < ((mounted .online).bm.bands.countP fun b => decide (b.state = .free)) ∧
    (min 5 (room (owned 0).bm 0) ≠ 0 ∧ min 5 (room (owned 8064).bm 0) = 0) := by decide +kernel

/-- Copies: one that still reads, one that has read all, one whose run has failed twice, one that is being placed, one
that is placed whole and settled, one that lacks a band, one with a stop; remaps that fail, wait, apply. -/
theorem witness_WaitingPiecesAndStopsGoOn_copies :
    let y : Copy :=
      { phase := .reading, lba := 0, len := 4, src := .log 0, cls := 1, verify := false, readFailed := false, placed := 0
        pieces := [], noBand := false, cutShort := false }
    let piece : CopyPiece := { off := 0, len := 4, band := 0, dst := 0, update := 0, state := .applied, verifying := false }
    let p (k : Chan) := serving (chanSetup .destage) { k with state := .move }
    let idle (y : Copy) := p { Chan.blank with copy := some y }
    let busy : Part := { idle y with mp := { (idle y).mp with orders := [{ tOrder 0 .issued with owner := .chan 0 }] } }
    (∀ c ∈ [y, { y with readFailed := true }, { y with phase := .writing, placed := 4, pieces := [piece] },
        { y with phase := .writing, noBand := true },
        { y with phase := .writing, placed := 4, pieces := [{ piece with state := .posted }] }],
      ((idle c).chan 0).copy = some c ∧ ((idle c).chan 0).toJoin = [] ∧ ∀ o ∈ (idle c).mp.orders, o.owner ≠ .chan 0) ∧
    ((∃ o ∈ busy.mp.orders, o.owner = .chan 0) ∧ ((p Chan.blank).chan 0).copy = none) ∧
    (((p { Chan.blank with copy := some y, stop := some .disable }).chan 0).stop ≠ none) ∧
    ((idle y).bandRequest (.chan 0) 8).1 ≠ none ∧
    (({ idle y with bm := { (idle y).bm with bands := List.replicate 2 { Band.blank with state := .closed } } } :
      Part).bandRequest (.chan 0) 8).1 = none ∧
    (∀ r ∈ [{ tRemap with applying := false, orders := 1 }, { tRemap with applying := false, failed := true },
        { tRemap with applying := false, closed := false }, { tRemap with applying := false, joined := false },
        { tRemap with applying := false }], r.applying = false) ∧ tRemap.applying = true := by decide +kernel

/-! ### The data book's worked cases -/

/-- Table 1-3. -/
def exGeo : Geometry :=
  { K := 2, zones := [{ first := 1200, pairs := 250, T := 600, S := 448 }, { first := 151200, pairs := 200, T := 512, S := 384 }]
    stgFirst := 40, stgCount := 1024, stgS := 256, L := 102959680 }

def exRetired : List Nat := [41, 300, 120003, 120010, 120597]

/-- Pair 198 with so much written into its two bands. -/
def exBm (wpA wpB : Nat) : BandManager :=
  let a : Band := { Band.blank with state := .opened, cls := 1, owner := some (.stream 3), wp := wpA, valid := wpA }
  let b : Band := { Band.blank with state := .opened, cls := 1, owner := some (.chan 1), wp := wpB, valid := wpB }
  { geom := exGeo, retired := exRetired, pendingRetire := [], bands := List.replicate 396 Band.blank ++ [a, b]
    parked := List.replicate 8 [] }

def exPart (wpA wpB : Nat) : Part :=
  { mounted .online with
    bm := exBm wpA wpB
    tu := { (mounted .online).tu with extents := [⟨5000200, 600, .band 396 1000⟩, ⟨5000800, 100, .log 600⟩] } }

theorem test_example_geometry : geometryFault exGeo exRetired = none ∧
    geometryFault { exGeo with L := 102959681 } exRetired = some 14 := by decide +kernel
theorem test_positions_in_pair_198 : bandPosition (exBm 2001 1001) 396 2000 = (120005, 208) ∧
    bandPosition (exBm 2001 1001) 397 1000 = (120596, 104) ∧ span (exBm 2001 1001) 396 = 6 ∧
    span (exBm 2001 1001) 397 = 4 ∧ unusedTracks (exBm 2001 1001) 198 = 588 := by decide +kernel
theorem test_room_in_pair_198 : room (exBm 2001 1001) 397 = 263319 ∧
    room { exBm 2001 1001 with retired := insertAsc 120300 exRetired } 397 = 262871 := by decide +kernel
theorem test_runs_in_band_396 : (cut (exBm 2200 0) (.band 396 1000) 1200).map (fun r => (r.track, r.sector, r.count, r.pieceOff)) =
    [(120002, 104, 344, 0), (120004, 0, 856, 344)] := by decide +kernel
theorem test_staging_positions : stgCap (exBm 0 0) = 261632 ∧ logPosition (exBm 0 0) 600 = (43, 88) ∧
    logPosition (exBm 0 0) 261631 = (1063, 255) ∧ (cut (exBm 0 0) (.log 200) 400).map
      (fun r => (r.track, r.sector, r.count, r.pieceOff)) = [(40, 200, 56, 0), (42, 0, 344, 56)] := by decide +kernel
theorem test_locate_across_a_retired_track : ((exPart 2001 1001).locateSegs 5000000 1000).map LocateSeg.items =
    [[item 1 0, item 5 5000000, item 4 200],
     [item 1 1, item 5 5000200, item 4 344, item 1 0, item 2 396, item 3 1000, item 3 120002, item 2 104, item 1 0],
     [item 1 1, item 5 5000544, item 4 256, item 1 0, item 2 396, item 3 1344, item 3 120004, item 2 0, item 1 0],
     [item 1 1, item 5 5000800, item 4 100, item 1 1, item 4 600, item 3 43, item 2 88, item 1 0],
     [item 1 0, item 5 5000900, item 4 100]] := by decide +kernel
theorem test_scores : scoreOf .rnu 30000 60000 100 4 =
      { u := 32768, N := 13107200, D := 98304, raw := 133, score := 133, saturated := false } ∧
    ([RoundMode.rnu, .rne, .rdn, .rod].map fun m => ((scoreOf m 1 131072 4095 64).u, (scoreOf m 1 131072 4095 64).score,
      (scoreOf m 1 131072 100 64).score)) = [(1, 65535, 6400), (0, 65535, 6400), (0, 65535, 6400), (1, 65535, 6399)] := by
  decide
theorem test_attributes_of_a_place :
    (Attrs.default.layered 3 1 0 |>.layered 0 2 0 |>.layered 0 0 1) = { cls := 3, tail := 2, verify := 1 } := by decide
theorem test_append_across_the_wrap : stagedParts 261632 261500 300 = [{ pos := 261500, len := 132 }, { pos := 0, len := 168 }] ∧
    (partRecords 5 (stagedParts 261632 261500 300) 7000000).map (fun r => (r.pos, r.len, r.start, r.cls, r.inFlight)) =
      [(261500, 132, 7000000, 5, true), (0, 168, 7000132, 5, true)] := by decide

/-! ### The checks of R163 and R183 on the characters 1 to 9 -/

def digits : List Byte := [0x31, 0x32, 0x33, 0x34, 0x35, 0x36, 0x37, 0x38, 0x39]

theorem test_crc16 : crc16 digits = 0x29B1#16 := by decide +kernel
theorem test_crc32 : crc32 digits = 0xFC891918#32 := by decide +kernel

/-! ### One step -/

/-- The state a step goes on to; the state itself where it does not. -/
def next (s : State) : State :=
  match step s with
  | .next t => t
  | _ => s

/-- A step with a command in front. -/
def take (c : Instr) (s : State) : State := next { s with pending := c :: s.pending }

theorem test_step_from_reset : (take (.status (q0 0)) State.reset).part.li.queue.map (fun m => (m.tag, m.place)) =
    [(7, .ordinary)] ∧ (take (.status (q0 0)) State.reset).part.li.sending = true := by decide +kernel
theorem test_millisecond : (next State.reset).part.sv.hourAcc = 1 ∧ (next (st (mounted .halted))) = st (mounted .halted) := by
  decide +kernel
theorem test_cold_start : (take (.coldStart 2) { online with pins := { online.pins with resetLine := true } }).part.sv.device =
    .stopped := by decide +kernel
theorem test_format : (take (.format (q0 26) geo []) State.reset).part.store.updates.map (fun u => u.follows) = [[.format]] := by
  decide +kernel
theorem test_mount_digest : (take .mountDigestEnd (st { mounted .mounting with
    sv := { (mounted .mounting).sv with mount := some { tag := 7, hold := true } } })).part.sv.device = .online := by
  decide +kernel
theorem test_retire_pending : (take (.retire (q0 4) 120004) (st (exPart 2001 1001))).part.bm.pendingRetire =
      [{ track := 120004, band := 396 }] ∧
    ((take (.retire (q0 4) 120004) (st (exPart 2001 1001))).part.band 396).state = .suspect := by decide +kernel
theorem test_retire_at_once : (take (.retire (q0 4) 120300) (st (exPart 2001 1001))).part.bm.retired =
    [41, 300, 120003, 120010, 120300, 120597] := by decide +kernel
theorem test_fetch_orders : (take .fetchAdmission (st { exPart 2001 1001 with
      tx := { queue := [head (.fetch 5000000 1000 7)], txns := [] } })).part.mp.orders.map
        (fun o => (o.id, o.track, o.sector, o.count, o.bufOff)) =
    [(0, 120002, 104, 344, 200), (1, 120004, 0, 256, 544), (2, 43, 88, 100, 800)] := by decide +kernel
theorem test_place_staged : (take .placeAdmission (st (queued (.place (placeArgs 0 4))))).part.mp.orders.map
      (fun o => (o.op, o.track, o.sector, o.count)) = [(.write, 64, 0, 4)] ∧
    (take .placeAdmission (st (queued (.place (placeArgs 0 4))))).part.sl.head = 4 := by decide +kernel
theorem test_discard : (take .discardAdmission (st (mapped (queued (.discard 1 4))))).part.tu.extents =
    [⟨0, 1, .log 0⟩, ⟨6, 2, .band 0 0⟩] := by decide +kernel
theorem test_issue : (take .orderIssue (st (working [] [tOrder 0 .queued]))).part.mp.tx =
    [.order 0 .read 64 0 .up 4 5 0] := by decide +kernel
theorem test_report_stray : (take (.report 3 .ok 0) online).part.mp.stray = 1 := by decide +kernel
theorem test_timeout : (take (.orderTimerExpiry 0) (st (working [tTxn (.fetch 0 8 5)] [due (tOrder 0 .issued)]))).part.mp.tx =
    [.cancel 0] := by decide +kernel
theorem test_hour : (take .hourAdvance (hour 3600000 0)).part.sv.header.hours = 1 := by decide +kernel
theorem test_frame_error : (take (.frameDiscard .badCheck) online).part.li.queue = [notice evFrameErr] ∧
    (take (.frameDiscard .badCheck) online).part.sv.alert = true := by decide +kernel
/-- A frame's last character but one has come; the last brings the command, which waits for the next step. -/
theorem test_frame_received :
    let chars := (frameChars 5 7 (natChars 2 3)).map LineChar.byte
    let mid := { LinkIface.cold with rx := (Receiver.hunting.takeAll (chars.take 8)).1 }
    let s := { st { mounted .online with li := mid } with line := (chars.drop 8).map fun c => ⟨.command, c⟩ }
    chars.length = 9 ∧ (next s).pending = [.band (q0 2) 3] ∧ (next s).line = [] ∧ (next s).part.li.rx = .hunting := by
  decide +kernel
theorem test_report_received : receivedCommand .media (.frame 0x68 5 [0, 1, 2]) = some (.report 5 .ok 258) ∧
    receivedCommand .media (.frame 0x68 5 [3, 1, 2]) = some (.mediaFrameDiscard .badKind) ∧
    receivedCommand .command (.frame 0x21 7 (natChars 1 1 ++ natChars 5 9 ++ natChars 2 4 ++ natChars 4 5)) =
      some (.fetch (q0 12) true 9 4 5) ∧
    receivedCommand .command (.frame 0x08 7 []) = some (.badKindRequest 7 8) := by decide +kernel
theorem test_word : decodeTableWord 8 0 = none ∧ State.reset.withFetchWord 8 0 = State.reset := by decide +kernel

end Sys2Proof.Tests
end

section
/-! SUPPORT. The rounded division of R127: its four modes as one rule for when the next integer above the quotient is
taken, its monotony, and what follows for a score (R128, R129). -/

namespace Sys2Proof.Machine

variable {m : RoundMode}

/-! ### The rounded division (R127) -/

/-- Whether a mode takes the next integer above the quotient q when r is left over D (Table 7-2). -/
def RoundMode.roundsUp (m : RoundMode) (q r D : Nat) : Bool :=
  match m with
  | .rnu => decide (D ≤ 2 * r)
  | .rne => decide (D < 2 * r ∨ (2 * r = D ∧ q % 2 = 1))
  | .rdn => false
  | .rod => decide (r ≠ 0 ∧ q % 2 = 0)

theorem ite_succ_eq_add_toNat (c : Prop) [Decidable c] (n : Nat) :
    (if c then n + 1 else n) = n + (decide c).toNat := by
  by_cases h : c <;> simp [h]

theorem roundDiv_eq_add (m : RoundMode) (N D : Nat) :
    roundDiv m N D = N / D + (m.roundsUp (N / D) (N % D) D).toNat :=
  match m with
  | .rnu | .rne | .rod => ite_succ_eq_add_toNat _ _
  | .rdn => rfl

theorem RoundMode.roundsUp_zero (m : RoundMode) (q : Nat) {D : Nat} (hD : 1 ≤ D) : m.roundsUp q 0 D = false :=
  match m with
  | .rnu | .rne => decide_eq_false (by omega)
  | .rdn | .rod => rfl

/-- With the quotient the same, a mode that rounds r / D up rounds every larger fraction up. -/
theorem RoundMode.roundsUp_mono (m : RoundMode) {q r D r' D' : Nat} (hD : 1 ≤ D) (hD' : 1 ≤ D') (h : r * D' ≤ r' * D)
    (hup : m.roundsUp q r D = true) : m.roundsUp q r' D' = true := by
  have half_le (hr : D ≤ 2 * r) : D' ≤ 2 * r' :=
    Nat.le_of_mul_le_mul_left (by nlinarith only [Nat.mul_le_mul_right D' hr, h]) hD
  have half_lt (hr : D < 2 * r) : D' < 2 * r' :=
    Nat.lt_of_mul_lt_mul_left (a := D) (by nlinarith only [Nat.mul_lt_mul_of_pos_right hr hD', h])
  have pos (hr : r ≠ 0) : r' ≠ 0 := by
    rintro rfl
    have : 0 < r * D' := Nat.mul_pos (Nat.pos_of_ne_zero hr) hD'
    omega
  cases m <;> simp only [roundsUp, decide_eq_true_eq] at hup ⊢
  case rnu => exact half_le hup
  case rne =>
    rcases hup with hr | ⟨hr, hodd⟩
    · exact .inl (half_lt hr)
    · have := half_le hr.ge
      omega
  case rdn => exact hup
  case rod => exact ⟨pos hup.1, hup.2⟩

/-- With no remainder every mode gives the quotient. -/
theorem roundDiv_of_mod_eq_zero (m : RoundMode) {N D : Nat} (hD : 1 ≤ D) (h : N % D = 0) : roundDiv m N D = N / D := by
  simp [roundDiv_eq_add, h, m.roundsUp_zero _ hD]

/-- Under ROD a quotient that is not whole ends odd. -/
theorem roundDiv_rod_odd {N D : Nat} (h : N % D ≠ 0) : roundDiv .rod N D % 2 = 1 := by
  simp only [roundDiv]
  split <;> omega

/-- The result does not fall as the exact quotient rises. -/
theorem roundDiv_le_roundDiv (m : RoundMode) {N D N' D' : Nat} (hD : 1 ≤ D) (hD' : 1 ≤ D') (h : N * D' ≤ N' * D) :
    roundDiv m N D ≤ roundDiv m N' D' := by
  have hN : D * (N / D) + N % D = N := Nat.div_add_mod N D
  have hN' : D' * (N' / D') + N' % D' = N' := Nat.div_add_mod N' D'
  have hq : N / D ≤ N' / D' := by
    rw [Nat.le_div_iff_mul_le hD']
    refine Nat.le_of_mul_le_mul_right (c := D) ?_ hD
    calc N / D * D' * D = N / D * D * D' := Nat.mul_right_comm ..
      _ ≤ N * D' := Nat.mul_le_mul_right D' (Nat.div_mul_le_self N D)
      _ ≤ N' * D := h
  rw [roundDiv_eq_add, roundDiv_eq_add]
  rcases hq.lt_or_eq with hlt | heq
  · have := Bool.toNat_le (m.roundsUp (N / D) (N % D) D)
    omega
  · have hr : N % D * D' ≤ N' % D' * D := by
      rw [← heq] at hN'
      nlinarith only [hN, hN', h]
    rw [← heq]
    exact Nat.add_le_add_left (Bool.toNat_le_toNat (m.roundsUp_mono hD hD' hr)) _

/-! ### The stages of a score (R128, R129) -/

theorem scoreOf_u {v w a W : Nat} : (scoreOf m v w a W).u = min Config.fullUse (roundDiv m (v * 65536) w) := rfl

theorem scoreOf_score {v w a W : Nat} : (scoreOf m v w a W).score = min Config.scoreCap
    (roundDiv m ((Config.fullUse - (scoreOf m v w a W).u) * a * W) (Config.fullUse + (scoreOf m v w a W).u)) := rfl

/-- The utilization does not fall as the valid blocks rise. -/
theorem scoreOf_u_le {v v' w a W a' W' : Nat} (hw : 1 ≤ w) (hv : v ≤ v') :
    (scoreOf m v w a W).u ≤ (scoreOf m v' w a' W').u := by
  rw [scoreOf_u, scoreOf_u]
  exact min_le_min_left _ (roundDiv_le_roundDiv m hw hw (by gcongr))

/-- The raw score does not rise with the utilization and does not fall with the age or the weight. -/
theorem roundDiv_stages_le (m : RoundMode) {u u' a a' W W' : Nat} (hu : u ≤ u') (ha : a ≤ a') (hW : W ≤ W') :
    roundDiv m ((Config.fullUse - u') * a * W) (Config.fullUse + u') ≤
      roundDiv m ((Config.fullUse - u) * a' * W') (Config.fullUse + u) :=
  have pos (x : Nat) : 1 ≤ Config.fullUse + x := Nat.le_add_right_of_le (by decide)
  roundDiv_le_roundDiv m (pos u') (pos u) (by gcongr)

/-- A score does not rise with the valid blocks and does not fall with the age or the weight. -/
theorem scoreOf_score_le {v v' w a a' W W' : Nat} (hw : 1 ≤ w) (hv : v ≤ v') (ha : a ≤ a') (hW : W ≤ W') :
    (scoreOf m v' w a W).score ≤ (scoreOf m v w a' W').score := by
  rw [scoreOf_score, scoreOf_score]
  exact min_le_min_left _ (roundDiv_stages_le m (scoreOf_u_le hw hv) ha hW)

/-- Settles O57, by the monotony of the rounded division (roundDiv_le_roundDiv). -/
theorem roundedDivision : Obligations.RoundedDivision := by
  intro N D hD
  dsimp only
  rw [← Nat.mod_eq_sub_div_mul]
  refine ⟨rfl, rfl, rfl, rfl, roundDiv_rod_odd, fun m => ⟨roundDiv_of_mod_eq_zero m hD, ?_, ?_, ?_⟩⟩
  · exact fun N' D' hD' h => roundDiv_le_roundDiv m hD hD' h
  · exact fun u u' a W hu _ => roundDiv_stages_le m hu le_rfl le_rfl
  · intro v w a W hw
    exact ⟨fun v' hv => scoreOf_score_le hw hv le_rfl le_rfl, fun a' ha => scoreOf_score_le hw le_rfl ha le_rfl,
      fun W' hW => scoreOf_score_le hw le_rfl le_rfl hW⟩

end Sys2Proof.Machine
end

section
/-! SUPPORT. The selection of a victim (R131) as the best band of an ascending list, under an order that no two bands tie
in, and its effect on the saturation flag (R130). -/

namespace Sys2Proof.Machine

variable {p : Part} {classes : ClassBits}

/-! ### The order of the candidates (R131) -/

/-- Band b is chosen before band c: by the higher score, then the fewer valid blocks, then the lower number. -/
def Part.Beats (p : Part) (b c : Nat) : Prop :=
  (p.score c).score < (p.score b).score ∨ ((p.score c).score = (p.score b).score ∧
    ((p.band b).valid < (p.band c).valid ∨ ((p.band b).valid = (p.band c).valid ∧ b < c)))

theorem Part.Beats.trans {a b c : Nat} (hab : p.Beats a b) (hbc : p.Beats b c) : p.Beats a c := by
  unfold Part.Beats at *
  omega

theorem Part.Beats.asymm {a b : Nat} (hab : p.Beats a b) : ¬p.Beats b a := by
  unfold Part.Beats at *
  omega

/-- Of the choice so far and a band of a higher number the better stays. -/
theorem Part.betterVictim_some {a b : Nat} (h : a < b) :
    (p.betterVictim (some a) b = some b ∧ p.Beats b a) ∨ (p.betterVictim (some a) b = some a ∧ p.Beats a b) := by
  unfold Part.Beats
  simp only [Part.betterVictim]
  split
  · exact .inl ⟨rfl, by omega⟩
  · exact .inr ⟨rfl, by omega⟩

/-- Band b is of the list and is chosen before all others of it. -/
def Part.IsBest (p : Part) (l : List Nat) (b : Nat) : Prop := b ∈ l ∧ ∀ c ∈ l, c ≠ b → p.Beats b c

theorem Part.IsBest.unique {l : List Nat} {a b : Nat} (ha : p.IsBest l a) (hb : p.IsBest l b) : a = b := by
  by_contra hne
  exact (ha.2 b hb.1 (Ne.symm hne)).asymm (hb.2 a ha.1 hne)

/-- The best of a list and one band more is the better of the list's best and that band. -/
theorem Part.IsBest.betterVictim_append {l : List Nat} {a b : Nat} (ha : p.IsBest l a) (h : a < b) :
    ∃ x, p.betterVictim (some a) b = some x ∧ p.IsBest (l ++ [b]) x := by
  obtain ⟨hmem, hbeats⟩ := ha
  rcases Part.betterVictim_some (p := p) h with ⟨heq, hb⟩ | ⟨heq, ha⟩
  · refine ⟨b, heq, by simp, fun c hc hne => ?_⟩
    have hcl : c ∈ l := by simpa [hne] using hc
    by_cases hca : c = a
    · exact hca ▸ hb
    · exact hb.trans (hbeats c hcl hca)
  · refine ⟨a, heq, by simp [hmem], fun c hc hne => ?_⟩
    rcases List.mem_append.1 hc with hcl | hcb
    · exact hbeats c hcl hne
    · exact List.mem_singleton.1 hcb ▸ ha

/-- The fold of a selection over bands in ascending order ends with the best of them. -/
theorem Part.foldl_betterVictim_isBest {l : List Nat} (hl : l.Pairwise (· < ·)) (hne : l ≠ []) :
    ∃ x, l.foldl p.betterVictim none = some x ∧ p.IsBest l x := by
  induction l using List.reverseRecOn with
  | nil => exact absurd rfl hne
  | append_singleton l b ih =>
    rw [List.foldl_concat]
    obtain ⟨hl, -, hlt⟩ := List.pairwise_append.1 hl
    by_cases hnil : l = []
    · subst hnil
      exact ⟨b, rfl, by simp [Part.IsBest]⟩
    · obtain ⟨a, heq, ha⟩ := ih hl hnil
      rw [heq]
      exact ha.betterVictim_append (hlt a ha.1 b (by simp))

/-! ### The selection (R124, R130, R131) -/

/-- The candidates for a set of victim classes, in ascending order. -/
def Part.candidates (p : Part) (classes : ClassBits) : List Nat := (bandNumbers p.bm).filter (p.candidate classes)

theorem Part.mem_candidates {b : Nat} : b ∈ p.candidates classes ↔ b < p.bm.bands.length ∧
    ((p.band b).state = .closed ∨ (p.band b).state = .suspect) ∧ 1 ≤ (p.band b).valid ∧
      classes.getLsbD (p.band b).cls = true := by
  simp [Part.candidates, bandNumbers, Part.candidate, inSet, and_assoc]

theorem Part.candidates_pairwise : (p.candidates classes).Pairwise (· < ·) := List.pairwise_lt_range.filter _

theorem Part.selectVictim_fst : (p.selectVictim classes).1 = (p.candidates classes).foldl p.betterVictim none := rfl

theorem Part.selectVictim_eq_none : (p.selectVictim classes).1 = none ↔ p.candidates classes = [] := by
  rw [Part.selectVictim_fst]
  refine ⟨fun h => ?_, fun h => by rw [h]; rfl⟩
  by_contra hne
  obtain ⟨x, heq, -⟩ := Part.foldl_betterVictim_isBest (p := p) Part.candidates_pairwise hne
  exact absurd (h.symm.trans heq) (by simp)

theorem Part.selectVictim_eq_some {b : Nat} :
    (p.selectVictim classes).1 = some b ↔ p.IsBest (p.candidates classes) b := by
  rw [Part.selectVictim_fst]
  by_cases hne : p.candidates classes = []
  · simp [hne, Part.IsBest]
  · obtain ⟨x, heq, hx⟩ := Part.foldl_betterVictim_isBest (p := p) Part.candidates_pairwise hne
    rw [heq, Option.some_inj]
    exact ⟨fun h => h ▸ hx, hx.unique⟩

/-- The part after a selection: the saturation flag is set, and SCORE_SAT raised, where a candidate saturates and the flag
was clear (R130). -/
theorem Part.selectVictim_snd : (p.selectVictim classes).2 =
    if (p.candidates classes).any (fun b => (p.score b).saturated) && !p.sc.saturated then
      (p.modSc fun s => { s with saturated := true }).raise evScoreSat
    else p := rfl

/-- Settles O58, by the fold's best band (foldl_betterVictim_isBest), which R131 makes unique. -/
theorem selectionTakesTheBestVictim : Obligations.SelectionTakesTheBestVictim := by
  refine ⟨fun m v w a W => ⟨rfl, decide_eq_true_iff⟩, fun p classes => ?_⟩
  dsimp only
  simp only [← Part.mem_candidates (p := p) (classes := classes)]
  refine ⟨?_, fun b => Part.selectVictim_eq_some, ?_, ?_⟩
  · rw [Part.selectVictim_eq_none, List.eq_nil_iff_forall_not_mem]
  · rintro (hflag | hclear)
    · simp [Part.selectVictim_snd, hflag]
    · have hany : (p.candidates classes).any (fun b => (p.score b).saturated) = false := by simpa using hclear
      simp [Part.selectVictim_snd, hany]
  · intro hflag hsat
    have hany : (p.candidates classes).any (fun b => (p.score b).saturated) = true := List.any_eq_true.2 hsat
    rw [Part.selectVictim_snd, hany, hflag]
    rfl

end Sys2Proof.Machine
end

section
/-! SUPPORT. What a command can do, said once: which commands move a line, which end a frame, and which are events of a
part that takes them; with the checks of R165 read as the statements read them. -/

namespace Sys2Proof.Machine

open Sys2Proof Sys2Proof.Spec

variable {s : State} {p q : Part}

/-! ### A part that hears, and a part that does not -/

theorem deaf_eq_true : s.deaf = true ↔ ¬Hears s := by
  simp only [State.deaf, Hears, Bool.or_eq_true, decide_eq_true_eq]
  cases s.pins.resetLine <;> simp

theorem deaf_eq_false : s.deaf = false ↔ Hears s := by
  rw [← Bool.not_eq_true, deaf_eq_true, not_not]

/-- A command that changes no stored contents, in a part that hears. -/
theorem heard_eq_tell (h : Hears s) (f : Part → Part) : s.heard f = .next (tell s (f s.part)) :=
  heard_of_hears (deaf_eq_false.2 h)

/-- A command that is an event, in a part that hears. -/
theorem taken_eq_after (h : Hears s) (f : Part → Part) : s.taken f = .next (after s (f s.part)) :=
  taken_of_hears (deaf_eq_false.2 h)

/-- An event whose reports have all been worked off. -/
theorem after_eq_commit {p : Part} (h : p.notes = []) : after s p = commit s p := by
  rw [after, drainAll_of_no_notes h]

/-- An event of a part that is still has no taker for its reports. -/
theorem after_of_still {p : Part} (h : p.Still) : after s p = commit s p.noNotes := by
  rw [after, drainAll_of_still h]

/-- An event that changes nothing stored starts no update. -/
theorem commit_eq_tell {p : Part} (hi : p.image = s.part.image) (hf : p.store.follows = []) : commit s p = tell s p := by
  rw [commit, startUpdate_same (p := p.beginSending) hi hf]
  rfl

/-- An event that makes no report and changes nothing stored. -/
theorem after_eq_tell {p : Part} (hn : p.notes = []) (hi : p.image = s.part.image) (hf : p.store.follows = []) :
    after s p = tell s p := by
  rw [after_eq_commit hn, commit_eq_tell hi hf]

/-! ### The operations that make no report and place no step -/

/-- From p to q no report is made and nothing is placed after an update; the invariants of p are those of q. -/
structure Part.Quiet (p q : Part) : Prop where
  notes : q.notes = p.notes
  follows : q.store.follows = p.store.follows
  kept : p.Kept → q.Kept

theorem Part.Quiet.refl (p : Part) : p.Quiet p := ⟨rfl, rfl, id⟩

theorem quiet_ite {c : Prop} [Decidable c] {a b : Part} (ha : p.Quiet a) (hb : p.Quiet b) :
    p.Quiet (if c then a else b) := by
  split
  · exact ha
  · exact hb

@[simp] theorem quiet_say (h : p.Quiet q) (m : Message) : p.Quiet (q.say m) := ⟨h.notes, h.follows, fun k => kept_say (h.kept k)⟩

theorem quiet_modLi {f : LinkIface → LinkIface} (h : p.Quiet q) : p.Quiet (q.modLi f) :=
  ⟨h.notes, h.follows, fun k => kept_modLi (h.kept k)⟩

theorem quiet_modSc {f : ScoringUnit → ScoringUnit} (h : p.Quiet q) : p.Quiet (q.modSc f) :=
  ⟨h.notes, h.follows, fun k => kept_modSc (h.kept k)⟩

theorem quiet_modTx {f : TxnUnit → TxnUnit} (h : p.Quiet q) : p.Quiet (q.modTx f) :=
  ⟨h.notes, h.follows, fun k => kept_modTx (h.kept k)⟩

theorem quiet_modChan {c : Nat} {f : Chan → Chan} (h : p.Quiet q) : p.Quiet (q.modChan c f) :=
  ⟨h.notes, h.follows, fun k => kept_modChan (h.kept k)⟩

theorem quiet_sayRefusal {t : Nat} {r : Result} {k : ReqKind} (h : p.Quiet q) : p.Quiet (q.sayRefusal t r k) :=
  quiet_ite (quiet_modLi h) (quiet_say h _)

/-! ### The verdict of a kind's own rule -/

/-- A part that a verdict takes meets a property. -/
def Verdict.All (P : Part → Prop) : Verdict → Prop
  | .refuse _ _ => True
  | .take q => P q

variable {P : Part → Prop}

@[simp] theorem Verdict.all_refuse (r : Result) (l : List Item) : (Verdict.refuse r l).All P := trivial

@[simp] theorem Verdict.all_badArg : badArg.All P := trivial

@[simp] theorem Verdict.all_take : (Verdict.take q).All P ↔ P q := Iff.rfl

theorem Verdict.all_ite {c : Prop} [Decidable c] {a b : Verdict} (ha : a.All P) (hb : b.All P) :
    (if c then a else b).All P := by
  split
  · exact ha
  · exact hb

/-- A request that arrives keeps what its own rule keeps. -/
theorem kept_arrive_all {k : ReqKind} {r : Req} {hold ok : Bool} {own : Part → Verdict} (h : p.Kept)
    (ho : (own p).All Part.Kept) : (p.arrive k r hold ok own).Kept :=
  kept_arrive h fun q hq => by rwa [hq] at ho

theorem quiet_arrive {k : ReqKind} {r : Req} {hold ok : Bool} {own : Part → Verdict} (ho : (own p).All p.Quiet) :
    p.Quiet (p.arrive k r hold ok own) := by
  have hr := Part.Quiet.refl p
  unfold Part.arrive
  split
  · split
    · exact quiet_say hr _
    · split
      · exact quiet_say hr _
      · next hq => rwa [hq] at ho
  · exact quiet_sayRefusal hr

theorem quiet_answer {r : Req} {k : ReqKind} {l : List Item} (h : p.Quiet q) : (q.answer r k l).All p.Quiet :=
  quiet_say h _

theorem quiet_enqueue {r : Req} {hold : Bool} {d : DataReq} : (p.enqueue r hold d).All p.Quiet := by
  unfold Part.enqueue
  have hq := quiet_modTx (f := fun x => { x with queue := x.queue ++ [{ tag := r.tag, hold := hold, req := d }] }) (.refl p)
  refine Verdict.all_ite (by simp) ?_
  rw [Verdict.all_take, Part.acceptLong]
  exact quiet_modLi (quiet_ite (quiet_say hq _) hq)

theorem quiet_arriveData {r : Req} {hold : Bool} {n : Nat} {d : DataReq} {ok : Part → Bool} :
    p.Quiet (p.arriveData r hold n d ok) :=
  quiet_arrive (Verdict.all_ite quiet_enqueue (by simp))

/-! ### What a command is -/

/-- The four commands that move a line (R178, R185, R189). -/
inductive IsLineCommand : Instr → Prop
  | coldStart (n : Nat) : IsLineCommand (.coldStart n)
  | resetLineAssert : IsLineCommand .resetLineAssert
  | pwrfailAssert : IsLineCommand .pwrfailAssert
  | pwrfailNegate : IsLineCommand .pwrfailNegate

/-- What a command is: one that moves a line, the end of a frame, an event of a part that takes it, or a command that
makes no report and places no step. -/
inductive CommandCase (c : Instr) (s : State) : Prop
  | line (h : IsLineCommand c)
  | sent (l : Link) (h : c = .frameSent l)
  | taken (f : Part → Part) (kept : ∀ p : Part, p.Kept → (f p).Kept) (h : exec c s = s.taken f)
  | heard (f : Part → Part) (quiet : ∀ p : Part, p.Quiet (f p)) (h : exec c s = s.heard f)

theorem kept_retire {r : Req} {t : Nat} (h : p.Kept) : (p.retire r t).All Part.Kept := by
  unfold Part.retire
  dsimp only
  split
  · simp
  split
  · exact kept_say h
  split
  · exact kept_say h
  split
  · exact Verdict.all_ite (by simp) (kept_say (kept_bindSuspect (kept_modBm h)))
  · exact Verdict.all_ite (by simp) (kept_say (kept_closeTest (kept_closeTest (kept_retireTracks h))))
  · simp
  · simp

theorem kept_answerAfter {r : Req} {k : ReqKind} {l : List Item} (h : p.Kept) : (p.answerAfter r k l).All Part.Kept :=
  kept_follow (kept_holdPlaces h)

theorem kept_acceptLong {k : ReqKind} {t : Nat} {b : Bool} (h : p.Kept) : (p.acceptLong k t b).Kept :=
  kept_holdPlaces (kept_ite (kept_say h) h)

theorem kept_clearSaturated {b : Bool} (h : p.Kept) : (p.clearSaturated b).Kept := kept_ite (kept_modSc h) h

theorem kept_storeSetup {c : Nat} {v : ChanSetup} (h : p.Kept) : (p.storeSetup c v).Kept := by
  have hq : ((p.modSetup c fun _ => v).note .destagers).Kept := kept_note (kept_modSetup h)
  unfold Part.storeSetup
  exact kept_ite (kept_beginStop hq) (kept_ite (kept_becomeIdle hq) (kept_ite (kept_setFlag hq) hq))

theorem kept_unlessReset {f : Part → Part} (h : p.Kept) (hf : (f p).Kept) : (p.unlessReset f).Kept := kept_ite h hf

theorem kept_repost {c : Nat} (h : p.Kept) : (p.repost c).Kept := by
  unfold Part.repost
  split
  · exact kept_postPiece h
  · exact h

theorem kept_stopEnd {c : Nat} (h : p.Kept) : (p.stopEnd c).Kept :=
  kept_ite (kept_ite (kept_completeStop h) (kept_copyCheck h)) h

theorem quiet_clearSaturated {b : Bool} : p.Quiet (p.clearSaturated b) := quiet_ite (quiet_modSc (.refl p)) (.refl p)

theorem quiet_cancelAgain {i : Nat} : p.Quiet (p.cancelAgain i) := by
  have hq : p.Quiet (p.cancelAgain i) ∨ p.cancelAgain i = p.sendCancel i := by
    unfold Part.cancelAgain
    split
    · exact .inl (.refl p)
    · split
      · exact .inr rfl
      · exact .inl (.refl p)
  rcases hq with hq | hq
  · exact hq
  · exact ⟨by rw [hq]; rfl, by rw [hq]; rfl, kept_cancelAgain⟩

theorem quiet_tryIssue : p.Quiet p.tryIssue := by
  have hq : p.tryIssue = p ∨ ∃ o n, p.tryIssue = p.issue o n := by
    unfold Part.tryIssue
    split
    · split
      · exact .inr ⟨_, _, rfl⟩
      · exact .inl rfl
    · exact .inl rfl
  rcases hq with hq | ⟨o, n, hq⟩
  · rw [hq]
    exact .refl p
  · exact ⟨by rw [hq]; rfl, by rw [hq]; rfl, kept_tryIssue⟩

theorem exec_cases (c : Instr) (s : State) : CommandCase c s := by
  cases c with
  | coldStart n => exact .line (.coldStart n)
  | resetLineAssert => exact .line .resetLineAssert
  | pwrfailAssert => exact .line .pwrfailAssert
  | pwrfailNegate => exact .line .pwrfailNegate
  | frameSent l => exact .sent l rfl
  | frameDiscard cause => exact .heard _ (fun p => ⟨by simp [Part.frameLost], by simp [Part.frameLost], kept_frameLost⟩) rfl
  | badKindRequest t k => exact .heard _ (fun p => quiet_ite (quiet_say (.refl p) _) (quiet_sayRefusal (.refl p))) rfl
  | status q => exact .heard _ (fun p => quiet_arrive (quiet_answer (.refl p))) rfl
  | cancel q t =>
    refine .taken _ (fun p h => kept_arrive_all h ?_) rfl
    exact kept_say (kept_cancelTarget h)
  | eventsRead q n => exact .heard _ (fun p => quiet_arrive (Verdict.all_ite (quiet_answer (.refl p)) (by simp))) rfl
  | eventsClear q f =>
    refine .heard _ (fun p => quiet_arrive ?_) rfl
    exact quiet_answer ⟨rfl, rfl, kept_clearEvents⟩
  | eventsMask q m =>
    refine .taken _ (fun p h => kept_arrive_all h ?_) rfl
    exact kept_follow (kept_holdPlaces (kept_setMask h))
  | tally q n b =>
    refine .heard _ (fun p => quiet_arrive (Verdict.all_ite (by simp) (quiet_answer (quiet_ite ?_ (.refl p))))) rfl
    exact ⟨rfl, rfl, fun h => kept_modSv h rfl rfl rfl⟩
  | band q b => exact .heard _ (fun p => quiet_arrive (Verdict.all_ite (by simp) (quiet_answer (.refl p)))) rfl
  | triggerSet q c a =>
    refine .taken _ (fun p h => kept_arrive_all h (Verdict.all_ite (by simp) (Verdict.all_ite (by simp) ?_))) rfl
    exact kept_say (kept_drainAll (kept_setFlag h))
  | triggerClear q c =>
    exact .heard _ (fun p => quiet_arrive (Verdict.all_ite (by simp) (quiet_answer (quiet_modChan (.refl p))))) rfl
  | reset q =>
    exact .taken _ (fun p h => kept_ite (kept_takeReset h) (kept_ite (kept_say h) (kept_sayRefusal h))) rfl
  | format q g l =>
    refine .taken _ (fun p h => kept_arrive_all h ?_) rfl
    split
    · simp
    · exact kept_follow (kept_holdPlaces (kept_modSv h rfl rfl rfl))
  | retire q t => exact .taken _ (fun p h => kept_arrive_all h (kept_retire h)) rfl
  | classRead q c n => exact .heard _ (fun p => quiet_arrive (Verdict.all_ite (by simp) (quiet_answer (.refl p)))) rfl
  | classWrite q c v =>
    exact .taken _ (fun p h => kept_arrive_all h (Verdict.all_ite (by simp)
      (kept_answerAfter (kept_modSv h rfl rfl rfl)))) rfl
  | regionRead q n => exact .heard _ (fun p => quiet_arrive (Verdict.all_ite (by simp) (quiet_answer (.refl p)))) rfl
  | regionWrite q l =>
    refine .taken _ (fun p h => kept_arrive_all h ?_) rfl
    split
    · simp
    · exact kept_answerAfter (kept_modTu h)
  | scoringRead q n b =>
    exact .heard _ (fun p => quiet_arrive (Verdict.all_ite (by simp) (quiet_answer quiet_clearSaturated))) rfl
  | scoringWrite q b m =>
    refine .taken _ (fun p h => kept_arrive_all h ?_) rfl
    split
    · simp
    · exact kept_answerAfter (kept_modSc (kept_clearSaturated h))
  | scoringEvaluate q b n =>
    exact .heard _ (fun p => quiet_arrive (Verdict.all_ite (by simp) (quiet_answer quiet_clearSaturated))) rfl
  | channelRead q c n => exact .heard _ (fun p => quiet_arrive (Verdict.all_ite (by simp) (quiet_answer (.refl p)))) rfl
  | channelWrite q c v =>
    refine .taken _ (fun p h => kept_arrive_all h (Verdict.all_ite (by simp) ?_)) rfl
    split
    · simp
    · exact Verdict.all_ite (by simp) (kept_answerAfter (kept_drainAll (kept_storeSetup h)))
  | timersRead q n => exact .heard _ (fun p => quiet_arrive (Verdict.all_ite (by simp) (quiet_answer (.refl p)))) rfl
  | timersWrite q v => exact .taken _ (fun p h => kept_arrive_all h (kept_answerAfter (kept_storeSettings h))) rfl
  | mount q b =>
    refine .taken _ (fun p h => kept_arrive_all h ?_) rfl
    exact kept_modSv (kept_acceptLong h) rfl rfl rfl
  | quiesce q b =>
    refine .taken _ (fun p h => kept_arrive_all h ?_) rfl
    exact kept_startQuiesce (kept_acceptLong h)
  | restore q g l =>
    refine .taken _ (fun p h => kept_arrive_all h (Verdict.all_ite (by simp) ?_)) rfl
    split
    · simp
    · exact Verdict.all_ite (by simp) (kept_follow (kept_holdPlaces (kept_modSv (kept_levelChecks (kept_modBm h)) rfl
        rfl rfl)))
  | place q b a => exact .heard _ (fun _ => quiet_arriveData) rfl
  | fetch q b a n k => exact .heard _ (fun _ => quiet_arriveData) rfl
  | discard q b a n => exact .heard _ (fun _ => quiet_arriveData) rfl
  | locate q a n => exact .heard _ (fun _ => quiet_arriveData) rfl
  | streamOpen q i a b v n => exact .heard _ (fun _ => quiet_arriveData) rfl
  | streamClose q i => exact .heard _ (fun _ => quiet_arriveData) rfl
  | report i st n => exact .taken _ (fun _ => kept_takeReport) rfl
  | cancelledAll => exact .taken _ (fun _ => kept_cancelledAll) rfl
  | ready => exact .heard _ (fun p => ⟨by unfold Part.setReady; split <;> rfl, by unfold Part.setReady; split <;> rfl,
      kept_setReady⟩) rfl
  | notReady => exact .heard _ (fun p => ⟨by unfold Part.setNotReady; split <;> rfl,
      by unfold Part.setNotReady; split <;> rfl, kept_setNotReady⟩) rfl
  | mediaFrameDiscard cause => exact .heard Part.mediaLinkError (fun p => ⟨rfl, rfl, kept_mediaLinkError⟩) rfl
  | orderTimerExpiry i => exact .taken _ (fun _ => kept_orderExpired) rfl
  | cancelRepeat i => exact .heard _ (fun _ => quiet_cancelAgain) rfl
  | mediaIdle => exact .taken _ (fun _ => kept_mediaIdled) rfl
  | streamIdleExpiry i => exact .taken _ (fun _ => kept_streamExpired) rfl
  | digestCheck => exact .taken _ (fun _ => kept_digestExpired) rfl
  | hourAdvance => exact .taken _ (fun _ => kept_hourPassed) rfl
  | mountDigestEnd => exact .taken _ (fun _ => kept_mountEnd) rfl
  | formatComplete => exact .taken _ (fun _ => kept_formatComplete) rfl
  | restoreComplete => exact .taken _ (fun _ => kept_followDurable) rfl
  | storeUpdateDurable n => exact .taken _ (fun _ => kept_updateDurable) rfl
  | placeUpdateDurable t => exact .taken _ (fun _ => kept_followDurable) rfl
  | discardUpdateDurable t => exact .taken _ (fun _ => kept_followDurable) rfl
  | remapUpdateDurable b o => exact .taken _ (fun _ => kept_followDurable) rfl
  | placeAdmission => exact .taken _ (fun _ => kept_admitHead) rfl
  | fetchAdmission => exact .taken _ (fun _ => kept_admitHead) rfl
  | discardAdmission => exact .taken _ (fun _ => kept_admitHead) rfl
  | locateAdmission => exact .taken _ (fun _ => kept_admitHead) rfl
  | streamOpenAdmission => exact .taken _ (fun _ => kept_admitHead) rfl
  | streamCloseAdmission => exact .taken _ (fun _ => kept_admitHead) rfl
  | headRefusal => exact .taken _ (fun _ => kept_refuseHead) rfl
  | orderIssue => exact .heard _ (fun _ => quiet_tryIssue) rfl
  | orderRejoin w => exact .taken _ (fun _ => kept_rejoin) rfl
  | fetchRetryJoin t a => exact .taken _ (fun _ h => kept_unlessReset h (kept_fetchRetryJoin h)) rfl
  | remapPostRetry c => exact .taken _ (fun _ h => kept_unlessReset h (kept_repost h)) rfl
  | placeMapUpdate t => exact .taken _ (fun _ h => kept_unlessReset h (kept_placeMap h)) rfl
  | transactionCancellingEnd t =>
    exact .taken _ (fun _ h => kept_unlessReset h (kept_cancellingEnd (kept_landPositions h))) rfl
  | fetchEnd t => exact .taken _ (fun _ h => kept_unlessReset h (kept_fetchEnd h)) rfl
  | quiesceDrainEnd => exact .taken _ (fun _ => kept_drainEnd) rfl
  | channelStopComplete c => exact .taken _ (fun _ h => kept_unlessReset h (kept_stopEnd h)) rfl

/-! ### The invariants that every step keeps -/

/-- What the statements of the invariants ask of a part (R136, R138, R166, R186, log 4, log 6). -/
def Part.Sound (p : Part) : Prop := OrderQueueOk p.mp.orders ∧ p.AlertOk ∧ p.SendingOk ∧ p.Rested

theorem Part.Sound.kept (h : p.Sound) : p.Kept := ⟨h.2.1, h.1⟩

theorem sendingOk_beginSending (p : Part) : p.beginSending.SendingOk := by
  simp [Part.SendingOk, Part.beginSending, Part.modLi]

theorem startUpdate_follows (p : Part) (m : Image) : (p.startUpdate m).store.follows = [] := by
  unfold Part.startUpdate
  dsimp only
  split
  · next h => exact h.2
  · rfl

/-- An event leaves nothing over: its reports are worked off, and its update is started. -/
theorem sound_event {f : Part → Part} (h : (f p).Kept) : (p.event f).Sound := by
  obtain ⟨ha, ho⟩ := kept_event (p := p) h
  refine ⟨ho, ha, ?_, ?_, startUpdate_follows _ _⟩
  · simpa [Part.SendingOk, Part.event] using sendingOk_beginSending (f p).drainAll
  · simp [Part.event, Part.drainAll]

theorem sound_quiet (h : p.Sound) (hq : p.Quiet q) : q.beginSending.Sound := by
  obtain ⟨ha, ho⟩ := kept_beginSending (hq.kept h.kept)
  obtain ⟨-, -, -, hn, hf⟩ := h
  exact ⟨ho, ha, sendingOk_beginSending q, hq.notes.trans hn, hq.follows.trans hf⟩

theorem sendingOk_sent {l : LinkIface} {b : Bool} (h : l.sending = true → l.queue ≠ []) :
    (l.sent b).sending = true → (l.sent b).queue ≠ [] := by
  unfold LinkIface.sent
  split
  · exact h
  · dsimp only
    split
    · intro hs hq
      rw [hq] at hs
      simp at hs
    · exact h

theorem sound_frameSent (h : s.part.Sound) (l : Link) : ∃ t, exec (.frameSent l) s = .next t ∧ t.part.Sound := by
  refine ⟨_, (apply_ite Host.Outcome.next ..).symm, ?_⟩
  split
  · exact h
  · obtain ⟨ho, ha, hs, hr⟩ := h
    cases l with
    | command => exact ⟨ho, ha, sendingOk_sent hs, hr⟩
    | media => exact ⟨ho, ha, hs, hr⟩

theorem sound_silence (h : p.Sound) : p.silence.Sound := by
  obtain ⟨ha, ho⟩ := kept_silence h.kept
  obtain ⟨-, -, -, hr⟩ := h
  exact ⟨ho, ha, by simp [Part.SendingOk, Part.silence, Part.modLi], hr⟩

/-- The steps of a cold start place nothing after an update. -/
theorem coldStart_follows (p : Part) (m : Image) : (p.coldStart m).store.follows = [] := by
  have hstep (q : Part) : q.tableResetSteps.freeLowNow.store.follows = q.store.follows := by
    rw [(tableStep_freeLowNow (tableStep_tableResetSteps q)).store]
    rfl
  unfold Part.coldStart
  dsimp only
  rw [Part.modDevice_store, hstep]
  split <;> rfl

theorem sound_started (b : Bool) : (p.started b).Sound := by
  have hq : (p.coldStart p.foundMarked).noNotes.beginSending.Sound := by
    obtain ⟨ha, ho⟩ := kept_beginSending (kept_noNotes (kept_coldStart (p := p) (m := p.foundMarked)))
    exact ⟨ho, ha, sendingOk_beginSending _, rfl, coldStart_follows _ _⟩
  have hu (m : Image) : ((p.coldStart p.foundMarked).noNotes.beginSending.startUpdate m).Sound := by
    obtain ⟨ha, ho⟩ := kept_startUpdate (m := m) hq.kept
    obtain ⟨-, -, hs, -⟩ := hq
    exact ⟨ho, ha, by simpa [Part.SendingOk] using hs, by simp, startUpdate_follows _ _⟩
  have hs : (if p.foundMarked.header.mark then
      (p.coldStart p.foundMarked).noNotes.beginSending.startUpdate p.foundMarked
      else (p.coldStart p.foundMarked).noNotes.beginSending).Sound := by
    split
    · exact hu _
    · exact hq
  unfold Part.started
  cases b
  · exact hs
  · exact sound_silence hs

theorem sound_line {c : Instr} (hc : IsLineCommand c) (h : s.part.Sound) :
    ∃ t, exec c s = .next t ∧ t.part.Sound := by
  cases hc with
  | coldStart n => exact ⟨_, rfl, sound_started _⟩
  | resetLineAssert => exact ⟨_, rfl, h⟩
  | pwrfailNegate => exact ⟨_, rfl, h⟩
  | pwrfailAssert =>
    refine ⟨_, rfl, ?_⟩
    obtain ⟨ha, ho⟩ := kept_powerFail h.kept
    dsimp only
    split
    · exact h
    · exact ⟨ho, ha, h.2.2.1, h.2.2.2⟩

/-- A receiver and the time base touch nothing that the invariants speak of but the orders' timers. -/
theorem sound_rest (h : s.part.Sound) : s.rest.part.Sound := by
  have hk := h.kept
  obtain ⟨ho, ha, hs, hr⟩ := h
  unfold State.rest
  split
  · unfold State.idle
    split
    · exact ⟨ho, ha, hs, hr⟩
    · exact ⟨(kept_tick hk).orders, (kept_tick hk).alert, hs, hr⟩
  · next a more _ =>
    unfold State.receive
    split
    · exact ⟨ho, ha, hs, hr⟩
    · cases a.link <;> exact ⟨ho, ha, hs, hr⟩

theorem sound_exec (c : Instr) (h : s.part.Sound) : ∃ t, exec c s = .next t ∧ t.part.Sound := by
  cases exec_cases c s with
  | line hc => exact sound_line hc h
  | sent l hc => exact hc ▸ sound_frameSent h l
  | taken f hk hc =>
    refine ⟨_, hc.trans (apply_ite Host.Outcome.next ..).symm, ?_⟩
    split
    · exact h
    · exact sound_event (hk _ h.kept)
  | heard f hq hc =>
    refine ⟨_, hc.trans (apply_ite Host.Outcome.next ..).symm, ?_⟩
    split
    · exact h
    · exact sound_quiet h (hq _)

/-- Settles O59: a command is an event, a quiet command, a line command or the end of a frame (exec_cases), and each of
the four keeps the invariants. -/
theorem everyStepKeepsTheInvariants : Obligations.EveryStepKeepsTheInvariants := by
  intro s t hstep h
  change s.part.Sound at h
  change t.part.Sound
  unfold step at hstep
  split at hstep
  · cases hstep
    exact sound_rest h
  · next c rest _ =>
    obtain ⟨u, hu, hsound⟩ := sound_exec (s := { s with pending := rest }) c h
    cases hu.symm.trans hstep
    exact hsound

/-- Settles O60. -/
theorem resetMeetsTheInvariants : Obligations.ResetMeetsTheInvariants :=
  have sending : State.reset.part.SendingOk := fun h => absurd h (by decide)
  ⟨OrderQueueOk.empty, rfl, sending, ⟨rfl, rfl⟩, rfl⟩

/-! ### The lines, and a part that takes nothing -/

/-- A command that moves no line leaves the lines as they are. -/
theorem pinsAfter_eq {c : Instr} (h : ¬IsLineCommand c) (l : Pins) : pinsAfter c l = l := by
  unfold pinsAfter
  split
  · exact absurd (.coldStart _) h
  · exact absurd .resetLineAssert h
  · exact absurd .pwrfailAssert h
  · exact absurd .pwrfailNegate h
  · rfl

/-- A command that moves no line changes the part only. -/
theorem exec_next_of_not_line {c : Instr} (h : ¬IsLineCommand c) (s : State) :
    ∃ p, exec c s = .next { s with part := p } := by
  have hite {P : Prop} [Decidable P] {p : Part} :
      (if P then Host.Outcome.next s else .next { s with part := p } : Host.Outcome State Fault Refusal) =
        .next { s with part := if P then s.part else p } := by split <;> rfl
  cases exec_cases c s with
  | line hc => exact absurd hc h
  | sent l hc => exact hc ▸ ⟨_, hite⟩
  | taken f _ hc => exact ⟨_, hc.trans hite⟩
  | heard f _ hc => exact ⟨_, hc.trans hite⟩

/-- Settles O3: a line command by its definition, every other command because it changes the part only. -/
theorem everyCommandAnswersANextState : Obligations.EveryCommandAnswersANextState := by
  intro c s
  by_cases h : IsLineCommand c
  · cases h <;> exact ⟨_, rfl, rfl, rfl, rfl⟩
  · obtain ⟨p, hp⟩ := exec_next_of_not_line h s
    exact ⟨_, hp, rfl, rfl, (pinsAfter_eq h _).symm⟩

/-- Settles O4, by the kinds of command (exec_cases). -/
theorem deafPartStaysAsItIs : Obligations.DeafPartStaysAsItIs := by
  intro c s hdeaf hc
  cases exec_cases c s with
  | line h => cases h <;> exact hc.elim
  | sent l h =>
    subst h
    exact if_pos hc
  | taken f _ h => exact h.trans (taken_of_deaf (deaf_eq_true.2 hdeaf))
  | heard f _ h => exact h.trans (heard_of_deaf (deaf_eq_true.2 hdeaf))

/-- Settles O6: each line command is its definition. -/
theorem lineCommandsActOnTheirLine : Obligations.LineCommandsActOnTheirLine := by
  refine fun s => ⟨rfl, rfl, fun h => ?_, fun h => ?_⟩
  · change execPwrfailAssert s = _
    rw [execPwrfailAssert, if_pos h]
  · change execPwrfailAssert s = _
    rw [execPwrfailAssert, if_neg (by simp [h])]
    rfl

/-! ### The step -/

/-- Settles O1. -/
theorem stepTakesTheFrontCommand : Obligations.StepTakesTheFrontCommand := by
  intro s c rest h
  unfold step
  rw [h]

/-- A step without a command and with a character on the links is its receiver's. -/
theorem step_receive {a : Arrival} {more : List Arrival} (hp : s.pending = []) (hl : s.line = a :: more) :
    step s = .next (({ s with line := more } : State).receive a) := by
  unfold step State.rest
  rw [hp, hl]

/-- A step without a command and without a character is a millisecond. -/
theorem step_idle (hp : s.pending = []) (hl : s.line = []) : step s = .next s.idle := by
  unfold step State.rest
  rw [hp, hl]

/-- A part that hears takes a character from its link. -/
theorem receive_of_hears (h : Hears s) (a : Arrival) (more : List Arrival) :
    ({ s with line := more } : State).receive a = { s with
      part := s.part.setReceiver a.link ((s.part.receiver a.link).take a.char).1
      pending := s.pending ++ (receivedCommand a.link ((s.part.receiver a.link).take a.char).2).toList
      line := more } :=
  have hd : ({ s with line := more } : State).deaf = false := deaf_eq_false.2 h
  if_neg (by simp [hd])

/-- A part that does not hear loses it. -/
theorem receive_of_deaf (h : ¬Hears s) (a : Arrival) (more : List Arrival) :
    ({ s with line := more } : State).receive a = { s with line := more } :=
  have hd : ({ s with line := more } : State).deaf = true := deaf_eq_true.2 h
  if_pos hd

/-- Settles O2, by the two forms of a step without a command (step_receive, step_idle). -/
theorem emptyQueuePassesOneMillisecond : Obligations.EmptyQueuePassesOneMillisecond := by
  intro s hp
  refine ⟨fun c more hl h => ?_, fun c more hl h => ?_, fun a more hl h => ?_, fun hl h => ?_, fun hl h => ?_,
    fun t => rfl⟩
  · rw [step_receive hp hl, receive_of_hears h]
    rw [hp]
    rfl
  · rw [step_receive hp hl, receive_of_hears h]
    rw [hp]
    rfl
  · rw [step_receive hp hl, receive_of_deaf h]
  · rw [step_idle hp hl, State.idle, if_neg (by simp [deaf_eq_false.2 h])]
    rfl
  · rw [step_idle hp hl, State.idle, if_pos (deaf_eq_true.2 h)]

end Sys2Proof.Machine
end

section
/-! SUPPORT. The arrival of a request (R165), read once: what it comes to where its checks pass, and where one fails. -/

namespace Sys2Proof.Machine

open Sys2Proof Sys2Proof.Spec

variable {s : State} {p : Part} {k : ReqKind} {q : Req} {hold : Bool} {owes len : Nat}

/-! ### The checks of R165 in the words of the statements -/

theorem canReserve_eq_true {n : Nat} : p.li.canReserve n = true ↔ Room p n := decide_eq_true_iff

theorem canReserve_eq_false {n : Nat} : p.li.canReserve n = false ↔ ¬Room p n := decide_eq_false_iff_not

theorem refusalTaken_eq_true : p.li.refusalTaken = true ↔ ∃ m ∈ p.li.queue, m.place = .refusal := by
  simp [LinkIface.refusalTaken]

theorem tagBusy_eq_true {tag : Nat} : p.tagBusy tag = true ↔ ¬TagFree p tag := by
  have any_iff {α : Type} (x : Option α) (f : α → Nat) : (x.any fun y => decide (f y = tag)) = true ↔
      x.map f = some tag := by cases x <;> simp
  simp only [Part.tagBusy, Bool.or_eq_true, any_iff, Option.map_id_fun', id_eq, TagFree, List.any_eq_true, decide_eq_true_eq]
  grind

theorem resetting_eq_true : p.resetting = true ↔ p.sv.reset ≠ none := by
  simp [Part.resetting, Option.isSome_iff_ne_none]

theorem resetting_eq_false : p.resetting = false ↔ p.sv.reset = none := by
  simp [Part.resetting]

theorem tablesBusy_eq_true : p.tablesBusy = true ↔ p.sv.format ≠ none ∨ p.sv.restore ≠ none := by
  simp [Part.tablesBusy, Option.isSome_iff_ne_none]

theorem owed_eq (k : ReqKind) (hold : Bool) : owed k hold = if k.isLong = true ∧ hold = false then 2 else 1 := by
  simp [owed]

theorem stateRefusal_eq_none {d : DeviceState} (h : k.takenIn d = true) : stateRefusal k d = none := if_pos h

/-! ### The first check that fails -/

theorem arrivalRefusal_tagBusy {ok : Bool} (hk : k ≠ .cancel) (hr : k ≠ .reset) (h : ¬TagFree p q.tag) :
    p.arrivalRefusal k q ok = some .tagBusy :=
  if_pos ⟨hk, hr, tagBusy_eq_true.2 h⟩

/-- The checks after the tag's. -/
theorem arrivalRefusal_of_tag {ok : Bool} (h : k = .cancel ∨ TagFree p q.tag) : p.arrivalRefusal k q ok =
    if p.resetting ∧ k ≠ .status ∧ k ≠ .reset then some .wrongState
    else if !ok then some .badArg
    else if k.isSetup && p.tablesBusy then some .wrongState
    else stateRefusal k p.sv.device := by
  refine if_neg ?_
  rintro ⟨hk, -, hb⟩
  exact tagBusy_eq_true.1 hb (h.resolve_left hk)

theorem arrivalRefusal_resetting {ok : Bool} (h : k = .cancel ∨ TagFree p q.tag) (hr : p.sv.reset ≠ none)
    (hs : k ≠ .status) (hk : k ≠ .reset) : p.arrivalRefusal k q ok = some .wrongState := by
  rw [arrivalRefusal_of_tag h, if_pos ⟨resetting_eq_true.2 hr, hs, hk⟩]

/-- The checks after those of the tag and of a reset in progress. -/
theorem arrivalRefusal_of_reset {ok : Bool} (h : k = .cancel ∨ TagFree p q.tag)
    (hr : k = .status ∨ p.sv.reset = none) : p.arrivalRefusal k q ok =
    if !ok then some .badArg
    else if k.isSetup && p.tablesBusy then some .wrongState
    else stateRefusal k p.sv.device := by
  rw [arrivalRefusal_of_tag h]
  refine if_neg ?_
  rintro ⟨hp, hs, -⟩
  exact resetting_eq_true.1 hp (hr.resolve_left hs)

theorem arrivalRefusal_length (h : k = .cancel ∨ TagFree p q.tag) (hr : k = .status ∨ p.sv.reset = none) :
    p.arrivalRefusal k q false = some .badArg := by
  rw [arrivalRefusal_of_reset h hr]
  rfl

theorem arrivalRefusal_tables (h : k = .cancel ∨ TagFree p q.tag) (hr : k = .status ∨ p.sv.reset = none)
    (hk : k.isSetup = true) (ht : p.sv.format ≠ none ∨ p.sv.restore ≠ none) :
    p.arrivalRefusal k q true = some .wrongState := by
  rw [arrivalRefusal_of_reset h hr]
  simp [hk, tablesBusy_eq_true.2 ht]

/-- The last check is that of the device state. -/
theorem arrivalRefusal_state (h : k = .cancel ∨ TagFree p q.tag) (hr : k = .status ∨ p.sv.reset = none)
    (ht : k.isSetup = true → p.sv.format = none ∧ p.sv.restore = none) :
    p.arrivalRefusal k q true = stateRefusal k p.sv.device := by
  rw [arrivalRefusal_of_reset h hr, Bool.not_true, if_neg (by simp), if_neg]
  simp only [Bool.and_eq_true, tablesBusy_eq_true]
  rintro ⟨hk, hb⟩
  simp [ht hk] at hb

/-! ### A request that passes -/

/-- The part after the verdict of a kind's own rule: a refusal is said, a request that is taken has its part. -/
def Verdict.result (p : Part) (k : ReqKind) (q : Req) : Verdict → Part
  | .refuse r items => p.say (refusal q k r items)
  | .take p' => p'

@[simp] theorem Verdict.result_refuse (r : Result) (l : List Item) :
    (Verdict.refuse r l).result p k q = p.say (refusal q k r l) := rfl

@[simp] theorem Verdict.result_badArg : badArg.result p k q = p.say (refusal q k .badArg []) := rfl

@[simp] theorem Verdict.result_take (p' : Part) : (Verdict.take p').result p k q = p' := rfl

@[simp] theorem Verdict.result_answer (p' : Part) (l : List Item) :
    (p'.answer q k l).result p k q = p'.say (okReply q k l) := rfl

@[simp] theorem Verdict.result_answerAfter (p' : Part) (l : List Item) :
    (p'.answerAfter q k l).result p k q = waits p' (.reply (okReply q k l)) := rfl

theorem arrive_of_refusal {ok : Bool} {own : Part → Verdict} {r : Result} (hroom : Room p (owed k hold))
    (h : p.arrivalRefusal k q ok = some r) : p.arrive k q hold ok own = p.say (refusal q k r []) :=
  arrive_refused (canReserve_eq_true.2 hroom) h

theorem arrive_of_none {ok : Bool} {own : Part → Verdict} (hroom : Room p (owed k hold))
    (h : p.arrivalRefusal k q ok = none) : p.arrive k q hold ok own = (own p).result p k q := by
  rw [arrive_own (canReserve_eq_true.2 hroom) h]
  cases own p <;> rfl

/-- A request that arrives gets the verdict of its kind's own rule. -/
theorem arrive_eq_result {ok : Bool} {own : Part → Verdict} (h : Arrives s k q owes len) (ho : owes = owed k hold)
    (hok : ok = true) : s.part.arrive k q hold ok own = (own s.part).result s.part k q := by
  subst ho hok
  exact arrive_of_none h.places
    ((arrivalRefusal_state h.tag h.reset h.tables).trans (stateRefusal_eq_none h.state))

/-- A request of a kind that changes nothing stored. -/
theorem heard_arrive {ok : Bool} {own : Part → Verdict} (h : Arrives s k q owes len) (ho : owes = owed k hold)
    (hok : ok = true) :
    s.heard (fun p => p.arrive k q hold ok own) = .next (tell s ((own s.part).result s.part k q)) := by
  rw [heard_eq_tell h.hears, arrive_eq_result h ho hok]

/-- A request whose kind's own rule is an event. -/
theorem taken_arrive {ok : Bool} {own : Part → Verdict} (h : Arrives s k q owes len) (ho : owes = owed k hold)
    (hok : ok = true) :
    s.taken (fun p => p.arrive k q hold ok own) = .next (after s ((own s.part).result s.part k q)) := by
  rw [taken_eq_after h.hears, arrive_eq_result h ho hok]

/-! ### Events that say a message and change nothing stored -/

/-- From p to q nothing is stored, reported or placed after an update. -/
structure Part.SameStored (p q : Part) : Prop where
  image : q.image = p.image
  notes : q.notes = p.notes
  follows : q.store.follows = p.store.follows

theorem after_of_sameStored {p : Part} (hr : s.part.Rested) (h : s.part.SameStored p) : after s p = tell s p :=
  after_eq_tell (h.notes.trans hr.1) h.image (h.follows.trans hr.2)

theorem sameStored_refl (p : Part) : p.SameStored p := ⟨rfl, rfl, rfl⟩

theorem sameStored_modLi (p : Part) (f : LinkIface → LinkIface) : p.SameStored (p.modLi f) := ⟨rfl, rfl, rfl⟩

theorem sameStored_say (p : Part) (m : Message) : p.SameStored (p.say m) := sameStored_modLi p _

theorem sameStored_sayRefusal (p : Part) (t : Nat) (r : Result) (k : ReqKind) :
    p.SameStored (p.sayRefusal t r k) := by
  unfold Part.sayRefusal
  split
  · exact sameStored_modLi p _
  · exact sameStored_say p _

/-- A refusal in an event of its own. -/
theorem after_say (hr : s.part.Rested) (m : Message) : after s (s.part.say m) = tell s (s.part.say m) :=
  after_of_sameStored hr (sameStored_say _ _)

/-! ### Every request command is an arrival -/

theorem formLenOk_zero {lens : List Nat} {n form b : Nat} (h : lens[form]? = some n) :
    formLenOk lens form b = decide (b = n) := by
  simp [formLenOk, h]

theorem formLenOk_none {lens : List Nat} {form b : Nat} (h : lens.length ≤ form) :
    formLenOk lens form b = decide (b ∈ lens) := by
  simp [formLenOk, List.getElem?_eq_none h]

theorem formLenOk_two {a b form n : Nat} : formLenOk [a, b] form n = true ↔
    if form = 0 then n = a else if form = 1 then n = b else n = a ∨ n = b := by
  rcases form with _ | _ | form <;> simp [formLenOk]

theorem formLenOk_three {a b c form n : Nat} : formLenOk [a, b, c] form n = true ↔
    if form = 0 then n = a else if form = 1 then n = b else if form = 2 then n = c else n = a ∨ n = b ∨ n = c := by
  rcases form with _ | _ | _ | form <;> simp [formLenOk]

theorem regionLenOk_eq_true {form n : Nat} :
    regionLenOk form n = true ↔ n = 1 ∨ (form ≠ 0 ∧ 2 ≤ n ∧ (n - 2) % 13 = 0) := by
  simp [regionLenOk]

/-- A request command but RESET is the arrival of its kind, with its own rule: as an event, or as a command that changes
nothing stored. -/
theorem exec_request {c : Instr} (h : requestOf c = some (k, q, hold)) (s : State) :
    ∃ ok own, (ok = true ↔ LengthOk c) ∧ (exec c s = s.heard (fun p => p.arrive k q hold ok own) ∨
      exec c s = s.taken fun p => p.arrive k q hold ok own) := by
  cases c <;> cases h
  case status | eventsRead | eventsClear | tally | band | triggerClear | place | fetch | discard | locate | streamOpen |
      streamClose =>
    refine ⟨_, _, ?_, .inl rfl⟩
    simp [LengthOk]
  case cancel | eventsMask | triggerSet | retire | regionWrite | mount | quiesce =>
    refine ⟨_, _, ?_, .inr rfl⟩
    simp [LengthOk]
  case format | restore =>
    refine ⟨_, _, ?_, .inr rfl⟩
    exact decide_eq_true_iff
  case classRead | channelRead | timersRead => exact ⟨_, _, formLenOk_two, .inl rfl⟩
  case classWrite | channelWrite | timersWrite => exact ⟨_, _, formLenOk_two, .inr rfl⟩
  case regionRead => exact ⟨_, _, regionLenOk_eq_true, .inl rfl⟩
  case scoringRead | scoringEvaluate => exact ⟨_, _, formLenOk_three, .inl rfl⟩
  case scoringWrite => exact ⟨_, _, formLenOk_three, .inr rfl⟩

/-- A request command whose arrival changes nothing stored. -/
theorem exec_request_eq_tell {c : Instr} (h : requestOf c = some (k, q, hold)) (hs : Hears s) (hr : s.part.Rested)
    {p : Part} (hp : s.part.SameStored p)
    (heq : ∀ ok own, (ok = true ↔ LengthOk c) → s.part.arrive k q hold ok own = p) : exec c s = .next (tell s p) := by
  obtain ⟨ok, own, hok, he | he⟩ := exec_request h s
  · rw [he, heard_eq_tell hs, heq ok own hok]
  · rw [he, taken_eq_after hs, heq ok own hok, after_of_sameStored hr hp]

theorem requestOf_ne_reset {c : Instr} (h : requestOf c = some (k, q, hold)) : k ≠ .reset := by
  cases c <;> cases h <;> nofun

/-- Settles O11: each check in its order, by what the arrival comes to where the ones before it pass. -/
theorem arrivalChecksInTheirOrder : Obligations.ArrivalChecksInTheirOrder := by
  intro c s k q hold hc hs hr
  dsimp only
  rw [← owed_eq]
  have hk := requestOf_ne_reset hc
  have refused {r : Result} (hroom : Room s.part (owed k hold))
      (h : ∀ ok, (ok = true ↔ LengthOk c) → s.part.arrivalRefusal k q ok = some r) :
      exec c s = .next (tell s (s.part.say (refusal q k r []))) :=
    exec_request_eq_tell hc hs hr (sameStored_say _ _) fun ok _ hok => arrive_of_refusal hroom (h ok hok)
  have full (hroom : ¬Room s.part (owed k hold)) :
      exec c s = .next (tell s (s.part.sayRefusal q.tag .queueFull k)) :=
    exec_request_eq_tell hc hs hr (sameStored_sayRefusal _ _ _ _) fun _ _ _ =>
      arrive_full (canReserve_eq_false.2 hroom)
  refine ⟨fun hroom hfree => ?_, fun hroom htaken => ?_, fun hroom hc htag => ?_, fun hroom htag hreset hst => ?_,
    fun hroom htag hreset hlen => ?_, fun hroom htag hreset hlen hset hbusy => ?_,
    fun r hroom htag hreset hlen hset hst => ?_⟩
  · rw [full hroom, Part.sayRefusal, if_neg (by simpa [refusalTaken_eq_true] using hfree)]
    rfl
  · rw [full hroom, Part.sayRefusal, if_pos (refusalTaken_eq_true.2 htaken)]
    rfl
  · exact refused hroom fun ok _ => arrivalRefusal_tagBusy hc hk htag
  · exact refused hroom fun ok _ => arrivalRefusal_resetting htag hreset hst hk
  · refine refused hroom fun ok hok => ?_
    rw [Bool.eq_false_iff.2 fun h => hlen (hok.1 h)]
    exact arrivalRefusal_length htag hreset
  · exact refused hroom fun ok hok => by rw [hok.2 hlen, arrivalRefusal_tables htag hreset hset hbusy]
  · exact refused hroom fun ok hok => by rw [hok.2 hlen, arrivalRefusal_state htag hreset hset, hst]

/-- Settles O12, by the rows of Table 11-2. -/
theorem stateTableAsPrinted : Obligations.StateTableAsPrinted := by
  have row (k : ReqKind) (d : DeviceState) : stateRefusal k d = if k.takenIn d = true then none
      else if d = .fenced ∧ k.fencedOut = true then some .fenced else some .wrongState := rfl
  simp only [Obligations.StateTableAsPrinted, row, List.mem_cons, List.not_mem_nil, or_false, forall_eq_or_imp, forall_eq,
    ReqKind.takenIn, ReqKind.fencedOut, decide_eq_true_eq]
  simp

end Sys2Proof.Machine
end

section
/-! SUPPORT. The requests that read, and those that act at once: each is the verdict of its own rule on an arrival. -/

namespace Sys2Proof.Machine

open Sys2Proof Sys2Proof.Spec

variable {s : State} {p : Part} {q : Req}

/-! ### Requests that read -/

theorem digestMinutesLeft_eq (t : Timer) :
    digestMinutesLeft t = if t.state = .running then (t.limit - t.elapsed + 59999) / 60000 else 0 := by
  simp [digestMinutesLeft, Timer.isRunning]

/-- Settles O13: the body of STATUS, item by item. -/
theorem statusReportsThePartAsItStands : Obligations.StatusReportsThePartAsItStands := by
  intro s q h
  refine (heard_arrive h rfl (decide_eq_true h.length)).trans ?_
  rw [Verdict.result_answer, Part.statusItems, digestMinutesLeft_eq]
  simp only [List.append_assoc]
  rfl

/-- Settles O14. -/
theorem eventsRegionAndTimersReads : Obligations.EventsRegionAndTimersReads := by
  intro s q form
  refine ⟨fun h => ?_, fun h hf => ?_, fun h hf => ?_, fun h hf => ?_, fun h hf => ?_⟩
  · refine (heard_arrive h rfl (decide_eq_true h.length)).trans ?_
    split
    · rfl
    · rfl
  · subst hf
    exact heard_arrive h rfl (regionLenOk_eq_true.2 (.inl h.length))
  · refine (heard_arrive h rfl (regionLenOk_eq_true.2 (.inl h.length))).trans ?_
    rw [if_pos hf]
    rfl
  · subst hf
    exact heard_arrive h rfl (decide_eq_true h.length)
  · refine (heard_arrive h rfl (formLenOk_two.2 ?_)).trans ?_
    · rw [if_neg (by omega), if_neg (by omega)]
      exact .inl h.length
    · rw [if_pos (by omega)]
      rfl

/-- Settles O15. -/
theorem tallyReportsAndClears : Obligations.TallyReportsAndClears := by
  intro s q slot clear h
  refine ⟨fun hslot => ?_, fun hslot => ?_⟩
  · refine (heard_arrive h rfl (decide_eq_true h.length)).trans ?_
    rw [if_neg (by omega)]
    cases clear <;> rfl
  · refine (heard_arrive h rfl (decide_eq_true h.length)).trans ?_
    rw [if_pos hslot]
    rfl

/-- The saturation flag stays where it is not cleared (R133). -/
theorem clearSaturated_eq (p : Part) (clear : Bool) :
    p.clearSaturated clear = { p with sc := { p.sc with saturated := p.sc.saturated && !clear } } := by
  cases clear <;> simp [Part.clearSaturated, Part.modSc]

/-- Settles O16. -/
theorem scoringReadReportsAndClears : Obligations.ScoringReadReportsAndClears := by
  intro s q form clear
  refine ⟨fun h hf => ?_, fun h hf => ?_⟩
  · subst hf
    refine (heard_arrive h rfl (decide_eq_true h.length)).trans ?_
    rw [if_neg (by simp), Verdict.result_answer, clearSaturated_eq]
  · refine (heard_arrive h rfl (formLenOk_three.2 ?_)).trans ?_
    · rw [if_neg (by omega), if_neg (by omega), if_neg (by omega)]
      exact .inl h.length
    · rw [if_pos (by omega)]
      rfl

/-- Settles O18. -/
theorem classAndChannelReads : Obligations.ClassAndChannelReads := by
  intro s q n
  dsimp only
  have unlisted {form len : Nat} (hf : 1 < form) (a : Nat) (h : q.bodyLen = len) :
      formLenOk [len, a] form q.bodyLen = true := by
    rw [formLenOk_two, if_neg (by omega), if_neg (by omega)]
    exact .inl h
  refine ⟨fun h h1 h8 => ?_, fun h hn => ?_, fun form hf h => ?_, fun h hn => ?_, fun h hn => ?_, fun form hf h => ?_⟩
  · refine (heard_arrive h rfl (decide_eq_true h.length)).trans ?_
    rw [if_neg (by simp [isClass]; omega)]
    rfl
  · refine (heard_arrive h rfl (decide_eq_true h.length)).trans ?_
    rw [if_pos (by simp [isClass]; omega)]
    rfl
  · refine (heard_arrive h rfl (unlisted hf 8 h.length)).trans ?_
    rw [if_pos (.inl (by omega))]
    rfl
  · refine (heard_arrive h rfl (decide_eq_true h.length)).trans ?_
    rw [if_neg (by omega)]
    rfl
  · refine (heard_arrive h rfl (decide_eq_true h.length)).trans ?_
    rw [if_pos (.inr hn)]
    rfl
  · refine (heard_arrive h rfl (unlisted hf 25 h.length)).trans ?_
    rw [if_pos (.inl (by omega))]
    rfl

theorem pendingOf_length (m : BandManager) (b : Nat) :
    (pendingOf m b).length = (m.pendingRetire.filter fun e => decide (e.band = b)).length := List.length_map ..

/-- Settles O17: the bodies of BAND and of the evaluate form, and the arrival's refusal in UNFORMATTED. -/
theorem bandAndEvaluateReportOneBand : Obligations.BandAndEvaluateReportOneBand := by
  intro s q b clear
  dsimp only
  refine ⟨fun h hb => ?_, fun h hb => ?_, fun hr hs hroom htag hreset hlen hd => ?_, fun h hb => ?_, fun h hb => ?_⟩
  · refine (heard_arrive h rfl (decide_eq_true h.length)).trans ?_
    rw [if_neg (by omega), Verdict.result_answer, Part.bandItems, pendingOf_length]
    rfl
  · refine (heard_arrive h rfl (decide_eq_true h.length)).trans ?_
    rw [if_pos hb]
    rfl
  · refine exec_request_eq_tell (c := .band q b) rfl hs hr (sameStored_say _ _) fun ok own hok => ?_
    refine arrive_of_refusal hroom ?_
    rw [hok.2 hlen, arrivalRefusal_state (.inr htag) (.inr hreset) (fun h => absurd h (by decide)), hd]
    rfl
  · refine (heard_arrive h rfl (decide_eq_true h.length)).trans ?_
    rw [if_neg (by omega), Verdict.result_answer, clearSaturated_eq]
    rfl
  · refine (heard_arrive h rfl (decide_eq_true h.length)).trans ?_
    rw [if_pos hb]
    rfl

/-! ### Requests that act at once -/

/-- Settles O19. -/
theorem eventsClearReportsThenClears : Obligations.EventsClearReportsThenClears :=
  fun _ _ _ h => heard_arrive h rfl (decide_eq_true h.length)

end Sys2Proof.Machine
end

section
/-! SUPPORT. The transmitters of the two links, and the way of a raised flag to a NOTICE. -/

namespace Sys2Proof.Machine

open Sys2Proof Sys2Proof.Spec

variable {s : State} {p : Part}

/-! ### Frames -/

/-- A message in a NOTICE place is a NOTICE (Message.isNotice). -/
theorem isNotice_eq_true {m : Message} : m.isNotice = true ↔ m.place = .notice := decide_eq_true_iff

theorem isNotice_eq_false {m : Message} : m.isNotice = false ↔ m.place ≠ .notice := decide_eq_false_iff_not

/-- Settles O10, by the two links' transmitters. -/
theorem sentFrameLeavesItsQueue : Obligations.SentFrameLeavesItsQueue := by
  intro s hreset
  have exec_sent (l : Link) (p : Part) (hp : (match l with
      | .command => s.part.modLi fun x => x.sent (decide (s.part.sv.device = .halted))
      | .media => s.part.mediaSent (decide (s.part.sv.device = .halted))) = p) :
      exec (.frameSent l) s = .next { s with part := p } := by
    subst hp
    exact if_neg (by simp [hreset])
  refine ⟨fun m rest hq hsend => exec_sent .command _ ?_, fun hsend => exec_sent .command _ ?_,
    exec_sent .media _ ?_⟩
  · simp only [Part.modLi, LinkIface.sent, hq, hsend, if_true, Bool.and_eq_true, isNotice_eq_true, decide_eq_true_eq]
    by_cases hn : m.place = .notice ∧ s.part.li.gathered ≠ 0
    · rw [if_pos hn, if_pos hn]
      simp
    · rw [if_neg hn, if_neg hn]
      cases rest <;> simp
  · have : s.part.li.sent (decide (s.part.sv.device = .halted)) = s.part.li := by
      unfold LinkIface.sent
      split
      · rfl
      · simp [hsend]
    simp only [Part.modLi, this]
  · simp [Part.mediaSent, Part.modMp]

/-! ### The Event Set and the NOTICE -/

theorem merge_notice (t : Nat) (pl : TxPlace) (f g : EventBits) :
    Message.merge f { tag := t, place := pl, payload := .notice g } =
      { tag := t, place := pl, payload := .notice (g ||| f) } := rfl

/-- Where no NOTICE is queued, a new one is (R167). -/
theorem announce_of_no_notice {l : LinkIface} (h : ∀ m ∈ l.queue, m.place ≠ .notice) (f : EventBits) : l.announce f =
    { l with queue := l.queue ++ [{ tag := 0, place := .notice, payload := .notice f }] } := by
  have hany : l.queue.any Message.isNotice = false := List.any_eq_false.2 fun m hm => by simpa [isNotice_eq_true] using h m hm
  unfold LinkIface.announce
  split
  · next hq => simp [LinkIface.put, hq]
  · next m rest hq =>
    have hm : m.isNotice = false := isNotice_eq_false.2 (h m (by simp [hq]))
    rw [hq] at hany
    simp [hm, hany, LinkIface.put, hq]

/-- While a NOTICE is being sent, the flags are gathered (R167). -/
theorem announce_of_sending {l : LinkIface} {m : Message} {rest : List Message} (hq : l.queue = m :: rest)
    (hm : m.place = .notice) (hs : l.sending = true) (f : EventBits) :
    l.announce f = { l with gathered := l.gathered ||| f } := by
  unfold LinkIface.announce
  rw [hq]
  simp [isNotice_eq_true.2 hm, hs]

/-- The NOTICE that waits takes the flags in (R167): it is not the one being sent. -/
theorem announce_of_waiting {l : LinkIface} {a b : List Message} {g : EventBits}
    (hq : l.queue = a ++ { tag := 0, place := .notice, payload := .notice g } :: b)
    (hw : a = [] → l.sending = false) (h : ∀ x ∈ a ++ b, x.place ≠ .notice) (f : EventBits) :
    l.announce f =
      { l with queue := a ++ { tag := 0, place := .notice, payload := .notice (g ||| f) } :: b } := by
  have same (c : List Message) (hc : ∀ x ∈ c, x ∈ a ++ b) : c.map (fun x => if x.isNotice then x.merge f else x) = c := by
    conv_rhs => rw [← List.map_id c]
    exact List.map_congr_left fun x hx => if_neg (by simpa [isNotice_eq_true] using h x (hc x hx))
  have merged : l.queue.map (fun x => if x.isNotice then x.merge f else x) =
      a ++ { tag := 0, place := .notice, payload := .notice (g ||| f) } :: b := by
    rw [hq, List.map_append, List.map_cons, same a (by simp +contextual), same b (by simp +contextual)]
    rfl
  have hany : l.queue.any Message.isNotice = true := by simp [hq, Message.isNotice]
  unfold LinkIface.announce
  split
  · next hnil => simp [hnil] at hq
  · next m rest hcons =>
    have hfirst : (m.isNotice && l.sending) = false := by
      cases a with
      | nil => simp [hw rfl]
      | cons x a =>
        obtain rfl : m = x := by simpa using List.head_eq_of_cons_eq (hcons.symm.trans hq)
        rw [isNotice_eq_false.2 (h m (by simp)), Bool.false_and]
    rw [← hcons, hany, hfirst]
    simp [merged]

/-- Flags that are raised go to the Link Interface where they were not pending and are unmasked. -/
theorem raise_li (p : Part) (f : EventBits) : (p.raise f).li =
    if f &&& ~~~p.sv.events &&& ~~~p.sv.mask = 0 then p.li else p.li.announce (f &&& ~~~p.sv.events &&& ~~~p.sv.mask) :=
  apply_ite Part.li ..

/-- Settles O7, by the three places that flags can go to (announce_of_no_notice, announce_of_sending,
announce_of_waiting). -/
theorem raisedFlagGoesToTheEventSetAndANotice : Obligations.RaisedFlagGoesToTheEventSetAndANotice := by
  intro p f
  dsimp only
  rw [raise_li]
  refine ⟨Part.raise_sv p f, fun h => if_pos h, fun h hn => ?_, fun m rest h hq hm hs => ?_, fun g h hq hs => ?_,
    fun a b m g h hq ha hn => ?_⟩ <;> rw [if_neg h]
  · exact announce_of_no_notice hn _
  · exact announce_of_sending hq hm hs _
  · exact announce_of_waiting (a := []) (b := []) hq (fun _ => hs) (by simp) _
  · exact announce_of_waiting hq (fun hnil => by simp [hnil] at ha) hn _

end Sys2Proof.Machine
end

section
/-! SUPPORT. The requests that write what is stored, the data requests' arrivals, the RESET request's arrival, and the
sequencer's messages that concern no order. -/

namespace Sys2Proof.Machine

open Sys2Proof Sys2Proof.Spec

variable {s : State} {p : Part} {q : Req}

/-! ### Neighbours in a list -/

theorem isChain_iff_getElem? {α : Type} {R : α → α → Prop} {l : List α} :
    l.IsChain R ↔ ∀ i x y, l[i]? = some x → l[i + 1]? = some y → R x y := by
  rw [List.isChain_iff_getElem]
  refine ⟨fun h i x y hx hy => ?_, fun h i hi => h i _ _ (List.getElem?_eq_getElem _) (List.getElem?_eq_getElem _)⟩
  obtain ⟨hj, rfl⟩ := List.getElem?_eq_some_iff.1 hy
  obtain ⟨hi, rfl⟩ := List.getElem?_eq_some_iff.1 hx
  exact h i hj

/-! ### REGION's list (R68) -/

/-- A region record's own fields are in their ranges. -/
def RegionFields (L : Nat) (r : Region) : Prop :=
  1 ≤ r.len ∧ r.start + r.len ≤ L ∧ r.cls ≤ 8 ∧ r.tail ≤ 2 ∧ r.verify ≤ 2

/-- A region record stands behind another, without overlap. -/
def RegionAfter (x y : Region) : Prop := x.start < y.start ∧ x.start + x.len ≤ y.start

theorem regionBad_eq_false {L i : Nat} {prev : Option Region} {r : Region} : regionBad L i prev r = false ↔
    i < 32 ∧ RegionFields L r ∧ ∀ x ∈ prev, RegionAfter x r := by
  cases prev with
  | none =>
    simp only [regionBad, RegionFields, Bool.or_false, decide_eq_false_iff_not, Option.not_mem_none, false_imp_iff,
      implies_true, and_true]
    omega
  | some x =>
    simp only [regionBad, RegionFields, RegionAfter, Bool.or_eq_false_iff, decide_eq_false_iff_not, Option.mem_some_iff,
      forall_eq']
    omega

/-- A list is free of faults where each record stands below index 32, in its ranges, and behind the one before it. -/
theorem regionFault_eq_none {L : Nat} {l : List Region} : ∀ {i : Nat} {prev : Option Region},
    regionFault L i prev l = none ↔ (∀ k < l.length, i + k < 32) ∧ (∀ r ∈ l, RegionFields L r) ∧
      (∀ x ∈ prev, ∀ y ∈ l.head?, RegionAfter x y) ∧ l.IsChain RegionAfter := by
  induction l with
  | nil => simp [regionFault]
  | cons r l ih =>
    intro i prev
    have head : (∀ k < (r :: l).length, i + k < 32) ↔ i < 32 ∧ ∀ k < l.length, i + 1 + k < 32 := by
      refine ⟨fun h => ⟨h 0 (by simp), fun k hk => ?_⟩, fun ⟨h0, h⟩ k hk => ?_⟩
      · have := h (k + 1) (by simpa using hk)
        omega
      · rcases k with _ | k
        · exact h0
        · have := h k (by simpa using hk)
          omega
    have step : regionFault L i prev (r :: l) = none ↔
        regionBad L i prev r = false ∧ regionFault L (i + 1) (some r) l = none := by
      rw [regionFault]
      cases regionBad L i prev r <;> simp
    rw [step, regionBad_eq_false, ih, head]
    simp only [List.forall_mem_cons, List.head?_cons, Option.mem_some_iff, forall_eq', List.isChain_cons]
    tauto

/-- A list with a fault has it at a record before which there is none. -/
theorem regionFault_eq_some {L : Nat} {l : List Region} : ∀ {i j : Nat} {prev : Option Region},
    regionFault L i prev l = some j → i ≤ j ∧ j < i + l.length ∧ regionFault L i prev (l.take (j - i)) = none ∧
      regionFault L i prev (l.take (j - i + 1)) = some j := by
  induction l with
  | nil => exact fun h => nomatch h
  | cons r l ih =>
    intro i j prev h
    rw [regionFault] at h
    split at h
    · next hbad =>
      obtain rfl : i = j := by simpa using h
      simp [regionFault, hbad]
    · next hgood =>
      obtain ⟨hle, hlt, hnone, hsome⟩ := ih h
      obtain ⟨n, rfl⟩ : ∃ n, j = i + 1 + n := ⟨j - (i + 1), by omega⟩
      have e : i + 1 + n - i = (i + 1 + n - (i + 1)) + 1 := by omega
      refine ⟨by omega, by simp; omega, ?_, ?_⟩ <;> rw [e, List.take_succ_cons, regionFault, if_neg hgood]
      · exact hnone
      · exact hsome

/-- Settles O24, by what regionFault comes to (regionFault_eq_none, regionFault_eq_some). -/
theorem regionListAcceptedWhenOrderedAndDisjoint : Obligations.RegionListAcceptedWhenOrderedAndDisjoint := by
  intro L l
  refine ⟨?_, fun i h => ?_⟩
  · rw [regionFault_eq_none, isChain_iff_getElem?]
    have hlen : (∀ k < l.length, 0 + k < 32) ↔ l.length ≤ 32 := by
      refine ⟨fun h => ?_, fun h k hk => by omega⟩
      by_contra hgt
      have := h 32 (by omega)
      omega
    simp only [hlen, Option.not_mem_none, false_imp_iff, implies_true, true_and]
    rfl
  · obtain ⟨-, hlt, hnone, hsome⟩ := regionFault_eq_some h
    exact ⟨by omega, hnone, hsome⟩

/-! ### Requests that write -/

theorem clamp_eq (lo hi v : Nat) : clamp lo hi v = max lo (min hi v) := rfl

/-- A request that waits for its own update makes no report where its part makes none. -/
theorem after_waits {p : Part} {f : Follow} (h : p.notes = []) : after s (waits p f) = commit s (waits p f) :=
  after_eq_commit h

theorem roundOf_code (m : RoundMode) : roundOf m.code = some m := by
  cases m <;> rfl

theorem roundOf_eq_none {n : Nat} (h : 3 < n) : roundOf n = none := by
  obtain ⟨k, rfl⟩ : ∃ k, n = k + 4 := ⟨n - 4, by omega⟩
  rfl

theorem rangeOk_eq_true {top a n : Nat} : p.rangeOk top a n = true ↔ 1 ≤ n ∧ n ≤ top ∧ a + n ≤ p.bm.geom.L :=
  decide_eq_true_iff

/-- The mask is stored, and the flags that it has freed are announced. -/
theorem setMask_eq (p : Part) (m : EventBits) :
    let q := { p with sv := { p.sv with mask := m, alert := decide (p.sv.events &&& ~~~m ≠ 0) } }
    let shown := p.sv.events &&& p.sv.mask &&& ~~~m
    p.setMask m = if shown = 0 then q else { q with li := q.li.announce shown } := rfl

theorem setMask_notes (p : Part) (m : EventBits) : (p.setMask m).notes = p.notes := Part.announce_notes _ _

theorem after_setMask {m : EventBits} {f : Follow} (h : s.part.notes = []) :
    after s (waits (s.part.setMask m) f) = commit s (waits (s.part.setMask m) f) :=
  after_waits ((setMask_notes _ _).trans h)

/-- The ranges of a class record (R65). -/
theorem classInRange_eq (v : ClassArgs) : classInRange v =
    { firstZone := min (min 31 v.firstZone) (min 31 v.lastZone)
      lastZone := max (min 31 v.firstZone) (min 31 v.lastZone)
      quota := max 1 (min 16384 v.quota)
      weight := max 1 (min 31 v.weight)
      slot := min 15 v.slot } := rfl

/-- Settles O23. -/
theorem maskClassRegionAndScoringWrites : Obligations.MaskClassRegionAndScoringWrites := by
  intro s q hr
  refine ⟨fun mask h => ?_, fun n v h h1 h8 => ?_, fun n v h hn => ?_, fun l h => ?_, fun m clear h => ?_,
    fun mode clear h hm => ?_⟩
  · refine (taken_arrive h rfl (decide_eq_true h.length)).trans ?_
    exact congrArg _ (after_setMask hr.1)
  · refine (taken_arrive h rfl (decide_eq_true h.length)).trans ?_
    rw [if_neg (by simp [isClass]; omega), Verdict.result_answerAfter, after_waits (by exact hr.1), classInRange_eq]
    rfl
  · refine (taken_arrive h rfl (decide_eq_true h.length)).trans ?_
    rw [if_pos (by simp [isClass]; omega)]
    exact congrArg _ (after_say hr _)
  · refine (taken_arrive h rfl (decide_eq_true h.length)).trans ?_
    cases regionFault s.part.bm.geom.L 0 none l with
    | some i => exact congrArg Host.Outcome.next (after_say hr _)
    | none =>
      have hstored : (s.part.modTu fun t => { t with regions := l }).notes = [] := hr.1
      exact congrArg Host.Outcome.next (after_waits hstored)
  · refine (taken_arrive h rfl (decide_eq_true h.length)).trans ?_
    rw [roundOf_code, clearSaturated_eq, Verdict.result_answerAfter, after_waits (by exact hr.1)]
    rfl
  · refine (taken_arrive h rfl (decide_eq_true h.length)).trans ?_
    rw [roundOf_eq_none hm]
    exact congrArg _ (after_say hr _)

/-- Settles O25. -/
theorem timersWriteStoresSettingsInRange : Obligations.TimersWriteStoresSettingsInRange :=
  fun _ _ _ h => taken_arrive h rfl (decide_eq_true h.length)

/-- Settles O31, by the fault of the tables. -/
theorem formatRefusedOrStarted : Obligations.FormatRefusedOrStarted := by
  intro s q g l h hr
  refine ⟨fun k hk => ?_, fun hk => ?_⟩
  · refine (taken_arrive h rfl (decide_eq_true h.length)).trans ?_
    rw [hk]
    exact congrArg _ (after_say hr _)
  · refine (taken_arrive h rfl (decide_eq_true h.length)).trans ?_
    rw [hk]
    exact congrArg _ (after_eq_commit hr.1)

/-! ### Data requests -/

/-- REPLY TAKEN and the place of the last message, as the statements write them. -/
theorem acceptLong_eq_long {k : ReqKind} {tag : Nat} {hold : Bool} (h : k.isLong = true ∨ hold = true) (p : Part) :
    p.acceptLong k tag hold = long p k tag hold := by
  cases hold
  · simp only [Part.acceptLong, h.resolve_right (by simp)]
    rfl
  · simp only [Part.acceptLong, Bool.not_true, Bool.and_false]
    rfl

theorem owed_long {k : ReqKind} {hold : Bool} (h : k.isLong = true ∨ hold = true) :
    (if hold then 1 else 2) = owed k hold := by
  cases hold
  · simp [owed, h.resolve_right (by simp)]
  · simp [owed]

/-- The Request Queue behind a data request that joins it. -/
theorem long_modTx (p : Part) (k : ReqKind) (tag : Nat) (hold : Bool) (f : TxnUnit → TxnUnit) :
    long (p.modTx f) k tag hold = { long p k tag hold with tx := f p.tx } := by
  cases hold <;> rfl

/-- A data request that arrives: its arguments are checked, and then the Request Queue's places. -/
theorem heard_arriveData {r : DataReq} {hold : Bool} {len : Nat} {argsOk : Part → Bool} {ok : Prop}
    (h : Arrives s r.kind q (if hold then 1 else 2) len) (hl : r.kind.isLong = true ∨ hold = true)
    (hok : argsOk s.part = true ↔ ok) :
    let e := s.heard fun p => p.arriveData q hold len r argsOk
    (ok → s.part.tx.queue.length < 16 → e = .next (tell s { long s.part r.kind q.tag hold with
      tx := { s.part.tx with queue := s.part.tx.queue ++ [{ tag := q.tag, hold := hold, req := r }] } })) ∧
    (ok → 16 ≤ s.part.tx.queue.length → e = .next (tell s (s.part.say (refusal q r.kind .queueFull [])))) ∧
    (¬ok → e = .next (tell s (s.part.say (refusal q r.kind .badArg [])))) := by
  have arrive := heard_arrive (own := fun p => if argsOk p then p.enqueue q hold r else badArg) h (owed_long hl)
    (decide_eq_true h.length)
  refine ⟨fun hk hq => ?_, fun hk hq => ?_, fun hk => ?_⟩ <;> refine arrive.trans ?_
  · rw [if_pos (hok.2 hk), Part.enqueue, if_neg (by simpa [Config.requestCap] using hq), Verdict.result_take,
      acceptLong_eq_long hl, long_modTx]
  · rw [if_pos (hok.2 hk), Part.enqueue, if_pos (by simpa [Config.requestCap] using hq), Verdict.result_refuse]
  · rw [if_neg (hk ∘ hok.1), Verdict.result_badArg]

/-- Settles O38, by the six kinds of data request. -/
theorem dataRequestsJoinTheRequestQueue : Obligations.DataRequestsJoinTheRequestQueue := by
  intro s q hold c r len ok
  dsimp only
  intro hr h
  cases r with
  | place a =>
    obtain ⟨rfl, rfl, hok⟩ := hr
    exact heard_arriveData h (.inl rfl) (by
      simp [rangeOk_eq_true, attrsOk, Config.placeLen, hok, and_assoc])
  | fetch st n b =>
    obtain ⟨rfl, rfl, hok⟩ := hr
    exact heard_arriveData h (.inl rfl) (by simp [rangeOk_eq_true, Config.placeLen, hok])
  | discard st n =>
    obtain ⟨rfl, rfl, hok⟩ := hr
    exact heard_arriveData h (.inl rfl) (by simp [rangeOk_eq_true, Config.discardLen, hok])
  | locate st n =>
    obtain ⟨rfl, rfl, rfl, hok⟩ := hr
    exact heard_arriveData h (.inr rfl) (by simp [rangeOk_eq_true, Config.locateLen, hok])
  | streamOpen i a b v d =>
    obtain ⟨rfl, rfl, rfl, hok⟩ := hr
    exact heard_arriveData h (.inr rfl) (by simp [isStream, attrsOk, hok, and_assoc])
  | streamClose i =>
    obtain ⟨rfl, rfl, rfl, hok⟩ := hr
    exact heard_arriveData h (.inr rfl) (by simp [isStream, hok])

/-! ### RESET, and the sequencer's messages -/

/-- Settles O29. -/
theorem resetTakenAndJoined : Obligations.ResetTakenAndJoined := by
  intro s q hs hr
  have taken_reset (h0 : q.bodyLen = 0) (hp : s.part.SameStored (s.part.takeReset q.tag)) :
      exec (.reset q) s = .next (tell s (s.part.takeReset q.tag)) := by
    refine (taken_eq_after hs _).trans ?_
    rw [if_pos h0, after_of_sameStored hr hp]
  refine ⟨fun h0 hreset => ?_, fun w h0 hreset => ?_, fun h0 hroom => ?_⟩
  · have heq : s.part.takeReset q.tag = (s.part.modSv fun v =>
        { v with reset := some { tag := q.tag, count := 1, allTaken := false } }).mediaReset := by
      rw [Part.takeReset, hreset]
    rw [taken_reset h0 (heq ▸ ⟨rfl, rfl, rfl⟩), heq]
    rfl
  · have heq : s.part.takeReset q.tag = { s.part with
        sv := { s.part.sv with reset := some { tag := q.tag, count := w.count + 1, allTaken := w.allTaken } }
        mp := { s.part.mp with tx := if s.part.mp.awaitAll then s.part.mp.tx ++ [.cancelAll] else s.part.mp.tx } } := by
      rw [Part.takeReset, hreset]
      cases s.part.mp.awaitAll <;> rfl
    rw [taken_reset h0 (heq ▸ ⟨rfl, rfl, rfl⟩), heq]
  · refine (taken_eq_after hs _).trans ?_
    rw [if_neg h0, if_pos (canReserve_eq_true.2 hroom)]
    exact congrArg _ (after_say hr _)

theorem sameStored_strayReport (p : Part) : p.SameStored p.strayReport := ⟨rfl, rfl, rfl⟩

/-- A REPORT that finds no order in the window is stray (R146). -/
theorem takeReport_stray {id : Nat} {st : ReportStatus} {done : Nat}
    (h : p.mp.awaitAll = true ∨ ∀ o ∈ p.mp.orders, o.id = id → o.state = .queued) :
    p.takeReport id st done = p.strayReport := by
  unfold Part.takeReport
  split
  · rfl
  · next hall =>
    split
    · rfl
    · next o ho =>
      obtain ⟨hmem, hid⟩ := Part.mem_of_order ho
      rw [h.resolve_left hall o hmem hid]

/-- Settles O45. -/
theorem strayReportsAreCounted : Obligations.StrayReportsAreCounted := by
  intro s hs hr
  have counted {c : Instr} {f : Part → Part} (hc : exec c s = s.taken f) (hf : f s.part = s.part.strayReport) :
      exec c s = .next (tell s s.part.strayReport) := by
    rw [hc, taken_eq_after hs, hf, after_of_sameStored hr (sameStored_strayReport _)]
  exact ⟨fun id st done h => counted rfl (takeReport_stray h), fun h => counted rfl (if_neg (by simp [h]))⟩

/-- Settles O49. -/
theorem mediaReadyStateFollowsTheSequencer : Obligations.MediaReadyStateFollowsTheSequencer := by
  intro s hs
  refine ⟨fun h => ?_, fun h => ?_, fun h => ?_, fun h => ⟨.stopped, rfl, ?_⟩⟩
  · exact (heard_eq_tell hs _).trans (by rw [Part.setReady, if_pos h])
  · refine (heard_eq_tell hs _).trans ?_
    rw [Part.setReady, if_neg (by simp [h])]
    rfl
  · exact (heard_eq_tell hs _).trans (by rw [Part.setNotReady, if_neg (by simp [h])])
  · refine (heard_eq_tell hs _).trans ?_
    rw [Part.setNotReady, if_pos h]
    rfl

end Sys2Proof.Machine
end

section
/-! SUPPORT. The relocation channels: their flags and level conditions, the way of a service from its start to its end,
and the requests CHANNEL and TRIGGER. -/

namespace Sys2Proof.Machine

open Sys2Proof Sys2Proof.Spec

variable {s : State} {p q : Part} {c d : Nat}

/-! ### The work list -/

theorem drainAll_notes (p : Part) : p.drainAll.notes = [] := rfl

/-- The one report of an event, which makes no other. -/
theorem drainAll_of_one {n : Note} (h : p.notes = [n]) (hq : (p.noNotes.handle n).notes = []) :
    p.drainAll = p.noNotes.handle n := by
  have step (k : Nat) : drain (k + 2) p = p.noNotes.handle n := by
    rw [drain, h]
    change drain (k + 1) (p.noNotes.handle n) = _
    rw [drain, hq]
  have hstep : drain Config.cascadeFuel p = p.noNotes.handle n := step (Config.cascadeFuel - 2)
  rw [Part.drainAll, hstep, Part.noNotes]
  exact congrArg (fun l => { p.noNotes.handle n with notes := l }) hq.symm

/-- A report that its taker does nothing about. -/
theorem drainAll_note_of_idle {n : Note} (h : p.notes = []) (hn : p.handle n = p) : (p.note n).drainAll = p := by
  have hp : (p.note n).noNotes = p := by rw [Part.noNotes, ← h]; rfl
  rw [drainAll_of_one (n := n) (by simp [h]) (by rw [hp, hn, h]), hp, hn]

/-! ### Channels and their setups -/

theorem chan_modChan {f : Chan → Chan} :
    (p.modChan c f).chan d = if d = c ∧ c < p.re.chans.length then f (p.chan c) else p.chan d := by
  unfold Part.chan Part.modChan modAt
  simp only [Part.modRe_re, List.getD_eq_getElem?_getD, List.getElem?_modify]
  by_cases h : d = c
  · subst h
    by_cases hl : d < p.re.chans.length
    · simp [hl]
    · simp [hl]
  · simp [h, Ne.symm h]

/-- A channel that is not DISABLED is one of the table. -/
theorem lt_length_of_not_disabled (h : (p.chan c).state ≠ .disabled) : c < p.re.chans.length := by
  by_contra hl
  exact h (by rw [Part.chan, List.getD_eq_default _ _ (by omega)]; rfl)

theorem chan_modChan_self {f : Chan → Chan} (h : (p.chan c).state ≠ .disabled) : (p.modChan c f).chan c = f (p.chan c) := by
  rw [chan_modChan, if_pos ⟨rfl, lt_length_of_not_disabled h⟩]

@[simp] theorem chan_note (n : Note) : (p.note n).chan c = p.chan c := rfl

@[simp] theorem setup_note (n : Note) : (p.note n).setup c = p.setup c := rfl

@[simp] theorem setup_modChan {f : Chan → Chan} : (p.modChan c f).setup d = p.setup d := rfl

/-! ### The trigger flag (R106) -/

/-- A channel whose flag may be set: it is neither DISABLED nor being stopped. -/
def Chan.Flaggable (k : Chan) : Prop := k.state ≠ .disabled ∧ k.stop = none

theorem not_flaggable {k : Chan} : ¬k.Flaggable ↔ k.state = .disabled ∨ k.stop ≠ none := by
  rw [Chan.Flaggable, not_and_or, not_not]

theorem setFlag_of_flaggable (h : (p.chan c).Flaggable) :
    p.setFlag c = (p.modChan c fun k => { k with flag := true }).note (.service c) := if_pos h

theorem setFlag_of_not_flaggable (h : ¬(p.chan c).Flaggable) : p.setFlag c = p := if_neg h

theorem chan_setFlag (p : Part) (c d : Nat) : (p.setFlag c).chan d = p.chan d ∨
    (d = c ∧ (p.chan d).Flaggable ∧ (p.setFlag c).chan d = { p.chan d with flag := true }) := by
  by_cases h : (p.chan c).Flaggable
  · rw [setFlag_of_flaggable h, chan_note, chan_modChan]
    split
    · next hd =>
      obtain ⟨rfl, -⟩ := hd
      exact .inr ⟨rfl, h, rfl⟩
    · exact .inl rfl
  · exact .inl (by rw [setFlag_of_not_flaggable h])

theorem chan_setFlag_self (h : (p.chan c).Flaggable) : (p.setFlag c).chan c = { p.chan c with flag := true } := by
  rw [setFlag_of_flaggable h, chan_note, chan_modChan_self h.1]

theorem setFlag_cases (p : Part) (c : Nat) : p.setFlag c = p ∨
    p.setFlag c = (p.modChan c fun k => { k with flag := true }).note (.service c) :=
  (ite_eq_or_eq _ _ _).symm

@[simp] theorem setFlag_setups : (p.setFlag c).re.setups = p.re.setups := by
  obtain h | h := setFlag_cases p c <;> rw [h]
  rfl

@[simp] theorem setFlag_setup : (p.setFlag c).setup d = p.setup d := by
  rw [Part.setup, setFlag_setups, Part.setup]

@[simp] theorem setFlag_sv : (p.setFlag c).sv = p.sv := by
  obtain h | h := setFlag_cases p c <;> rw [h]
  rfl

/-- A channel whose flag may not be set keeps its record while flags are set. -/
theorem chan_setFlag_of_not_flaggable (h : ¬(p.chan d).Flaggable) : (p.setFlag c).chan d = p.chan d := by
  obtain h' | ⟨-, hd, -⟩ := chan_setFlag p c d
  · exact h'
  · exact absurd hd h

/-- A pass over the channels that sets flags leaves the record of a channel whose flag may not be set. -/
theorem chan_foldl_setFlag {f : Part → Nat → Part} (hf : ∀ q x, f q x = q ∨ f q x = q.setFlag x) (l : List Nat) :
    ∀ {q : Part}, ¬(q.chan d).Flaggable → (l.foldl f q).chan d = q.chan d := by
  induction l with
  | nil => exact fun _ => rfl
  | cons x l ih =>
    intro q h
    have hx : (f q x).chan d = q.chan d := by
      obtain hx | hx := hf q x
      · rw [hx]
      · rw [hx, chan_setFlag_of_not_flaggable h]
    rw [List.foldl_cons, ih (hx ▸ h), hx]

/-- A media idle reaches a channel: it is its source, and the channel is running (R105, R108). -/
def Part.MediaIdleReaches (p : Part) (c : Nat) : Prop :=
  (p.setup c).source = .mediaIdle ∧ (p.setup c).enable = true ∧ p.sv.device = .online ∧ (p.chan c).Flaggable

theorem running_eq_true : p.running c = true ↔
    (p.setup c).enable = true ∧ p.sv.device = .online ∧ (p.chan c).stop = none := by
  simp [Part.running]

/-- One channel's reaction to a media idle. -/
theorem mediaIdle_step (q : Part) (x : Nat) :
    let r := if (q.setup x).source = .mediaIdle ∧ q.running x = true then q.setFlag x else q
    (r.MediaIdleReaches c ↔ q.MediaIdleReaches c) ∧ (r.chan c = q.chan c ∨ (q.MediaIdleReaches c ∧
      r.chan c = { q.chan c with flag := true })) ∧ (x = c → q.MediaIdleReaches c →
      r.chan c = { q.chan c with flag := true }) := by
  dsimp only
  split
  · next hr =>
    obtain ⟨hs, hr⟩ := hr
    obtain ⟨he, hd, hstop⟩ := running_eq_true.1 hr
    have flaggable : ((q.setFlag x).chan c).Flaggable ↔ (q.chan c).Flaggable := by
      obtain h | ⟨-, -, h⟩ := chan_setFlag q x c <;> rw [h]
      rfl
    refine ⟨by simp [Part.MediaIdleReaches, flaggable], ?_, fun hx h => ?_⟩
    · obtain h | ⟨rfl, hf, h⟩ := chan_setFlag q x c
      · exact .inl h
      · exact .inr ⟨⟨hs, he, hd, hf⟩, h⟩
    · subst hx
      exact chan_setFlag_self h.2.2.2
  · next hr =>
    refine ⟨.rfl, .inl rfl, ?_⟩
    rintro rfl ⟨hs, he, hd, hf⟩
    exact absurd ⟨hs, running_eq_true.2 ⟨he, hd, hf.2⟩⟩ hr

theorem chan_foldl_mediaIdle (l : List Nat) : ∀ {q : Part},
    let r := l.foldl (fun q x => if (q.setup x).source = .mediaIdle ∧ q.running x = true then q.setFlag x else q) q
    (c ∈ l → q.MediaIdleReaches c → r.chan c = { q.chan c with flag := true }) ∧
    (r.chan c = q.chan c ∨ (q.MediaIdleReaches c ∧ r.chan c = { q.chan c with flag := true })) := by
  induction l with
  | nil => exact fun {q} => ⟨fun h => absurd h (by simp), .inl rfl⟩
  | cons x l ih =>
    intro q
    obtain ⟨hreach, hstep, hset⟩ := mediaIdle_step (c := c) q x
    dsimp only at hreach hstep hset ih ⊢
    rw [List.foldl_cons]
    obtain ⟨ih1, ih2⟩ := ih (q := if (q.setup x).source = .mediaIdle ∧ q.running x = true then q.setFlag x else q)
    rw [hreach] at ih1 ih2
    refine ⟨fun hc h => ?_, ?_⟩
    · rcases List.mem_cons.1 hc with rfl | hc
      · rcases ih2 with h2 | ⟨-, h2⟩ <;> rw [h2, hset rfl h]
      · rw [ih1 hc h]
        rcases hstep with h2 | ⟨-, h2⟩ <;> rw [h2]
    · rcases ih2 with h2 | ⟨h, h2⟩
      · rw [h2]
        exact hstep
      · refine .inr ⟨h, ?_⟩
        rw [h2]
        rcases hstep with h3 | ⟨-, h3⟩ <;> rw [h3]

theorem becomeIdle_of_not_running (h : ¬(p.running c = true ∧ (p.chan c).state = .disabled)) : p.becomeIdle c = p :=
  if_neg h

/-- Settles O28. -/
theorem onlyARunningChannelBecomesIdle : Obligations.OnlyARunningChannelBecomesIdle := by
  intro p c
  refine ⟨fun h => setFlag_of_not_flaggable (not_flaggable.2 h), fun h => becomeIdle_of_not_running fun hr => ?_,
    fun he hd hs hst hlen => ?_, fun h => ?_, fun hc hlen => ?_⟩
  · rw [running_eq_true] at hr
    obtain ⟨⟨he, hd, hs⟩, hst⟩ := hr
    simp [he, hd, hs, hst] at h
  · rw [Part.becomeIdle, if_pos ⟨running_eq_true.2 ⟨he, hd, hs⟩, hst⟩]
    have idle : (((p.modChan c fun k => { k with state := .idle }).note .destagers).chan c).state = .idle := by
      rw [chan_note, chan_modChan, if_pos ⟨rfl, hlen⟩]
    dsimp only
    split
    · obtain h | ⟨-, -, h⟩ := chan_setFlag ((p.modChan c fun k => { k with state := .idle }).note .destagers) c c <;>
        rw [h]
      · exact idle
      · exact idle
    · exact idle
  · have hf := not_flaggable.2 h
    refine ⟨fun src old new => ?_, ?_, ?_⟩
    · refine chan_foldl_setFlag (fun q x => ?_) _ hf
      split
      · exact (ite_eq_or_eq _ _ _).symm
      · exact .inl rfl
    · exact chan_foldl_setFlag (fun q x => (ite_eq_or_eq _ _ _).symm) _ hf
    · exact chan_foldl_setFlag (fun q x => (ite_eq_or_eq _ _ _).symm) _ hf
  · obtain ⟨h1, h2⟩ := chan_foldl_mediaIdle (c := c) channels (q := p)
    have hmem : c ∈ channels := by
      simp [channels]
      omega
    split
    · next h =>
      obtain ⟨hs, he, hd, hstop, hst⟩ := h
      exact h1 hmem ⟨hs, he, hd, hst, hstop⟩
    · next h =>
      refine h2.resolve_right fun ⟨⟨hs, he, hd, hst, hstop⟩, _⟩ => h ⟨hs, he, hd, hstop, hst⟩

end Sys2Proof.Machine
end

section
/-! SUPPORT. The requests CHANNEL and TRIGGER, and the way of a service. -/

namespace Sys2Proof.Machine

open Sys2Proof Sys2Proof.Spec

variable {s : State} {p : Part} {q : Req} {c : Nat}

/-! ### The setup that a CHANNEL request carries (R103) -/

theorem jobOf_code (j : Job) : jobOf j.code = some j := by
  cases j <;> rfl

theorem sourceOf_code (t : TriggerSource) : sourceOf t.code = some t := by
  cases t <;> rfl

theorem modeOf_code (m : ServiceMode) : modeOf m.code = some m := by
  cases m <;> rfl

theorem jobOf_eq_none {n : Nat} (h : 1 < n) : jobOf n = none := by
  obtain ⟨k, rfl⟩ : ∃ k, n = k + 2 := ⟨n - 2, by omega⟩
  rfl

theorem sourceOf_eq_none {n : Nat} (h : 4 < n) : sourceOf n = none := by
  obtain ⟨k, rfl⟩ : ∃ k, n = k + 5 := ⟨n - 5, by omega⟩
  rfl

theorem modeOf_eq_none {n : Nat} (h : 2 < n) : modeOf n = none := by
  obtain ⟨k, rfl⟩ : ∃ k, n = k + 3 := ⟨n - 3, by omega⟩
  rfl

theorem setupOf_eq_none {v : ChannelArgs} (h : 1 < v.enable ∨ 1 < v.job ∨ 4 < v.source ∨ 2 < v.mode ∨
    8 < v.destClass ∨ v.victims &&& ~~~0x01FE#16 ≠ 0) : setupOf v = none := by
  unfold setupOf
  split
  · next hj hs hm =>
    refine if_neg fun ⟨he, hd, hv⟩ => ?_
    rcases h with h | h | h | h | h | h
    · omega
    · simp [jobOf_eq_none h] at hj
    · simp [sourceOf_eq_none h] at hs
    · simp [modeOf_eq_none h] at hm
    · omega
    · exact h hv
  · rfl

theorem setupOf_eq_some {v : ChannelArgs} {n : ChanSetup} (hclass : v.destClass ≤ 8)
    (hvictims : v.victims &&& ~~~0x01FE#16 = 0) (henable : v.enable = if n.enable then 1 else 0)
    (hjob : v.job = n.job.code) (hsource : v.source = n.source.code) (hmode : v.mode = n.mode.code)
    (hn : n = { n with count := clamp 1 65535 v.count, destClass := v.destClass, victims := v.victims,
                       handle := v.handle, compareHour := v.compareHour, period := v.period,
                       freeLow := clamp 1 255 v.freeLow }) : setupOf v = some n := by
  have hle : v.enable ≤ 1 := by rw [henable]; split <;> omega
  have hdec : decide (v.enable = 1) = n.enable := by rw [henable]; cases n.enable <;> rfl
  unfold setupOf
  rw [hjob, hsource, hmode, jobOf_code, sourceOf_code, modeOf_code]
  dsimp only
  rw [if_pos ⟨hle, hclass, hvictims⟩, hdec]
  exact congrArg some hn.symm

/-! ### The setups while a channel starts and stops -/

theorem setups_becomeIdle (p : Part) (c : Nat) : (p.becomeIdle c).re.setups = p.re.setups := by
  unfold Part.becomeIdle
  dsimp only
  split
  · split
    · exact setFlag_setups
    · rfl
  · rfl

/-- A channel's state record when a stop has completed (R121). -/
def Chan.stopped (k : Chan) : Chan :=
  { k with state := .disabled, stop := none, owned := none, victim := none, resume := .none, amount := 0, copy := none
           work := none, toJoin := [] }

/-- The band that a channel owns is parked (R121). -/
def Part.parkOwned (p : Part) (c : Nat) : Part :=
  match (p.chan c).owned with
  | some b => (p.park b .cont).2
  | none => p

/-- The victim of a channel is returned (R121). -/
def Part.returnHeld (p : Part) (c : Nat) : Part :=
  match (p.chan c).victim with
  | some b => p.returnVictim b
  | none => p

/-- A completed stop parks the channel's band, returns its victim, and then the channel is as good as new (R121). -/
theorem completeStop_eq (p : Part) (c : Nat) :
    p.completeStop c = ((((p.parkOwned c).returnHeld c).modChan c Chan.stopped).note .drain).becomeIdle c := rfl

theorem sameWork_parkOwned (p : Part) (c : Nat) : p.SameWork (p.parkOwned c) := by
  unfold Part.parkOwned
  split
  · exact sameWork_park (.refl p)
  · exact .refl p

theorem sameWork_returnHeld (p : Part) (c : Nat) : p.SameWork (p.returnHeld c) := by
  unfold Part.returnHeld
  split
  · exact sameWork_returnVictim (.refl p)
  · exact .refl p

theorem setups_completeStop (p : Part) (c : Nat) : (p.completeStop c).re.setups = p.re.setups := by
  rw [completeStop_eq, setups_becomeIdle]
  exact ((sameWork_parkOwned p c).trans (sameWork_returnHeld _ c)).setups

theorem setups_abandonPiece (p : Part) (c i : Nat) : (p.abandonPiece c i).re.setups = p.re.setups := by
  unfold Part.abandonPiece
  split
  · exact (sameWork_landBand (.refl _)).setups
  · rfl

theorem setups_beginStop (p : Part) (c : Nat) (cause : StopCause) : (p.beginStop c cause).re.setups = p.re.setups := by
  unfold Part.beginStop
  dsimp only
  split
  · rfl
  split
  · rfl
  split
  · split
    · exact setups_abandonPiece _ _ _
    · rfl
  · exact setups_completeStop _ _

theorem setups_storeSetup (p : Part) (c : Nat) (v : ChanSetup) :
    (p.storeSetup c v).re.setups = p.re.setups.modify c fun _ => v := by
  unfold Part.storeSetup
  dsimp only
  split
  · exact setups_beginStop _ _ _
  split
  · exact setups_becomeIdle _ _
  split
  · exact setFlag_setups
  · rfl

theorem beginStop_of_disabled {cause : StopCause} (h : (p.chan c).state = .disabled) : p.beginStop c cause = p := if_pos h

/-- A setup stored for a channel that stays DISABLED. -/
theorem storeSetup_of_disabled {v : ChanSetup} (h : (p.chan c).state = .disabled) (hd : p.sv.device ≠ .online) :
    p.storeSetup c v = (p.modSetup c fun _ => v).note .destagers := by
  have hchan : (((p.modSetup c fun _ => v).note .destagers).chan c).state = .disabled := h
  unfold Part.storeSetup
  dsimp only
  split
  · exact beginStop_of_disabled hchan
  · have hidle : ((p.modSetup c fun _ => v).note .destagers).becomeIdle c = (p.modSetup c fun _ => v).note .destagers :=
      becomeIdle_of_not_running fun hr => hd (running_eq_true.1 hr.1).2.1
    exact hidle

/-- The destaging channels change while no PLACE is held. -/
theorem onDestagers_of_not_held (h : p.sl.held = false) : p.onDestagers = p := if_neg (by simp [h])

/-- Settles O27. -/
theorem channelWriteStoresItsSetup : Obligations.ChannelWriteStoresItsSetup := by
  intro s q c v h hr
  refine ⟨fun hbad => ?_, fun n hc hclass hvictims henable hjob hsource hmode hcount hdest hvict hhandle hhour hperiod
    hlow => ?_⟩
  · refine (taken_arrive h rfl (decide_eq_true h.length)).trans ?_
    have hnone : 3 < c ∨ setupOf v = none := hbad.imp_right setupOf_eq_none
    split
    · exact congrArg _ (after_say hr _)
    · next hc =>
      rw [hnone.resolve_left hc]
      exact congrArg _ (after_say hr _)
  · have hsetup : setupOf v = some n := by
      refine setupOf_eq_some hclass hvictims henable hjob hsource hmode ?_
      cases n
      simp_all [clamp_eq]
    refine ⟨fun hbusy => ?_, fun hfree => ⟨setups_storeSetup _ _ _, ?_⟩, fun hdis hdev hheld => ?_⟩
    · refine (taken_arrive h rfl (decide_eq_true h.length)).trans ?_
      rw [if_neg (by omega), hsetup]
      dsimp only
      rw [if_pos hbusy]
      exact congrArg _ (after_say hr _)
    · refine (taken_arrive h rfl (decide_eq_true h.length)).trans ?_
      rw [if_neg (by omega), hsetup]
      dsimp only
      rw [if_neg (by tauto), Verdict.result_answerAfter, after_waits (drainAll_notes _)]
    · rw [storeSetup_of_disabled hdis hdev]
      exact drainAll_note_of_idle hr.1 (onDestagers_of_not_held hheld)

end Sys2Proof.Machine
end

section
/-! SUPPORT. The request TRIGGER, and the handlers of a service (R109, R116 to R120): one lemma for each of its ways. -/

namespace Sys2Proof.Machine

open Sys2Proof Sys2Proof.Spec

variable {s : State} {p : Part} {q : Req} {c : Nat}

/-! ### TRIGGER (R108) -/

theorem after_say_drained (p : Part) (m : Message) : after s (p.drainAll.say m) = commit s (p.drainAll.say m) :=
  after_eq_commit (drainAll_notes p)

/-- A service that the report of a flag finds at work goes on. -/
theorem startService_of_working {k : ChanState} (hk : k = .select ∨ k = .move ∨ k = .settle)
    (h : (p.chan c).state = k) : p.startService c = p := by
  refine if_neg ?_
  rw [h]
  rcases hk with rfl | rfl | rfl <;> simp

theorem handle_service_of_working {k : ChanState} (hk : k = .select ∨ k = .move ∨ k = .settle)
    (h : (p.chan c).state = k) : p.handle (.service c) = p := by
  rw [Part.handle, startService_of_working hk h, ite_self]

theorem state_flagged (p : Part) (c : Nat) (b : Bool) :
    ((p.modChan c fun k => { k with flag := b }).chan c).state = (p.chan c).state := by
  rw [chan_modChan]
  split <;> rfl

/-- The requests of TRIGGER. -/
theorem trigger_requests (s : State) (q : Req) (c action : Nat) (h : Arrives s .trigger q 1 2) (hr : s.part.Rested) :
    let k := s.part.chan c
    let r := ((s.part.modChan c fun k => { k with flag := true }).note (.service c)).drainAll
    (c ≤ 3 → exec (.triggerClear q c) s = .next (tell s ((s.part.modChan c fun k => { k with flag := false }).say
      (okReply q .trigger [flagItem ((s.part.modChan c fun k => { k with flag := false }).chan c).flag,
        item 1 k.state.code])))) ∧
    (3 < c → exec (.triggerClear q c) s = .next (tell s (s.part.say (refusal q .trigger .badArg [])))) ∧
    (c ≤ 3 → action = 0 → k.state ≠ .disabled → k.stop = none → exec (.triggerSet q c action) s =
      .next (commit s (r.say (okReply q .trigger [flagItem (r.chan c).flag, item 1 (r.chan c).state.code])))) ∧
    (c ≤ 3 → k.state = .select ∨ k.state = .move ∨ k.state = .settle →
      r = s.part.modChan c fun k => { k with flag := true }) ∧
    (c ≤ 3 → action = 0 → (k.state = .disabled ∨ k.stop ≠ none) → exec (.triggerSet q c action) s =
      .next (tell s (s.part.say (refusal q .trigger .wrongState [])))) ∧
    (3 < c ∨ action ≠ 0 → exec (.triggerSet q c action) s =
      .next (tell s (s.part.say (refusal q .trigger .badArg [])))) := by
  intro k r
  refine ⟨fun hc => ?_, fun hc => ?_, fun hc ha hst hstop => ?_, fun hc hst => ?_, fun hc ha hst => ?_, fun hbad => ?_⟩
  · refine (heard_arrive h rfl (decide_eq_true h.length)).trans ?_
    rw [if_neg (by omega), Verdict.result_answer, Part.triggerItems, state_flagged]
  · refine (heard_arrive h rfl (decide_eq_true h.length)).trans ?_
    rw [if_pos hc]
    rfl
  · refine (taken_arrive h rfl (decide_eq_true h.length)).trans ?_
    rw [if_neg (by omega), if_neg (by simp [hst, hstop, k] at *)]
    dsimp only
    rw [Verdict.result_answer, after_say_drained, setFlag_of_flaggable ⟨hst, hstop⟩]
    rfl
  · have hst' : ∃ x, (x = .select ∨ x = .move ∨ x = .settle) ∧ k.state = x := ⟨_, hst, rfl⟩
    obtain ⟨x, hx, hk⟩ := hst'
    exact drainAll_note_of_idle hr.1 (handle_service_of_working hx ((state_flagged _ _ _).trans hk))
  · refine (taken_arrive h rfl (decide_eq_true h.length)).trans ?_
    rw [if_neg (by omega), if_pos (by simpa [Option.isSome_iff_ne_none] using hst)]
    exact congrArg _ (after_say hr _)
  · refine (taken_arrive h rfl (decide_eq_true h.length)).trans ?_
    rw [if_pos hbad]
    exact congrArg _ (after_say hr _)

/-! ### The start of a service, and its selection (R109, R116, R118) -/

theorem startService_eq : p.startService c =
    if ((p.chan c).state = .idle ∨ (p.chan c).state = .stalled) ∧ (p.chan c).flag = true then
      (p.modChan c fun k => { k with flag := false, amount := 0, mode := (p.setup c).mode, count := (p.setup c).count
                                     state := .select, work := none }).note (.select c)
    else p := rfl

theorem selectSource_destage (h : (p.setup c).job = .destage) :
    (p.destageWork (p.chan c).resume.named = none → p.selectSource c =
      (p.modChan c fun k => { k with resume := .none, state := .settle }).endService c false) ∧
    (∀ r, p.destageWork (p.chan c).resume.named = some r → p.selectSource c = (p.modChan c fun k => { k with
      work := some { pos := r.pos, len := r.len, start := r.start, cls := r.cls }, state := .move }).note (.move c)) := by
  refine ⟨fun hw => ?_, fun r hw => ?_⟩ <;>
  · unfold Part.selectSource
    rw [h]
    dsimp only
    rw [hw]

theorem selectSource_reclaim (h : (p.setup c).job = .reclaim) :
    ((p.chan c).victim ≠ none → p.selectSource c = (p.modChan c fun k => { k with state := .move }).note (.move c)) ∧
    ((p.chan c).victim = none → (p.selectVictim (p.setup c).victims).1 = none →
      p.selectSource c = (p.selectVictim (p.setup c).victims).2.endService c false) ∧
    (∀ b, (p.chan c).victim = none → (p.selectVictim (p.setup c).victims).1 = some b → p.selectSource c =
      (((p.selectVictim (p.setup c).victims).2.modBand b fun r => { r with state := .reclaiming }).modChan c fun k =>
        { k with victim := some b, resume := .reclaim b 0, state := .move }).note (.move c)) := by
  refine ⟨fun hv => ?_, fun hv hb => ?_, fun b hv hb => ?_⟩
  · obtain ⟨b, hb⟩ := Option.ne_none_iff_exists'.1 hv
    unfold Part.selectSource
    rw [h]
    dsimp only
    rw [hb]
  · unfold Part.selectSource
    rw [h]
    dsimp only
    rw [hv]
    dsimp only
    split
    · next heq => rw [heq]
    · next heq => simp [heq] at hb
  · unfold Part.selectSource
    rw [h]
    dsimp only
    rw [hv]
    dsimp only
    split
    · next heq => simp [heq] at hb
    · next heq =>
      rw [heq] at hb ⊢
      obtain rfl := Option.some.inj hb
      rfl

/-! ### The next copy (R110, R116, R119) -/

theorem copyLimit_eq (k : Chan) : k.copyLimit = if k.mode = .successive then min 1024 (k.count - k.amount) else 1024 := by
  unfold Chan.copyLimit
  cases k.mode <;> rfl

theorem moveOn_destage {w : DestageRec} (hs : (p.chan c).state = .move) (hc : (p.chan c).copy = none)
    (hstop : (p.chan c).stop = none) (hw : (p.chan c).work = some w) : p.moveOn c = p.moveDestage c w := by
  unfold Part.moveOn
  dsimp only
  rw [if_pos ⟨hs, by simp [hc]⟩, if_neg (by simp [hstop]), hw]

theorem moveOn_reclaim {b : Nat} (hs : (p.chan c).state = .move) (hc : (p.chan c).copy = none)
    (hstop : (p.chan c).stop = none) (hw : (p.chan c).work = none) (hv : (p.chan c).victim = some b) :
    p.moveOn c = p.moveReclaim c b := by
  unfold Part.moveOn
  dsimp only
  rw [if_pos ⟨hs, by simp [hc]⟩, if_neg (by simp [hstop]), hw, hv]

theorem moveOn_of_stopped (hs : (p.chan c).state = .move) (hc : (p.chan c).copy = none) (hstop : (p.chan c).stop ≠ none) :
    p.moveOn c = p.completeStop c := by
  unfold Part.moveOn
  dsimp only
  rw [if_pos ⟨hs, by simp [hc]⟩, if_pos (by simpa [Option.isSome_iff_ne_none] using hstop)]

/-- What of a record is left to be copied (R116). -/
def Part.leftOf (p : Part) (c : Nat) (w : DestageRec) : List SubRange :=
  exactCheck p.tu.extents (w.start + (p.chan c).resume.offsetIn w.pos) (w.len - (p.chan c).resume.offsetIn w.pos)
    (.log (w.pos + (p.chan c).resume.offsetIn w.pos))

/-- The end of a record: the resume point moves behind it (R116). -/
def Part.recordDone (p : Part) (c : Nat) (w : DestageRec) : Part :=
  p.modChan c fun k => { k with resume := .destage ((w.pos + w.len) % stgCap p.bm) 0, work := none }

theorem moveDestage_of_left {w : DestageRec} {x : SubRange} {more : List SubRange} (h : p.leftOf c w = x :: more) :
    p.moveDestage c w =
      p.startCopy c x.start (min x.len (p.chan c).copyLimit) (.log (w.pos + (x.start - w.start))) w.cls := by
  unfold Part.moveDestage
  unfold Part.leftOf at h
  dsimp only
  rw [h]

theorem moveDestage_of_done {w : DestageRec} (h : p.leftOf c w = []) :
    ((p.chan c).mode = .batch → p.moveDestage c w = (p.recordDone c w).endService c false) ∧
    ((p.chan c).mode ≠ .batch → p.moveDestage c w =
      ((p.recordDone c w).modChan c fun k => { k with state := .select }).note (.select c)) := by
  unfold Part.leftOf at h
  refine ⟨fun hm => ?_, fun hm => ?_⟩ <;> unfold Part.moveDestage <;> dsimp only <;> rw [h]
  · dsimp only
    rw [hm]
    rfl
  · dsimp only
    split
    · next hb => exact absurd hb hm
    · rfl

theorem moveReclaim_of_found {b x n off : Nat}
    (h : bandScan p.tu.extents b (p.chan c).resume.cursor (p.chan c).copyLimit = some (x, n, off)) :
    p.moveReclaim c b = p.startCopy c x n (.band b off) (p.band b).cls := by
  unfold Part.moveReclaim
  dsimp only
  rw [h]

theorem moveReclaim_of_none {b : Nat}
    (h : bandScan p.tu.extents b (p.chan c).resume.cursor (p.chan c).copyLimit = none) :
    p.moveReclaim c b = (p.modChan c fun k => { k with state := .settle }).note (.settle c) := by
  unfold Part.moveReclaim
  dsimp only
  rw [h]

/-! ### The victim in SETTLE (R120) -/

/-- The end of a service whose victim has gone (R120). -/
def Part.finishVictim (p : Part) (c : Nat) : Part :=
  (p.modChan c fun k => { k with victim := none, resume := .none }).endService c false

theorem settleCheck_eq {b : Nat} (hs : (p.chan c).state = .settle) (hv : (p.chan c).victim = some b) :
    p.settleCheck c = if 0 < (p.band b).valid then (p.returnVictim b).finishVictim c
      else if (p.band b).releasable = true then (p.rewind b).finishVictim c else p := by
  unfold Part.settleCheck
  dsimp only
  rw [hs, hv]
  rfl

theorem releasable_eq_true {r : Band} :
    r.releasable = true ↔ r.valid = 0 ∧ r.pins = 0 ∧ r.pendingRemaps = 0 ∧ r.inFlight = 0 := decide_eq_true_iff

/-! ### The end of a service (R107, R109) -/

/-- The level condition of a channel (R106), as the statement reads it. -/
def Part.LevelStands (p : Part) (c : Nat) : Prop :=
  match (p.setup c).source with
  | .stageHigh => FillAt p p.sv.settings.highMark ∨ p.sl.held = true
  | .freeLow => (p.bm.bands.countP fun b => decide (b.state = .free)) ≤ (p.setup c).freeLow
  | .hourCompare => (p.setup c).compareHour ≤ p.sv.header.hours
  | _ => False

theorem fillAt_eq_true {m : Nat} : p.fillAt m = true ↔ FillAt p m := decide_eq_true_iff

theorem demandHigh_eq_true : p.demandHigh = true ↔ FillAt p p.sv.settings.highMark ∨ p.sl.held = true := by
  rw [Part.demandHigh, Bool.or_eq_true, Part.fillHigh, fillAt_eq_true]
  rfl

theorem levelHolds_eq_true : p.levelHolds c = true ↔ p.LevelStands c := by
  unfold Part.levelHolds Part.LevelStands
  dsimp only
  cases (p.setup c).source with
  | stageHigh => exact demandHigh_eq_true
  | freeLow => exact decide_eq_true_iff
  | hourCompare => exact decide_eq_true_iff
  | software => simp
  | mediaIdle => simp

/-- A service's end (R109), once it is known whether the flag stays. -/
theorem endService_eq (p : Part) (c : Nat) (noBand : Bool) :
    let q := p.modSetup c nextCompare
    let flag := (p.chan c).flag || (decide (0 < (p.chan c).amount) && q.levelHolds c)
    let r := q.modChan c fun k => { k with flag := flag, lastEmpty := !decide (0 < (p.chan c).amount), copy := none
                                           work := none, state := if noBand then .stalled else .idle }
    p.endService c noBand = if noBand then r.raise evChannelStall else if flag then r.note (.service c) else r := rfl

theorem nextCompare_eq (x : ChanSetup) : nextCompare x = { x with
    compareHour := if x.source = .hourCompare then min 4294967295 (x.compareHour + x.period) else x.compareHour } := by
  unfold nextCompare
  split <;> rfl

theorem endService_cases {again : Bool} (h : again = true ↔ (p.chan c).flag = true ∨
      (0 < (p.chan c).amount ∧ (p.modSetup c nextCompare).LevelStands c)) :
    let ended (flag stalled : Bool) := (p.modSetup c nextCompare).modChan c fun x => { x with
      flag := flag, lastEmpty := decide ((p.chan c).amount = 0), copy := none, work := none
      state := if stalled then .stalled else .idle }
    p.endService c true = (ended again true).raise evChannelStall ∧
      p.endService c false = if again then (ended again false).note (.service c) else ended again false := by
  have hagain : ((p.chan c).flag || (decide (0 < (p.chan c).amount) && (p.modSetup c nextCompare).levelHolds c)) = again := by
    rw [Bool.eq_iff_iff, h]
    simp [levelHolds_eq_true]
  have hempty : (!decide (0 < (p.chan c).amount)) = decide ((p.chan c).amount = 0) := by
    rw [← decide_not]
    exact decide_eq_decide.2 (by omega)
  rw [endService_eq, endService_eq, hagain, hempty]
  exact ⟨rfl, rfl⟩

/-- Settles O20, by the requests of TRIGGER and the ways of a service. -/
theorem triggerSetsAndClearsTheFlag : Obligations.TriggerSetsAndClearsTheFlag := by
  refine ⟨trigger_requests, fun p c => ?_⟩
  dsimp only
  refine ⟨fun hs hf => ?_, fun h => ?_, fun h => selectSource_destage h, fun h => selectSource_reclaim h,
    fun w hs hc hstop hw => ?_, fun b hs hc hstop hw hv => ?_, fun hs hc hstop => moveOn_of_stopped hs hc hstop,
    fun b hs hv => ?_, fun again h => ?_⟩
  · rw [startService_eq, if_pos ⟨hs, hf⟩]
  · rw [startService_eq, if_neg]
    rintro ⟨hs, hf⟩
    rcases h with ⟨h1, h2⟩ | h
    · exact hs.elim h1 h2
    · simp [h] at hf
  · rw [moveOn_destage hs hc hstop hw, ← copyLimit_eq]
    exact ⟨fun x more h => moveDestage_of_left h, fun h => (moveDestage_of_done h).1, fun h => (moveDestage_of_done h).2⟩
  · rw [moveOn_reclaim hs hc hstop hw hv, ← copyLimit_eq]
    exact ⟨fun x n off h => moveReclaim_of_found h, fun h => moveReclaim_of_none h⟩
  · rw [settleCheck_eq hs hv]
    refine ⟨fun h => if_pos h, fun h0 hp hr hi => ?_, fun h0 h => ?_⟩
    · rw [if_neg (by omega), if_pos (releasable_eq_true.2 ⟨h0, hp, hr, hi⟩)]
      rfl
    · rw [if_neg (by omega), if_neg]
      rw [releasable_eq_true]
      omega
  · have hq : p.modSetup c nextCompare = { p with re := { p.re with setups := p.re.setups.modify c fun x => { x with
        compareHour := if x.source = .hourCompare then min 4294967295 (x.compareHour + x.period) else x.compareHour } } } := by
      rw [funext nextCompare_eq]
      rfl
    rw [← hq] at h ⊢
    exact endService_cases h

end Sys2Proof.Machine
end

section
/-! SUPPORT. The Supervisor: MOUNT, QUIESCE, RESTORE, the digest checks and the hour count. -/

namespace Sys2Proof.Machine

open Sys2Proof Sys2Proof.Spec

variable {s : State} {p : Part} {q : Req} {c : Nat}

/-! ### Events that do nothing -/

theorem Part.SameStored.trans {p q r : Part} (h : p.SameStored q) (k : q.SameStored r) : p.SameStored r :=
  ⟨k.image.trans h.image, k.notes.trans h.notes, k.follows.trans h.follows⟩

theorem sameStored_raise (p : Part) (f : EventBits) : p.SameStored (p.raise f) :=
  ⟨by simp [Part.image, Part.raise_sv], by simp, by simp⟩

theorem sameStored_sayHeld (p : Part) (m : Message) : p.SameStored (p.sayHeld m) := ⟨rfl, rfl, rfl⟩

theorem sameStored_long (p : Part) (k : ReqKind) (tag : Nat) (hold : Bool) : p.SameStored (long p k tag hold) := by
  cases hold <;> exact ⟨rfl, rfl, rfl⟩

/-- An event whose command does nothing. -/
theorem taken_of_idle (hs : Hears s) (hr : s.part.Rested) {f : Part → Part} (hf : f s.part = s.part) :
    s.taken f = .next (tell s s.part) := by
  rw [taken_eq_after hs, hf, after_of_sameStored hr (sameStored_refl _)]

/-- An event that changes nothing stored and reports nothing. -/
theorem taken_of_sameStored (hs : Hears s) (hr : s.part.Rested) {f : Part → Part} {p : Part} (hf : f s.part = p)
    (hp : s.part.SameStored p) : s.taken f = .next (tell s p) := by
  rw [taken_eq_after hs, hf, after_of_sameStored hr hp]

theorem due_eq_true {t : Timer} : t.due = true ↔ t.state = .running ∧ t.limit ≤ t.elapsed := decide_eq_true_iff

theorem due_eq_false {t : Timer} : t.due = false ↔ t.state ≠ .running ∨ t.elapsed < t.limit := by
  rw [← Bool.not_eq_true, due_eq_true, not_and_or, Nat.not_le]

/-! ### The last message of a long request -/

theorem finalMsg_of_long {k : ReqKind} (h : k.isLong = true) (hold : Bool) (tag : Nat) (r : Result) (l : List Item) :
    finalMsg k hold tag r l = last k hold tag r l := by
  cases hold <;> simp [finalMsg, last, h, doneMsg, replyMsg]

/-! ### ONLINE (R178) -/

theorem startChannels_eq (p : Part) : p.startChannels = [0, 1, 2, 3].foldl Part.becomeIdle p := rfl

theorem becomeIdle_sv (p : Part) (c : Nat) : (p.becomeIdle c).sv = p.sv := by
  unfold Part.becomeIdle
  split
  · dsimp only
    split
    · exact setFlag_sv
    · rfl
  · rfl

theorem startChannels_sv (p : Part) : p.startChannels.sv = p.sv :=
  (List.foldlRecOn (motive := fun q => q.sv = p.sv) channels Part.becomeIdle rfl fun q h c _ => (becomeIdle_sv q c).trans h)

/-! ### MOUNT (R180) -/

theorem digest_eq (p : Part) : p.digest = digestOf p.bm.geom p.bm.retired := rfl

theorem digestBad_eq_true : p.digestBad = true ↔ digestOf p.bm.geom p.bm.retired ≠ p.sv.header.digest := decide_eq_true_iff

/-- The end of a MOUNT's computation, where the part waits for it. -/
theorem mountEnd_eq {m : MountWork} (hm : p.sv.mount = some m) (hd : p.sv.device = .mounting) (hr : p.sv.reset = none) :
    let d := digestOf p.bm.geom p.bm.retired
    let items (x : Nat) := [item 4 d.toNat, item 4 p.sv.header.digest.toNat, item 1 x]
    (d ≠ p.sv.header.digest → p.mountEnd = (({ p with sv := { p.sv with mount := none, device := .fenced } } : Part).raise
      evFence).sayHeld (last .mount m.hold m.tag .fenced (items 5))) ∧
    (d = p.sv.header.digest → p.mountEnd = ([0, 1, 2, 3].foldl Part.becomeIdle ({ p with sv := { p.sv with
      mount := none, device := .online
      digestTimer := { state := .running, elapsed := 0, limit := p.sv.settings.digestMinutes * 60000 } } } : Part)).sayHeld
        (last .mount m.hold m.tag .ok (items 3))) := by
  refine ⟨fun hbad => ?_, fun hgood => ?_⟩ <;> unfold Part.mountEnd <;> rw [hm] <;> dsimp only <;>
    rw [if_pos ⟨hd, by simp [Part.resetting, hr]⟩]
  · rw [if_pos (digestBad_eq_true.2 hbad), finalMsg_of_long rfl]
    rfl
  · rw [if_neg (by simpa [digestBad_eq_true] using hgood), finalMsg_of_long rfl]
    rfl

/-- A long request that is taken, and then changes the Supervisor's record. -/
theorem long_modSv (p : Part) (k : ReqKind) (tag : Nat) (hold : Bool) (f : Supervisor → Supervisor) :
    (long p k tag hold).modSv f = { long p k tag hold with sv := f p.sv } := by
  cases hold <;> rfl

/-- Settles O35. -/
theorem mountComputesTheDigest : Obligations.MountComputesTheDigest := by
  intro s q hold hr
  refine ⟨fun h => ?_, fun m hs hd hreset hm => ⟨fun hbad => ?_, fun hgood => ?_⟩⟩
  · refine (taken_arrive h (owed_long (.inl rfl)) (decide_eq_true h.length)).trans ?_
    rw [Verdict.result_take, acceptLong_eq_long (.inl rfl), long_modSv]
    refine congrArg _ (after_of_sameStored hr ((sameStored_long _ .mount q.tag hold).trans ⟨?_, rfl, rfl⟩))
    cases hold <;> rfl
  · refine taken_of_sameStored hs hr ((mountEnd_eq hm hd hreset).1 hbad) ?_
    have stored : s.part.SameStored { s.part with sv := { s.part.sv with mount := none, device := .fenced } } :=
      ⟨rfl, rfl, rfl⟩
    exact (stored.trans (sameStored_raise _ _)).trans (sameStored_sayHeld _ _)
  · rw [← (mountEnd_eq hm hd hreset).2 hgood]
    exact taken_eq_after hs _

/-! ### QUIESCE (R181) -/

/-- Nothing is left to drain. -/
structure Part.Empty (p : Part) : Prop where
  queue : p.tx.queue = []
  txns : p.tx.txns = []
  streams : ∀ x ∈ p.su, x.state = .free
  chans : ∀ k ∈ p.re.chans, k.state = .disabled

theorem drained_eq_true : p.drained = true ↔ p.Empty := by
  simp only [Part.drained, Bool.and_eq_true, List.isEmpty_iff, List.all_eq_true, decide_eq_true_eq]
  exact ⟨fun ⟨⟨⟨h1, h2⟩, h3⟩, h4⟩ => ⟨h1, h2, h3, h4⟩, fun ⟨h1, h2, h3, h4⟩ => ⟨⟨⟨h1, h2⟩, h3⟩, h4⟩⟩

theorem chan_of_all_disabled (h : ∀ k ∈ p.re.chans, k.state = .disabled) (c : Nat) : (p.chan c).state = .disabled := by
  by_contra hc
  have hlt := lt_length_of_not_disabled hc
  refine hc (h _ ?_)
  rw [Part.chan, List.getD_eq_getElem _ _ hlt]
  exact List.getElem_mem hlt

theorem stream_of_all_free (h : ∀ x ∈ p.su, x.state = .free) (i : Nat) : (p.stream i).state = .free := by
  rw [Part.stream, List.getD_eq_getElem?_getD]
  cases hx : p.su[i - 1]? with
  | none => rfl
  | some x => exact h x (List.mem_of_getElem? hx)

theorem quiesceClose_of_free {i : Nat} (h : (p.stream i).state = .free) : p.quiesceClose i = p := by
  unfold Part.quiesceClose
  split
  · exact if_neg fun hi => hi.1 h
  · rfl

/-- The drain ends. -/
theorem drainEnd_eq {w : QuiesceWork} (hw : p.sv.quiesce = some w) (hd : p.sv.device = .quiescing)
    (hr : p.sv.reset = none) (he : p.Empty) :
    p.drainEnd = ({ p with sv := { p.sv with quiesce := none, device := .stopped } } : Part).sayHeld
      (last .quiesce w.hold w.tag .ok [item 1 w.closed, item 1 w.refused]) := by
  unfold Part.drainEnd
  rw [hw]
  dsimp only
  rw [if_pos ⟨hd, by simp [Part.resetting, hr], drained_eq_true.2 he⟩, finalMsg_of_long rfl]
  rfl

theorem drainEnd_of_not_drained (h : p.sv.quiesce = none ∨ p.tx.txns ≠ [] ∨ p.tx.queue ≠ []) : p.drainEnd = p := by
  unfold Part.drainEnd
  split
  · next w hw =>
    refine if_neg fun ⟨_, _, hdr⟩ => ?_
    have he := drained_eq_true.1 hdr
    simp [hw, he.queue, he.txns] at h
  · rfl

/-- The state of the Supervisor with which a drain begins. -/
def Part.quiescing (p : Part) (tag : Nat) (hold : Bool) : Part :=
  { p with sv := { p.sv with
      device := .quiescing
      digestTimer := .stopped
      quiesce := some { tag := tag, hold := hold, closed := 0, refused := 0 } } }

theorem startQuiesce_eq (p : Part) (tag : Nat) (hold : Bool) : p.startQuiesce tag hold =
    ((List.range 16).foldl (fun (q : Part) i => q.quiesceClose (i + 1))
      ([0, 1, 2, 3].foldl (fun (q : Part) c => q.beginStop c .quiesce) (p.quiescing tag hold))).note .drain := rfl

/-- A part with nothing to drain has no channel to stop and no stream to close. -/
theorem startQuiesce_of_empty (h : p.Empty) (tag : Nat) (hold : Bool) :
    p.startQuiesce tag hold = (p.quiescing tag hold).note .drain := by
  rw [startQuiesce_eq]
  have stops : [0, 1, 2, 3].foldl (fun (q : Part) c => q.beginStop c .quiesce) (p.quiescing tag hold) =
      p.quiescing tag hold := foldl_same
    (fun c => beginStop_of_disabled (p := p.quiescing tag hold) (chan_of_all_disabled (p := p) h.chans c)) _
  have closes : (List.range 16).foldl (fun (q : Part) i => q.quiesceClose (i + 1)) (p.quiescing tag hold) =
      p.quiescing tag hold := foldl_same
    (f := fun (q : Part) i => q.quiesceClose (i + 1))
    (fun i => quiesceClose_of_free (p := p.quiescing tag hold) (stream_of_all_free (p := p) h.streams _)) _
  rw [stops, closes]

theorem long_quiescing (p : Part) (tag t : Nat) (hold : Bool) :
    (long p .quiesce tag hold).quiescing t hold = { long p .quiesce tag hold with sv := { p.sv with
      device := .quiescing
      digestTimer := .stopped
      quiesce := some { tag := t, hold := hold, closed := 0, refused := 0 } } } := by
  cases hold <;> rfl

/-- A QUIESCE that finds nothing to drain ends in its own event. -/
theorem drainAll_startQuiesce (h : p.Empty) (hn : p.notes = []) (hr : p.sv.reset = none) (tag : Nat) (hold : Bool) :
    (p.startQuiesce tag hold).drainAll = ({ p with sv := { p.sv with
      device := .stopped, digestTimer := .stopped, quiesce := none } } : Part).sayHeld
        (last .quiesce hold tag .ok [item 1 0, item 1 0]) := by
  have noted : ((p.quiescing tag hold).note .drain).noNotes = p.quiescing tag hold :=
    congrArg (fun l => ({ p.quiescing tag hold with notes := l } : Part)) hn.symm
  have ended := drainEnd_eq (p := p.quiescing tag hold) rfl rfl hr ⟨h.queue, h.txns, h.streams, h.chans⟩
  have handled : ((p.quiescing tag hold).note .drain).noNotes.handle .drain = ({ p with sv := { p.sv with
      device := .stopped, digestTimer := .stopped, quiesce := none } } : Part).sayHeld
        (last .quiesce hold tag .ok [item 1 0, item 1 0]) := by
    rw [noted]
    exact ended
  rw [startQuiesce_of_empty h, drainAll_of_one (n := .drain) (by simp [Part.quiescing, hn]) (by rw [handled]; exact hn),
    handled]

theorem long_empty (h : p.Empty) (k : ReqKind) (tag : Nat) (hold : Bool) : (long p k tag hold).Empty := by
  cases hold <;> exact ⟨h.queue, h.txns, h.streams, h.chans⟩

theorem long_sv (p : Part) (k : ReqKind) (tag : Nat) (hold : Bool) : (long p k tag hold).sv = p.sv := by
  cases hold <;> rfl

/-- Settles O36. -/
theorem quiesceDrainsToStopped : Obligations.QuiesceDrainsToStopped := by
  intro s q hold hr
  refine ⟨fun h => ?_, fun h hq ht hsu hch => ?_, fun w hs hd hreset hw hq ht hsu hch => ?_, fun hs h => ?_⟩
  · refine (taken_arrive h (owed_long (.inl rfl)) (decide_eq_true h.length)).trans ?_
    rw [Verdict.result_take, acceptLong_eq_long (.inl rfl), startQuiesce_eq, long_quiescing]
  · refine (taken_arrive h (owed_long (.inl rfl)) (decide_eq_true h.length)).trans ?_
    have hreset : s.part.sv.reset = none := h.reset.resolve_left (by simp)
    rw [Verdict.result_take, acceptLong_eq_long (.inl rfl), after, drainAll_startQuiesce (long_empty ⟨hq, ht, hsu, hch⟩ ..)
      ((sameStored_long _ _ _ _).notes.trans hr.1) (by rw [long_sv]; exact hreset), long_sv]
    have stored : s.part.SameStored { long s.part .quiesce q.tag hold with
        sv := { s.part.sv with device := .stopped, digestTimer := .stopped, quiesce := none } } :=
      (sameStored_long _ .quiesce q.tag hold).trans (by cases hold <;> exact ⟨rfl, rfl, rfl⟩)
    have said := stored.trans (sameStored_sayHeld _ (last .quiesce hold q.tag .ok [item 1 0, item 1 0]))
    exact congrArg _ (commit_eq_tell said.image (said.follows.trans hr.2))
  · exact taken_of_sameStored hs hr (drainEnd_eq hw hd hreset ⟨hq, ht, hsu, hch⟩) ⟨rfl, rfl, rfl⟩
  · exact taken_of_idle hs hr (drainEnd_of_not_drained h)

/-! ### RESTORE (R5, R184) -/

theorem restoreBusy_eq_true : p.restoreBusy = true ↔
    p.tx.txns ≠ [] ∨ (∃ x ∈ p.su, x.state ≠ .free) ∨ ∃ k ∈ p.re.chans, k.state ≠ .disabled := by
  simp [Part.restoreBusy, or_assoc]

theorem tryCompleteReset_of_no_reset (h : p.sv.reset = none) : p.tryCompleteReset = p := by
  unfold Part.tryCompleteReset
  rw [h]

/-- The part after the update of a RESTORE. -/
def Part.restored (p : Part) : Part :=
  [0, 1, 2, 3].foldl Part.becomeIdle ({ p with sv := { p.sv with
    restore := none
    device := .online
    digestTimer := { state := .running, elapsed := 0, limit := p.sv.settings.digestMinutes * 60000 } } } : Part)

theorem restoreDone_eq {tag : Nat} (h : p.sv.restore = some tag) (hr : p.sv.reset = none) :
    p.restoreDone = p.restored.sayHeld { tag := tag, place := .ordinary, payload := .reply .ok .restore [] } := by
  unfold Part.restoreDone
  rw [h]
  dsimp only
  rw [if_neg (by simp [Part.resetting, hr])]
  rfl

theorem restored_sv (p : Part) : p.restored.sv = { p.sv with
    restore := none
    device := .online
    digestTimer := { state := .running, elapsed := 0, limit := p.sv.settings.digestMinutes * 60000 } } :=
  startChannels_sv _

theorem updateDurable_eq {u : StoreUpdate} (h : p.updateOf u.id = some u) :
    p.updateDurable u.id = u.follows.foldl Part.followUp (p.markDone u.id) := by
  unfold Part.updateDurable
  rw [h]

theorem followDurable_eq {f : Follow} {u : StoreUpdate} (h : p.updateOf u.id = some u)
    (hu : (p.store.updates.find? fun x => decide (f ∈ x.follows) && !x.done) = some u) :
    p.followDurable f = u.follows.foldl Part.followUp (p.markDone u.id) := by
  unfold Part.followDurable
  rw [hu]
  exact updateDurable_eq h

/-- Settles O37. -/
theorem restoreRefusedOrWritten : Obligations.RestoreRefusedOrWritten := by
  intro s q g l hr
  refine ⟨fun h => ?_, fun u tag hs hrestore hreset hfollows hof hfind => ?_⟩
  · dsimp only
    rw [← restoreBusy_eq_true]
    refine ⟨fun hb => ?_, fun k hb hk => ?_, fun hb hk hd => ?_, fun hb hk hd => ?_⟩ <;>
      refine (taken_arrive h rfl (decide_eq_true h.length)).trans ?_
    · rw [if_pos hb]
      exact congrArg _ (after_say hr _)
    · rw [if_neg hb, hk]
      exact congrArg _ (after_say hr _)
    · rw [if_neg hb, hk]
      dsimp only
      rw [if_pos hd]
      exact congrArg _ (after_say hr _)
    · rw [if_neg hb, hk]
      dsimp only
      rw [if_neg (not_not.2 hd)]
      rfl
  · refine (taken_eq_after hs _).trans ?_
    dsimp only
    rw [followDurable_eq hof hfind, hfollows]
    dsimp only [List.foldl_cons, List.foldl_nil, Part.followUp]
    rw [restoreDone_eq (p := s.part.markDone u.id) hrestore hreset, tryCompleteReset_of_no_reset]
    · rfl
    · rw [Part.sayHeld_sv, restored_sv]
      exact hreset

/-! ### Digest checks and hours (R182, R183) -/

theorem stopChannels_eq (p : Part) (x : StopCause) :
    p.stopChannels x = [0, 1, 2, 3].foldl (fun (p : Part) c => p.beginStop c x) p := rfl

/-- The digest timer is started afresh. -/
def Part.digestAgain (p : Part) : Part :=
  { p with sv := { p.sv with
      digestTimer := { state := .running, elapsed := 0, limit := p.sv.settings.digestMinutes * 60000 } } }

theorem digestExpired_eq (h : p.sv.digestTimer.due = true) (hd : p.sv.device = .online) (hr : p.sv.reset = none) :
    p.digestExpired = if digestOf p.bm.geom p.bm.retired ≠ p.sv.header.digest then
      [0, 1, 2, 3].foldl (fun (p : Part) c => p.beginStop c .fence)
        (({ p with sv := { p.sv with device := .fenced, digestTimer := .stopped } } : Part).raise evFence)
      else p.digestAgain := by
  unfold Part.digestExpired
  rw [if_pos ⟨h, hd, by simp [Part.resetting, hr]⟩]
  exact if_congr digestBad_eq_true rfl rfl

theorem digestExpired_of_idle
    (h : p.sv.device ≠ .online ∨ p.sv.reset ≠ none ∨ p.sv.digestTimer.state ≠ .running ∨
      p.sv.digestTimer.elapsed < p.sv.digestTimer.limit) : p.digestExpired = p := by
  refine if_neg fun ⟨hdue, hd, hr⟩ => ?_
  have hnone : p.sv.reset = none := by simpa [Part.resetting] using hr
  rw [← due_eq_false, hdue] at h
  simp [hd, hnone] at h

/-- H has advanced (R182). -/
def Part.hourLater (p : Part) : Part :=
  { p with sv := { p.sv with hourAcc := 0, header := { p.sv.header with hours := p.sv.header.hours + 1 } } }

theorem hourPassed_eq (h : 3600000 ≤ p.sv.hourAcc) (hd : p.sv.device ≠ .unformatted) (hend : p.sv.header.hours < 4294967295) :
    p.hourPassed = p.hourLater.note (.hour p.hours (p.hours + 1)) := by
  have go : ¬(p.sv.device = .unformatted ∨ Config.hourCap ≤ p.sv.header.hours) := by
    rintro (h1 | h1)
    · exact hd h1
    · exact Nat.not_le.2 hend h1
  exact (if_pos h).trans (if_neg go)

/-- A report that a part which is still makes has no taker. -/
theorem after_note_of_still {n : Note} (h : p.Still) (hn : p.notes = []) : after s (p.note n) = commit s p := by
  rw [after, drainAll_note_of_idle hn (handle_of_still h n)]

/-- Settles O51. -/
theorem digestChecksAndHours : Obligations.DigestChecksAndHours := by
  intro s hs hr
  refine ⟨fun hd hreset hst hlim => ⟨fun hgood => ?_, fun hbad => ?_⟩, fun h => ?_, fun h => ?_, fun h hend => ?_,
    fun h hd hend hstill => ?_⟩
  · refine taken_of_sameStored (f := Part.digestExpired) hs hr
      ((digestExpired_eq (due_eq_true.2 ⟨hst, hlim⟩) hd hreset).trans (if_neg (not_not.2 hgood))) ⟨rfl, rfl, rfl⟩
  · refine (taken_eq_after hs _).trans ?_
    rw [digestExpired_eq (due_eq_true.2 ⟨hst, hlim⟩) hd hreset, if_pos hbad]
  · exact taken_of_idle hs hr (digestExpired_of_idle h)
  · exact taken_of_idle hs hr (if_neg (Nat.not_le.2 h))
  · refine taken_of_sameStored (f := Part.hourPassed) hs hr ((if_pos h).trans (if_pos hend)) ⟨rfl, rfl, rfl⟩
  · refine (taken_eq_after hs _).trans ?_
    rw [hourPassed_eq h hd hend, after_note_of_still (p := s.part.hourLater) (hstill.of_eq rfl rfl rfl) hr.1]
    rfl

end Sys2Proof.Machine
end

section
/-! SUPPORT. The Media Port: the arbiter, the window, and the reports and timeouts of its orders. -/

namespace Sys2Proof.Machine

open Sys2Proof Sys2Proof.Spec

variable {s : State} {p : Part} {o : Order}

/-! ### Lists of records -/

theorem modWhere_eq {α : Type} (P : α → Prop) [DecidablePred P] (f : α → α) (l : List α) :
    modWhere (fun x => decide (P x)) f l = l.map fun x => if P x then f x else x := by
  simp [modWhere]

/-! ### The window and the lanes (R138, R139) -/

theorem windowCount_eq (l : List Order) :
    windowCount l = l.countP fun o => decide (o.state = .issued ∨ o.state = .cancelling) := by
  refine List.countP_congr fun o _ => ?_
  cases h : o.state <;> simp [Order.inWindow, h]

theorem canIssue_eq_true : p.canIssue = true ↔ p.mp.ready = true ∧
    (p.mp.orders.countP fun o => decide (o.state = .issued ∨ o.state = .cancelling)) < 8 ∧ p.sv.reset = none := by
  simp only [Part.canIssue, windowCount_eq, Part.resetting, Bool.and_eq_true, decide_eq_true_eq, Bool.not_eq_true',
    Option.isSome_eq_false_iff, Option.isNone_iff_eq_none, and_assoc]
  rfl

theorem queued_eq_true : o.queued = true ↔ o.state = .queued := decide_eq_true_iff

theorem durable_eq_true {u : Nat} : p.durable u = true ↔ ∀ x ∈ p.store.updates, x.id = u → x.done = true := by
  simp [Part.durable]

theorem lowerWrite_eq_false {l : List Order} {b k : Nat} : lowerWrite l b k = false ↔
    ∀ x ∈ l, x.state = .queued → x.op = .write → ∀ j, x.place = .band b j → k ≤ j := by
  rw [← Bool.not_eq_true, lowerWrite, List.any_eq_true, not_exists]
  refine forall_congr' fun x => ?_
  cases x.place <;> simp [queued_eq_true]

theorem laneHead_spec {f : Owner → Bool} (h : p.laneHead f = some o) :
    o ∈ p.mp.orders ∧ o.state = .queued ∧ p.eligible o = true := by
  rw [Part.laneHead, Option.filter_eq_some_iff] at h
  obtain ⟨hfind, helig⟩ := h
  have hq := List.find?_some hfind
  rw [Bool.and_eq_true, queued_eq_true] at hq
  exact ⟨List.mem_of_find?_eq_some hfind, hq.1, helig⟩

theorem head_spec (h : p.foreHead = some o ∨ p.backHead = some o) :
    o ∈ p.mp.orders ∧ o.state = .queued ∧ p.eligible o = true := by
  rcases h with h | h
  · exact laneHead_spec h
  · obtain ⟨k, -, hk⟩ := List.exists_of_findSome?_eq_some h
    exact laneHead_spec hk

theorem eligible_write (h : p.eligible o = true) (ho : o.op = .write) :
    (∀ x ∈ p.store.updates, x.id = o.update → x.done = true) ∧ ∀ b k, o.place = .band b k →
      ∀ x ∈ p.mp.orders, x.state = .queued → x.op = .write → ∀ j, x.place = .band b j → k ≤ j := by
  unfold Part.eligible at h
  rw [ho] at h
  cases hp : o.place with
  | log pos =>
    rw [hp] at h
    exact ⟨durable_eq_true.1 h, nofun⟩
  | band b k =>
    rw [hp] at h
    obtain ⟨hd, hl⟩ := (Bool.and_eq_true _ _).mp h
    refine ⟨durable_eq_true.1 hd, ?_⟩
    rintro _ _ ⟨⟩
    exact lowerWrite_eq_false.1 (by simpa using hl)

/-- The choice between the head of the favoured lane and that of the other (R139). -/
def arbiterChoice (run burst : Nat) : Option Order → Option Order → Option (Order × Nat)
  | none, none => none
  | some o, none => some (o, 0)
  | none, some o => some (o, 0)
  | some a, some b => if run < burst then some (a, run + 1) else some (b, 0)

theorem arbitrate_eq (p : Part) : p.arbitrate = arbiterChoice p.mp.runCount p.sv.settings.burst
    (if p.mp.favoured = .foreground then p.foreHead else p.backHead)
    (if p.mp.favoured = .foreground then p.backHead else p.foreHead) := by
  unfold Part.arbitrate arbiterChoice
  rfl

theorem tryIssue_of_some {run : Nat} (h : p.canIssue = true) (ha : p.arbitrate = some (o, run)) :
    p.tryIssue = p.issue o run := by
  rw [Part.tryIssue, if_pos h, ha]

theorem tryIssue_of_none (h : p.canIssue = false ∨ p.arbitrate = none) : p.tryIssue = p := by
  rw [Part.tryIssue]
  split
  · next hc => rw [h.resolve_left (by simp [hc])]
  · rfl

/-- Settles O53, by the arbiter's choice (arbitrate_eq) and what an eligible head is (head_spec, eligible_write). -/
theorem issueFollowsTheArbiter : Obligations.IssueFollowsTheArbiter := by
  intro s hs
  dsimp only
  refine ⟨fun h => ?_, fun hready hwindow hreset o run hchoice => ?_, fun o h => ?_⟩
  · refine (heard_eq_tell hs _).trans (congrArg (fun p => Host.Outcome.next (tell s p)) (tryIssue_of_none ?_))
    rw [← Bool.not_eq_true, canIssue_eq_true]
    rcases h with h | h | h | ⟨hf, ho⟩
    · simp [h]
    · exact .inl fun hc => absurd hc.2.1 (by omega)
    · simp [h]
    · exact .inr (by rw [arbitrate_eq, hf, ho]; rfl)
  · have hcan : s.part.canIssue = true := canIssue_eq_true.2 ⟨hready, hwindow, hreset⟩
    have choice : s.part.arbitrate = some (o, run) := by
      rw [arbitrate_eq]
      rcases hchoice with ⟨hf, ho, rfl⟩ | ⟨hf, ho, rfl⟩ | ⟨hf, ho, hrun, rfl⟩ | ⟨hf, ho, hrun, rfl⟩
      · rw [hf, ho, arbiterChoice]
      · rw [hf, ho, arbiterChoice]
      · obtain ⟨b, hb⟩ := Option.ne_none_iff_exists'.1 ho
        rw [hf, hb, arbiterChoice, if_pos hrun]
      · obtain ⟨a, ha⟩ := Option.ne_none_iff_exists'.1 hf
        rw [ha, ho, arbiterChoice, if_neg (by omega)]
    refine (heard_eq_tell hs _).trans (congrArg (fun p => Host.Outcome.next (tell s p)) ?_)
    rw [tryIssue_of_some hcan choice]
    simp only [Part.issue, Part.modMp, modWhere_eq]
    cases o.owner <;> rfl
  · obtain ⟨hmem, hq, helig⟩ := head_spec h
    exact ⟨hmem, hq, eligible_write helig⟩

end Sys2Proof.Machine
end

section
/-! SUPPORT. What the end of an order does, the expiry of the timers, and the test of the head of the Request Queue. -/

namespace Sys2Proof.Machine

open Sys2Proof Sys2Proof.Spec

variable {s : State} {p q : Part} {o : Order}

/-! ### Reports and timeouts (R142, R144, R145) -/

theorem settleStatus_ok (done count : Nat) :
    settleStatus .ok done count = if done = count then (.ok, done) else (.fault, min done count) := rfl

theorem settleStatus_fault (done count : Nat) : settleStatus .fault done count = (.fault, min done (count - 1)) := by
  have least : (if count ≤ done then count - 1 else done) = min done (count - 1) := by
    split <;> omega
  exact congrArg (Prod.mk _) least

theorem settleStatus_cancelled (done count : Nat) : settleStatus .cancelled done count = (.cancelled, done) := rfl

theorem takeReport_issued {id : Nat} {st : ReportStatus} {done : Nat} (ha : p.mp.awaitAll = false)
    (ho : p.order id = some o) (hs : o.state = .issued) : p.takeReport id st done = p.issuedReport o st done := by
  unfold Part.takeReport
  rw [if_neg (by simp [ha]), ho]
  dsimp only
  rw [hs]

theorem takeReport_cancelling {id : Nat} {st : ReportStatus} {done : Nat} (ha : p.mp.awaitAll = false)
    (ho : p.order id = some o) (hs : o.state = .cancelling) : p.takeReport id st done = p.lateReport o st := by
  unfold Part.takeReport
  rw [if_neg (by simp [ha]), ho]
  dsimp only
  rw [hs]

/-- The REPORT of an ISSUED order, by the status it is taken as (R142). -/
theorem issuedReport_eq {st : ReportStatus} {done : Nat} {r : ReportStatus × Nat}
    (hr : settleStatus st done o.count = r) :
    let queue := (p.removeOrder o.id).unpinOrder o
    let band := if r.1 = .fault then queue.orderError o else queue
    let owner := (band.tellReport o r.1 r.2).drainAll
    let tally := if r.1 = .fault then (owner.count o.cls Tally.addFault).raise evMediaErr else owner
    p.issuedReport o st done = tally.placeFreed := by
  subst hr
  rfl

theorem orderExpired_of_due {id : Nat} (ho : p.order id = some o) (hs : o.state = .issued) (ht : o.timer.due = true) :
    p.orderExpired id =
      (((((p.sendCancel id).unpinOrder o).orderError o).tellTimeout o).drainAll.count o.cls Tally.addFault).raise
        evOrderTimeout := by
  unfold Part.orderExpired
  rw [ho]
  exact if_pos ⟨hs, ht⟩

theorem orderExpired_of_not_due {id : Nat} (ho : p.order id = some o) (h : o.state ≠ .issued ∨ o.timer.due = false) :
    p.orderExpired id = p := by
  unfold Part.orderExpired
  rw [ho]
  refine if_neg fun ⟨hs, ht⟩ => ?_
  simp [hs, ht] at h

/-- Settles O47. -/
theorem reportsAndTimeoutsActInTheirOrder : Obligations.ReportsAndTimeoutsActInTheirOrder := by
  intro s id o hs hr ho
  refine ⟨fun ha hst st done => ?_, fun ha hst st done => ?_, fun hst hrun hlim => ?_, fun h => ?_⟩
  · dsimp only
    refine (taken_eq_after hs _).trans (congrArg (fun p => Host.Outcome.next (after s p)) ?_)
    rw [takeReport_issued ha ho hst]
    cases st with
    | ok => exact issuedReport_eq (settleStatus_ok done o.count)
    | fault => exact issuedReport_eq (settleStatus_fault done o.count)
    | cancelled => exact issuedReport_eq (settleStatus_cancelled done o.count)
  · refine (taken_eq_after hs _).trans (congrArg (fun p => Host.Outcome.next (after s p)) ?_)
    rw [takeReport_cancelling ha ho hst]
    rfl
  · refine (taken_eq_after hs _).trans (congrArg (fun p => Host.Outcome.next (after s p)) ?_)
    exact orderExpired_of_due ho hst (due_eq_true.2 ⟨hrun, hlim⟩)
  · exact taken_of_idle hs hr (orderExpired_of_not_due ho (by rwa [due_eq_false]))

/-! ### The head of the Request Queue (R169) -/

theorem overlaps_eq_true {r t : DataReq} : r.overlaps t = true ↔
    ∃ a b, r.range = some a ∧ t.range = some b ∧ a.1 < b.1 + b.2 ∧ b.1 < a.1 + a.2 := by
  unfold DataReq.overlaps
  cases r.range <;> cases t.range <;> simp [overlap]

theorem holdsBack_eq_true {t : Txn} {r : DataReq} : t.holdsBack r = true ↔ Conflicts r t := by
  simp only [Txn.holdsBack, Conflicts, Bool.and_eq_true, overlaps_eq_true, ReqKind.changesMap, Txn.kind, Bool.or_eq_true,
    decide_eq_true_eq]
  grind

theorem streamLive_eq_false {i : Nat} : p.streamLive i = false ↔ ∀ t ∈ p.tx.txns, t.req.stream ≠ some i := by
  simp [Part.streamLive]

theorem headFree_of_heads {h : Queued} (hh : Heads s h) : s.part.headFree h.req = true := by
  have hany : (s.part.tx.txns.any fun t => t.holdsBack h.req) = false :=
    List.any_eq_false.2 fun t ht => by
      rw [holdsBack_eq_true]
      exact hh.range t ht
  have hlt : s.part.tx.txns.length < Config.txnCap := hh.record
  unfold Part.headFree
  rw [hany, decide_eq_true hlt]
  cases hr : h.req with
  | streamClose i => simpa using streamLive_eq_false.2 (hh.stream i hr)
  | place | fetch | discard | locate | streamOpen => rfl

theorem admits_of_heads {h : Queued} (hh : Heads s h) : s.part.admitsNothing = false := by
  simp [Part.admitsNothing, Part.resetting, hh.admits]

theorem canTake_eq_true {n : Nat} : p.canTake n = true ↔ p.tu.extents.length + p.tu.reserveTotal + n ≤ 262144 :=
  decide_eq_true_iff

/-- The admission test of a head that is of a kind taken, and not held back: the test of its kind. -/
theorem headTest_of_heads {h : Queued} (hh : Heads s h) : s.part.headTest h = match h.req with
    | .place a => s.part.placeTest h a
    | .fetch a n b => if s.part.hasPlaces (s.part.fetchPlan a n).runs.length = true then
        .accept (s.part.admitFetch h a b (s.part.fetchPlan a n)) else .hold
    | .discard a n => s.part.reserveTest 1 (.accept (s.part.admitDiscard h a n))
    | .locate a n => .accept (s.part.endAtHead h .ok (s.part.locateItems a n))
    | .streamOpen i c t v l => .accept (s.part.admitOpen h i c t v l)
    | .streamClose i => .accept (s.part.admitClose h i) := by
  unfold Part.headTest
  rw [stateRefusal_eq_none hh.state]
  exact if_neg (by simp [headFree_of_heads hh])

theorem reserveTest_of_full {n : Nat} {next : HeadTest} (h : 262144 < p.tu.extents.length + p.tu.reserveTotal + n)
    (ht : p.tx.txns = []) (hm : p.tu.remaps = []) : p.reserveTest n next = .refuse .mapFull := by
  unfold Part.reserveTest
  rw [if_neg (by simpa [canTake_eq_true] using h), if_pos (by simp [ht, hm])]

theorem reserveTest_of_room {n : Nat} {next : HeadTest} (h : p.tu.extents.length + p.tu.reserveTotal + n ≤ 262144) :
    p.reserveTest n next = next := if_pos (canTake_eq_true.2 h)

theorem refuseHead_of_refuse {h : Queued} {r : Result} (hreset : p.sv.reset = none) (hq : p.tx.queue.head? = some h)
    (ht : p.headTest h = .refuse r) : p.refuseHead = p.countRefused.endAtHead h r [] := by
  unfold Part.refuseHead
  rw [if_neg (by simp [Part.resetting, hreset]), hq]
  dsimp only
  rw [ht]

theorem refuseHead_of_not_refuse {h : Queued} (hq : p.tx.queue.head? = some h)
    (ht : ∀ r, p.headTest h ≠ .refuse r) : p.refuseHead = p := by
  unfold Part.refuseHead
  split
  · rfl
  · rw [hq]
    dsimp only
    split
    · next r hr => exact absurd hr (ht r)
    · rfl

theorem placeTest_of_room {h : Queued} {a : PlaceArgs}
    (hn : p.tu.extents.length + p.tu.reserveTotal + p.reserveFor h.req ≤ 262144) :
    let at_ := p.resolve a
    let r := p.divide a at_.cls
    ((r.1.left = 0 ∨ r.2.stagingTest r.1.left = .take) →
      p.placeTest h a = .accept (r.2.admitPlace h a at_ (p.reserveFor h.req) r.1)) ∧
    (r.1.left ≠ 0 → r.2.stagingTest r.1.left = .hold → p.placeTest h a = .holdStaging) ∧
    (r.1.left ≠ 0 → r.2.stagingTest r.1.left = .refuse → p.placeTest h a = .refuse .stagingFull) := by
  intro at_ r
  have test : p.placeTest h a = if r.1.left = 0 then .accept (r.2.admitPlace h a at_ (p.reserveFor h.req) r.1)
      else match r.2.stagingTest r.1.left with
        | .take => .accept (r.2.admitPlace h a at_ (p.reserveFor h.req) r.1)
        | .hold => .holdStaging
        | .refuse => .refuse .stagingFull := (reserveTest_of_room hn).trans rfl
  refine ⟨fun hl => ?_, fun hl hs => ?_, fun hl hs => ?_⟩ <;> rw [test]
  · split
    · rfl
    · next hne => rw [hl.resolve_left hne]
  · rw [if_neg hl, hs]
  · rw [if_neg hl, hs]

/-- Settles O43. -/
theorem headRefusedForItsReason : Obligations.HeadRefusedForItsReason := by
  intro s h hs hr hreset hq
  dsimp only
  have refused {r : Result} (ht : s.part.headTest h = .refuse r) : exec .headRefusal s = .next (after s
      (({ s.part with sv := { s.part.sv with quiesce := s.part.sv.quiesce.map fun w => { w with refused := w.refused + 1 } } } :
        Part).endAtHead h r [])) :=
    (taken_eq_after hs _).trans (congrArg (fun p => Host.Outcome.next (after s p)) (refuseHead_of_refuse hreset hq ht))
  refine ⟨fun r hd => refused ?_, fun n hh hk hn hfull htx hrem => refused ?_, fun a hh ha hn hl ht => refused ?_,
    fun hh hp hdis => taken_of_idle hs hr (refuseHead_of_not_refuse hq fun r => ?_)⟩
  · rw [Part.headTest, hd]
  · rw [headTest_of_heads hh]
    rcases hk with ⟨a, ha⟩ | ⟨a, b, ha⟩
    · rw [ha] at hn ⊢
      dsimp only
      rw [Part.placeTest, ha, hn]
      exact reserveTest_of_full hfull htx hrem
    · rw [ha] at hn ⊢
      obtain rfl : 1 = n := hn
      exact reserveTest_of_full hfull htx hrem
  · rw [headTest_of_heads hh, ha]
    exact (placeTest_of_room hn).2.2 hl ht
  · rw [headTest_of_heads hh]
    cases hreq : h.req with
    | place a => exact absurd hreq (hp a)
    | discard a b => exact absurd hreq (hdis a b)
    | fetch a n b =>
      dsimp only
      split <;> nofun
    | locate a n => nofun
    | streamOpen i c t v l => nofun
    | streamClose i => nofun

end Sys2Proof.Machine
end

section
/-! SUPPORT. Bands that lose their owner, are closed and parked: what of the streams stays, and the idle timers. -/

namespace Sys2Proof.Machine

open Sys2Proof Sys2Proof.Spec

variable {s : State} {p q : Part} {b i : Nat}

/-! ### The state after an event of a still part -/

/-- After an event that leaves the part still, what no transmission and no update touches is as the event left it. -/
theorem after_part_of_still (h : p.Still) :
    (after s p).part = (p.noNotes.beginSending).startUpdate s.part.image := by
  rw [after_of_still h]
  rfl

theorem after_tu_of_still (h : p.Still) : (after s p).part.tu = p.tu := by
  simp [after_part_of_still h]

theorem after_tx_of_still (h : p.Still) : (after s p).part.tx = p.tx := by
  simp [after_part_of_still h]

theorem after_su_of_still (h : p.Still) : (after s p).part.su = p.su := by
  simp [after_part_of_still h]

theorem after_mp_of_still (h : p.Still) : (after s p).part.mp = p.mp := by
  simp [after_part_of_still h]

theorem after_sv_of_still (h : p.Still) : (after s p).part.sv = p.sv := by
  simp [after_part_of_still h]

theorem after_queue_of_still (h : p.Still) : (after s p).part.li.queue = p.li.queue := by
  simp [after_part_of_still h, Part.beginSending]

theorem after_reserved_of_still (h : p.Still) : (after s p).part.li.reserved = p.li.reserved := by
  simp [after_part_of_still h, Part.beginSending]

/-! ### Streams -/

/-- A stream but for its state and its band. -/
def Stream.bare (x : Stream) : Stream := { x with state := .free, band := none }

theorem stream_modStream {f : Stream → Stream} (h : i - 1 < p.su.length) : (p.modStream i f).stream i = f (p.stream i) := by
  unfold Part.stream Part.modStream modAt
  simp only [Part.modSu_su, List.getD_eq_getElem?_getD, List.getElem?_modify]
  simp [h]

theorem lt_length_of_not_free (h : (p.stream i).state ≠ .free) : i - 1 < p.su.length := by
  by_contra hl
  exact h (by rw [Part.stream, List.getD_eq_default _ _ (by omega)]; rfl)

theorem bare_modify (l : List Stream) (k : Nat) (f : Stream → Stream) (hf : ∀ x, (f x).bare = x.bare) :
    (l.modify k f).map Stream.bare = l.map Stream.bare := by
  refine List.ext_getElem? fun j => ?_
  rw [List.getElem?_map, List.getElem?_map, List.getElem?_modify]
  split
  · cases l[j]? <;> simp [hf]
  · simp

/-- From p to q the streams keep all but their states and their bands. -/
def Part.SameStreams (p q : Part) : Prop := q.su.map Stream.bare = p.su.map Stream.bare

theorem sameStreams_of_eq (h : q.su = p.su) : p.SameStreams q := by
  rw [Part.SameStreams, h]

theorem Part.SameStreams.trans {r : Part} (h : p.SameStreams q) (k : q.SameStreams r) : p.SameStreams r := Eq.trans k h

theorem Part.SameStreams.stream (h : p.SameStreams q) (i : Nat) : (q.stream i).bare = (p.stream i).bare := by
  have hx := congrArg (fun l => l[i - 1]?) h
  simp only [List.getElem?_map] at hx
  simp only [Part.stream, List.getD_eq_getElem?_getD]
  cases hp : p.su[i - 1]? <;> cases hq : q.su[i - 1]? <;> simp_all

theorem Part.SameStreams.length (h : p.SameStreams q) : q.su.length = p.su.length := by
  simpa using congrArg List.length h

theorem sameStreams_tellLoss (p : Part) (r : Requester) : p.SameStreams (p.tellLoss r) := by
  cases r with
  | stream i => exact bare_modify _ _ _ fun _ => rfl
  | chan c => rfl

theorem sameStreams_loseOwner (p : Part) (b : Nat) : p.SameStreams (p.loseOwner b) := by
  unfold Part.loseOwner
  cases (p.band b).owner with
  | none => rfl
  | some o => exact sameStreams_tellLoss _ o

theorem sameStreams_closeBand (p : Part) (b : Nat) : p.SameStreams (p.closeBand b) :=
  (sameStreams_loseOwner p b).trans (sameStreams_of_eq (by rw [Part.closeBand, Part.releaseCheck_su, Part.closeOnly_su]))

theorem sameStreams_joinParked (p : Part) (b : Nat) : p.SameStreams (p.joinParked b Part.closeBand) := by
  unfold Part.joinParked
  dsimp only
  split
  · split
    · exact sameStreams_closeBand _ _
    · rfl
  · rfl

theorem sameStreams_dispose (p : Part) (b : Nat) : p.SameStreams (p.dispose b Part.closeBand) := by
  unfold Part.dispose
  split
  · exact sameStreams_of_eq (by simp)
  split
  · exact sameStreams_closeBand _ _
  · exact sameStreams_joinParked _ _

theorem sameStreams_park (p : Part) (b : Nat) (pol : TailPolicy) : p.SameStreams (p.park b pol).2 := by
  unfold Part.park
  split
  · exact (Part.SameStreams.trans (sameStreams_of_eq rfl) (sameStreams_loseOwner (p.modBand b _) b)).trans
      (sameStreams_dispose _ b)
  · rfl

theorem sameStreams_parkTallied (p : Part) (b : Nat) (pol : TailPolicy) : p.SameStreams (p.parkTallied b pol).2 :=
  sameStreams_park p b pol

/-! ### Idle timers (R84, R141) -/

/-- The media idle timer is started afresh (R141). -/
def Part.idleAgain (p : Part) : Part :=
  { p with mp := { p.mp with idle := { state := .running, elapsed := 0, limit := p.sv.settings.idleDelay } } }

theorem mediaIdled_of_due (h : p.mp.idle.due = true) : p.mediaIdled =
    [0, 1, 2, 3].foldl (fun p c => if (p.setup c).source = .mediaIdle ∧ p.running c then p.setFlag c else p)
      p.idleAgain :=
  if_pos h

theorem mediaIdled_of_not_due (h : p.mp.idle.due = false) : p.mediaIdled = p := if_neg (by simp [h])

/-- The idle timer of a stream that has expired is stopped (R84). -/
def Part.idleStopped (p : Part) (i : Nat) : Part :=
  p.modStream i fun x => { x with idle := { state := .stopped, elapsed := 0, limit := 0 } }

theorem streamExpired_of_not_due (h : (p.stream i).idle.due = false) : p.streamExpired i = p := if_neg (by simp [h])

theorem streamExpired_of_not_active (h : (p.stream i).idle.due = true) (hs : (p.stream i).state ≠ .active) :
    p.streamExpired i = p.idleStopped i := by
  unfold Part.streamExpired
  dsimp only
  rw [if_pos h]
  split
  · next hact _ => exact absurd hact hs
  · rfl

theorem streamExpired_of_active (h : (p.stream i).idle.due = true) (hs : (p.stream i).state = .active)
    (hb : (p.stream i).band = some b) : p.streamExpired i =
      ((p.idleStopped i).parkTallied b (p.stream i).park).2.modStream i fun x => { x with state := .dormant, band := none } := by
  unfold Part.streamExpired
  dsimp only
  rw [if_pos h, hs, hb]
  rfl

/-- An ACTIVE stream whose idle timer expires is DORMANT without a band, and is otherwise as it was (R84). -/
theorem stream_streamExpired (h : (p.stream i).idle.due = true) (hs : (p.stream i).state = .active)
    (hb : (p.stream i).band = some b) : (p.streamExpired i).stream i = { p.stream i with
      idle := { state := .stopped, elapsed := 0, limit := 0 }, state := .dormant, band := none } := by
  have hlen : i - 1 < p.su.length := lt_length_of_not_free (by simp [hs])
  have same := sameStreams_parkTallied (p.idleStopped i) b (p.stream i).park
  have hlen' : i - 1 < ((p.idleStopped i).parkTallied b (p.stream i).park).2.su.length := by
    rw [same.length]
    simpa [Part.idleStopped, Part.modStream, modAt] using hlen
  have hx : (((p.idleStopped i).parkTallied b (p.stream i).park).2.stream i).bare = ((p.idleStopped i).stream i).bare :=
    same.stream i
  rw [Part.idleStopped, stream_modStream hlen] at hx
  rw [streamExpired_of_active h hs hb, stream_modStream hlen']
  exact congrArg (fun x : Stream => { x with state := .dormant, band := none }) hx

/-- Settles O50. -/
theorem idleTimersOfMediaAndStreams : Obligations.IdleTimersOfMediaAndStreams := by
  intro s hs hr
  refine ⟨fun hrun hlim => ?_, fun h => ?_, fun i h1 h16 => ⟨fun h => ?_, fun hstill hrun hlim => ?_⟩⟩
  · have idled := mediaIdled_of_due (due_eq_true.2 ⟨hrun, hlim⟩)
    refine ⟨(taken_eq_after hs _).trans (congrArg (fun p => Host.Outcome.next (after s p)) idled), fun hstill => ?_⟩
    have still : s.part.idleAgain.Still := hstill.of_eq rfl rfl rfl
    refine taken_of_sameStored (p := s.part.idleAgain) hs hr (idled.trans ?_) ⟨rfl, rfl, rfl⟩
    exact foldl_same (fun c => by rw [setFlag_of_still still, ite_self]) _
  · exact taken_of_idle hs hr (mediaIdled_of_not_due (due_eq_false.2 h))
  · exact taken_of_idle (f := fun p => p.streamExpired i) hs hr (streamExpired_of_not_due (due_eq_false.2 h))
  · have hdue := due_eq_true.2 ⟨hrun, hlim⟩
    have still : (s.part.streamExpired i).Still := still_streamExpired hstill
    have same : s.part.SameWork (s.part.streamExpired i) := sameWork_streamExpired (.refl _)
    refine ⟨_, taken_eq_after hs _, ?_, ?_, fun hst => ?_, fun b hst hb => ⟨?_, ?_⟩⟩
    · rw [after_tu_of_still still, same.tu]
    · rw [after_tx_of_still still, same.tx]
    · rw [after_su_of_still still, streamExpired_of_not_active hdue hst]
      rfl
    · rw [← stream_streamExpired hdue hst hb, Part.stream, after_su_of_still still, Part.stream]
    · rw [streamExpired_of_active hdue hst hb]
      rfl

end Sys2Proof.Machine
end

section
/-! SUPPORT. The joins of the Order Queue (R136, R137): what an owner's list of orders becomes there, and what is left
with the owner; and the withdrawal of QUEUED orders (R143). -/

namespace Sys2Proof.Machine

open Sys2Proof Sys2Proof.Spec

variable {s : State} {p q : Part} {w : Owner} {o : Order} {l : List Order} {waits : List WriteWait} {tag : Nat}

/-! ### Transactions by tag -/

theorem txn_eq_find (p : Part) (tag : Nat) : p.txn tag = p.tx.txns.find? fun t => decide (t.tag = tag) := rfl

theorem txn_congr (h : q.tx = p.tx) (tag : Nat) : q.txn tag = p.txn tag := by
  rw [Part.txn, h, Part.txn]

theorem tag_of_txn {t : Txn} (h : p.txn tag = some t) : t.tag = tag := by simpa using List.find?_some h

/-- A transaction after a change that keeps its tag. -/
theorem txn_modTxn {f : Txn → Txn} (hf : ∀ t, (f t).tag = t.tag) : (p.modTxn tag f).txn tag = (p.txn tag).map f := by
  unfold Part.txn Part.modTxn
  simp only [Part.modTx_tx, modWhere]
  induction p.tx.txns with
  | nil => rfl
  | cons t l ih =>
    rw [List.map_cons]
    by_cases ht : t.tag = tag
    · simp [ht, hf]
    · simpa [ht] using ih

/-! ### A place in the Order Queue -/

/-- An order as it stands in the Order Queue once it has joined. -/
def Order.joined (o : Order) (l : List Order) : Order := { o with id := freeId l, state := .queued, timer := .stopped }

/-- An order that is refused a join (R136, R137). -/
def Order.Refused (o : Order) (waits : List WriteWait) (l : List Order) : Prop := 64 ≤ l.length ∨ behind waits o = true

theorem joins_cons_of_taken {q : List Order} (h : ¬o.Refused waits q) :
    joins waits q (o :: l) = joins waits (q ++ [o.joined q]) l := by
  rw [Order.Refused, not_or, Nat.not_le, Bool.not_eq_true] at h
  exact if_pos h

theorem joins_cons_of_refused {q : List Order} (h : o.Refused waits q) :
    joins waits q (o :: l) = ((joins waits q l).1, o :: (joins waits q l).2) := by
  refine if_neg fun ⟨hlen, hb⟩ => ?_
  rcases h with h | h
  · omega
  · simp [hb] at h

theorem joinOne_of_refused (h : o.Refused p.mp.writeWait p.mp.orders) : p.joinOne o = none := if_pos h

/-- The part after an order has joined: the order stands in the queue, its remap counts it, and what it reads is
pinned. -/
def Part.withJoined (p : Part) (o : Order) : Part :=
  let q := (p.modOrders fun l => l ++ [o.joined l]).modOrderRemap o fun r => { r with orders := r.orders + 1, joined := true }
  if o.op = .read then q.pin o.place o.count else q

theorem joinOne_of_taken (h : ¬o.Refused p.mp.writeWait p.mp.orders) : p.joinOne o = some (p.withJoined o) := if_neg h

@[simp] theorem modOrderRemap_mp (p : Part) (o : Order) (f : Remap → Remap) : (p.modOrderRemap o f).mp = p.mp := by
  unfold Part.modOrderRemap
  split <;> rfl

@[simp] theorem pin_mp (p : Part) (pl : Place) (n : Nat) : (p.pin pl n).mp = p.mp := by
  cases pl <;> rfl

theorem withJoined_mp (p : Part) (o : Order) :
    (p.withJoined o).mp = { p.mp with orders := p.mp.orders ++ [o.joined p.mp.orders] } := by
  unfold Part.withJoined
  dsimp only
  split <;> simp [Part.modOrders]

/-- The pass over a list of orders, with the orders that were refused before it. -/
def Part.joinFold (p : Part) (l acc : List Order) : List Order × Part :=
  l.foldl (fun acc o => match acc.2.joinOne o with
    | some q => (acc.1, q)
    | none => (acc.1 ++ [o], acc.2)) (acc, p)

theorem joinPass_eq (p : Part) (l : List Order) : p.joinPass l = p.joinFold l [] := rfl

theorem joinFold_cons_of_refused {acc : List Order} (h : o.Refused p.mp.writeWait p.mp.orders) :
    p.joinFold (o :: l) acc = p.joinFold l (acc ++ [o]) := by
  unfold Part.joinFold
  rw [List.foldl_cons, joinOne_of_refused h]

theorem joinFold_cons_of_taken {acc : List Order} (h : ¬o.Refused p.mp.writeWait p.mp.orders) :
    p.joinFold (o :: l) acc = (p.withJoined o).joinFold l acc := by
  unfold Part.joinFold
  rw [List.foldl_cons, joinOne_of_taken h]

/-- The orders that are refused, and the Media Port after the pass. -/
theorem joinFold_spec (l : List Order) : ∀ (p : Part) (acc : List Order),
    (p.joinFold l acc).1 = acc ++ (joins p.mp.writeWait p.mp.orders l).2 ∧
    (p.joinFold l acc).2.mp = { p.mp with orders := (joins p.mp.writeWait p.mp.orders l).1 } := by
  induction l with
  | nil => exact fun p acc => ⟨(List.append_nil _).symm, rfl⟩
  | cons o l ih =>
    intro p acc
    by_cases h : o.Refused p.mp.writeWait p.mp.orders
    · rw [joinFold_cons_of_refused h, joins_cons_of_refused h]
      simpa using ih p (acc ++ [o])
    · rw [joinFold_cons_of_taken h, joins_cons_of_taken h]
      simpa [withJoined_mp] using ih (p.withJoined o) acc

/-- A property that every join keeps holds after the pass. -/
theorem joinFold_induction {P : Part → Prop} (l : List Order) (hP : ∀ q, ∀ o ∈ l, P q → P (q.withJoined o)) :
    ∀ (p : Part) (acc : List Order), P p → P (p.joinFold l acc).2 := by
  induction l with
  | nil => exact fun p acc h => h
  | cons o l ih =>
    intro p acc hp
    have ih := ih fun q o ho => hP q o (List.mem_cons_of_mem _ ho)
    by_cases h : o.Refused p.mp.writeWait p.mp.orders
    · rw [joinFold_cons_of_refused h]
      exact ih p _ hp
    · rw [joinFold_cons_of_taken h]
      exact ih _ _ (hP p o List.mem_cons_self hp)

/-! ### An owner's joins -/

theorem setToJoin_mp (p : Part) (w : Owner) (l : List Order) : (p.setToJoin w l).mp = { p.mp with
    writeWait := (p.mp.writeWait.filter fun e => decide (e.owner ≠ w)) ++ waitEntries w l } := by
  cases w <;> rfl

theorem joinList_eq (p : Part) (w : Owner) (l : List Order) : p.joinList w l =
    let q := (p.joinPass l).2.setToJoin w (joins p.mp.writeWait p.mp.orders l).2
    if (joins p.mp.writeWait p.mp.orders l).2 = [] then q else q.modMp fun m => { m with waiting := addNew m.waiting w } := by
  have h : (p.joinPass l).1 = (joins p.mp.writeWait p.mp.orders l).2 := by
    rw [joinPass_eq, (joinFold_spec l p []).1, List.nil_append]
  unfold Part.joinList
  dsimp only
  rw [h]
  simp only [List.isEmpty_iff]

/-- The Media Port after an owner has asked for its joins. -/
theorem joinList_mp (p : Part) (w : Owner) (l : List Order) : (p.joinList w l).mp = joinedPort p.mp w l := by
  have h : (p.joinPass l).2.mp = { p.mp with orders := (joins p.mp.writeWait p.mp.orders l).1 } := by
    rw [joinPass_eq, (joinFold_spec l p []).2]
  rw [joinList_eq]
  dsimp only
  unfold joinedPort
  split
  · next hnil => simp [setToJoin_mp, h, hnil]
  · next hne => simp [setToJoin_mp, h, hne, addNew]

theorem joinOrders_eq (p : Part) (w : Owner) (new : List Order) : p.joinOrders w new = p.joinList w (p.toJoin w ++ new) := rfl

theorem toJoin_txn {t : Txn} (h : p.txn tag = some t) : p.toJoin (.txn tag) = t.toJoin := by
  rw [Part.toJoin, h]

/-- A pass over orders of transactions changes, beside the Media Port, only pins. -/
theorem sameWork_joinPass (hl : ∀ o ∈ l, ∃ t, o.owner = .txn t) (p : Part) :
    p.SameWork { (p.joinPass l).2 with mp := p.mp } := by
  rw [joinPass_eq]
  refine joinFold_induction (P := fun q => p.SameWork { q with mp := p.mp }) l (fun q o ho hq => ?_) p [] (.refl p)
  obtain ⟨t, ht⟩ := hl o ho
  have key : ∀ f, (q.modOrders fun l => l ++ [o.joined l]).modOrderRemap o f = q.modOrders fun l => l ++ [o.joined l] := by
    intro f
    unfold Part.modOrderRemap Part.remapKey
    rw [ht]
  unfold Part.withJoined
  rw [key]
  dsimp only
  split
  · have hpin := sameWork_pin (l := o.place) (n := o.count) hq
    cases hp : o.place <;> rw [hp] at hpin <;> exact hpin
  · exact hq

/-- A pass over orders of transactions that read nothing changes the Media Port only. -/
theorem joinPass_of_writes (hl : ∀ o ∈ l, o.op ≠ .read ∧ ∃ t, o.owner = .txn t) (p : Part) :
    (p.joinPass l).2 = { p with mp := { p.mp with orders := (joins p.mp.writeWait p.mp.orders l).1 } } := by
  have only : (p.joinPass l).2 = { p with mp := (p.joinPass l).2.mp } := by
    rw [joinPass_eq]
    refine joinFold_induction (P := fun q => q = { p with mp := q.mp }) l (fun q o ho hq => ?_) p [] rfl
    obtain ⟨hread, t, ht⟩ := hl o ho
    have key : q.withJoined o = q.modOrders fun l => l ++ [o.joined l] := by
      unfold Part.withJoined Part.modOrderRemap Part.remapKey
      rw [ht]
      exact if_neg hread
    rw [key, hq]
    rfl
  rw [only, joinPass_eq, (joinFold_spec l p []).2]

/-- A pass leaves the channels as they are. -/
theorem joinPass_re (l : List Order) (p : Part) : (p.joinPass l).2.re = p.re := by
  rw [joinPass_eq]
  refine joinFold_induction (P := fun q => q.re = p.re) l (fun q o _ hq => ?_) p [] rfl
  have remap : ∀ r : Part, ∀ f, (r.modOrderRemap o f).re = r.re := fun r f => by
    unfold Part.modOrderRemap
    split <;> rfl
  have pinned : ∀ r : Part, (r.pin o.place o.count).re = r.re := fun r => by
    cases o.place <;> rfl
  unfold Part.withJoined
  dsimp only
  split
  · rw [pinned, remap]
    exact hq
  · rw [remap]
    exact hq

/-! ### Joins that are all taken -/

theorem behind_eq_true : behind waits o = true ↔
    o.op = .write ∧ ∃ b off, o.place = .band b off ∧ ∃ e ∈ waits, e.owner ≠ o.owner ∧ e.band = b ∧ e.off < off := by
  unfold behind
  cases o.op <;> cases o.place <;> simp
  grind

/-- Orders of one list that stand in the Order Queue as those of another asked to join. -/
def JoinedAs (l new : List Order) : Prop :=
  List.Forall₂ (fun o x => ∃ i, x = { o with id := i, state := .queued, timer := .stopped }) l new

/-- Orders that write nothing all join where the queue has a place for each. -/
theorem joins_of_room (hl : ∀ o ∈ l, o.op ≠ .write) : ∀ {q : List Order}, q.length + l.length ≤ 64 →
    ∃ new, joins waits q l = (q ++ new, []) ∧ JoinedAs l new := by
  induction l with
  | nil => exact fun {q} _ => ⟨[], by simp [joins], .nil⟩
  | cons o l ih =>
    intro q hlen
    have hb : ¬o.Refused waits q := by
      rintro (h | h)
      · simp at hlen
        omega
      · exact hl o (by simp) (behind_eq_true.1 h).1
    obtain ⟨new, hnew, has⟩ := ih (fun x hx => hl x (by simp [hx])) (q := q ++ [o.joined q]) (by simp at hlen ⊢; omega)
    exact ⟨o.joined q :: new, by rw [joins_cons_of_taken hb, hnew]; simp, .cons ⟨freeId q, rfl⟩ has⟩

end Sys2Proof.Machine
end

section
/-! SUPPORT. The places of the Order Queue that are freed, and those who wait for them (R136, R137, R156). -/

namespace Sys2Proof.Machine

open Sys2Proof Sys2Proof.Spec

variable {s : State} {p q : Part} {w : Owner} {o : Order} {l : List Order} {acc : List WriteWait} {tag c b off : Nat}

/-! ### The write-wait list -/

/-- The write-wait entries of an owner once one more order of its was refused (R137). -/
def noteWait (w : Owner) (acc : List WriteWait) (o : Order) : List WriteWait :=
  match o.op, o.place with
  | .write, .band b off =>
    if acc.any fun e => decide (e.band = b) then
      modWhere (fun e => decide (e.band = b)) (fun e => { e with off := min e.off off }) acc
    else acc ++ [{ owner := w, band := b, off := off }]
  | _, _ => acc

theorem waitEntries_eq (w : Owner) (l : List Order) : waitEntries w l = l.foldl (noteWait w) [] := rfl

theorem noteWait_of_write (ho : o.op = .write) (hp : o.place = .band b off) : noteWait w acc o =
    if acc.any fun e => decide (e.band = b) then
      modWhere (fun e => decide (e.band = b)) (fun e => { e with off := min e.off off }) acc
    else acc ++ [{ owner := w, band := b, off := off }] := by
  rw [noteWait, ho, hp]

theorem noteWait_of_other (h : ¬(o.op = .write ∧ ∃ b off, o.place = .band b off)) : noteWait w acc o = acc := by
  unfold noteWait
  cases ho : o.op <;> cases hp : o.place <;> simp [ho, hp] at h ⊢

theorem owner_noteWait (h : ∀ e ∈ acc, e.owner = w) : ∀ e ∈ noteWait w acc o, e.owner = w := by
  by_cases ho : o.op = .write ∧ ∃ b off, o.place = .band b off
  · obtain ⟨hw, b, off, hp⟩ := ho
    rw [noteWait_of_write hw hp, modWhere_eq (fun e : WriteWait => e.band = b)]
    split
    · intro e he
      obtain ⟨x, hx, rfl⟩ := List.mem_map.1 he
      split <;> exact h x hx
    · intro e he
      rcases List.mem_append.1 he with he | he
      · exact h e he
      · rw [List.mem_singleton.1 he]
  · rw [noteWait_of_other ho]
    exact h

/-- An offset of a band waits in a list of write-wait entries below a given one. -/
def WaitsBelow (l : List WriteWait) (b off : Nat) : Prop := ∃ e ∈ l, e.band = b ∧ e.off < off

/-- The order is a WRITE to a band below a given offset. -/
def Order.WritesBelow (o : Order) (b off : Nat) : Prop := o.op = .write ∧ ∃ k, o.place = .band b k ∧ k < off

theorem waitsBelow_noteWait : WaitsBelow (noteWait w acc o) b off ↔ WaitsBelow acc b off ∨ o.WritesBelow b off := by
  by_cases ho : o.op = .write ∧ ∃ b off, o.place = .band b off
  · obtain ⟨hw, b', off', hp⟩ := ho
    have hnew : o.WritesBelow b off ↔ b' = b ∧ off' < off := by
      simp [Order.WritesBelow, hw, hp]
    rw [noteWait_of_write hw hp, modWhere_eq (fun e : WriteWait => e.band = b'), hnew]
    unfold WaitsBelow
    split
    · next h =>
      obtain ⟨x, hx, hb⟩ := List.any_eq_true.1 h
      have hb : x.band = b' := of_decide_eq_true hb
      simp only [List.mem_map]
      constructor
      · rintro ⟨e, ⟨y, hy, rfl⟩, he⟩
        split at he <;> grind
      · rintro (⟨e, he, heb, hoff⟩ | ⟨rfl, hoff⟩)
        · exact ⟨_, ⟨e, he, rfl⟩, by split <;> simp [heb] <;> omega⟩
        · exact ⟨_, ⟨x, hx, rfl⟩, by rw [if_pos hb]; simp [hb, hoff]⟩
    · simp [or_and_right, exists_or]
  · rw [noteWait_of_other ho]
    refine ⟨.inl, fun h => h.resolve_right fun ⟨hw, k, hp, _⟩ => ho ⟨hw, b, k, hp⟩⟩

theorem foldl_noteWait (w : Owner) (l : List Order) (b off : Nat) : ∀ acc : List WriteWait, (∀ e ∈ acc, e.owner = w) →
    (∀ e ∈ l.foldl (noteWait w) acc, e.owner = w) ∧
    (WaitsBelow (l.foldl (noteWait w) acc) b off ↔ WaitsBelow acc b off ∨ ∃ o ∈ l, o.WritesBelow b off) := by
  induction l with
  | nil => exact fun acc h => ⟨h, by simp⟩
  | cons o l ih =>
    intro acc h
    obtain ⟨howner, hbelow⟩ := ih (noteWait w acc o) (owner_noteWait h)
    refine ⟨howner, ?_⟩
    rw [List.foldl_cons, hbelow, waitsBelow_noteWait]
    simp [or_assoc]

/-! ### The lowest free id -/

theorem exists_id_of_lt_freeId (h : l.length < 64) {n : Nat} (hn : n < freeId l) : ∃ o ∈ l, o.id = n := by
  have hcap : freeId l < 64 := (freeId_spec h).1
  have hfind : ((List.range 64).find? fun n => !(l.any fun o => decide (o.id = n))).getD 0 = freeId l := rfl
  cases hf : (List.range 64).find? fun n => !(l.any fun o => decide (o.id = n)) with
  | none =>
    rw [hf] at hfind
    exact absurd hn (by simp [← hfind])
  | some k =>
    rw [hf, Option.getD_some] at hfind
    subst hfind
    obtain ⟨_, i, hi, hik, hall⟩ := List.find?_eq_some_iff_getElem.1 hf
    rw [List.getElem_range] at hik
    simpa using hall n (by omega)

/-! ### Those who were told -/

theorem rejoin_of_not (h : w ∉ p.mp.told ∨ p.sv.reset ≠ none) : p.rejoin w = p := by
  refine if_neg fun ⟨hw, hr⟩ => ?_
  rcases h with h | h
  · exact h hw
  · simp [Part.resetting, h] at hr

/-- The part with an owner no longer told. -/
def Part.untold (p : Part) (w : Owner) : Part := p.modMp fun m => { m with told := without m.told w }

theorem rejoin_txn (h : .txn tag ∈ p.mp.told) (hr : p.sv.reset = none) :
    p.rejoin (.txn tag) = (p.untold (.txn tag)).joinOrders (.txn tag) [] :=
  if_pos ⟨h, by simp [Part.resetting, hr]⟩

theorem rejoin_chan (h : .chan c ∈ p.mp.told) (hr : p.sv.reset = none) :
    p.rejoin (.chan c) = (p.untold (.chan c)).chanRejoin c :=
  if_pos ⟨h, by simp [Part.resetting, hr]⟩

/-- The joins of a transaction that has nothing to read. -/
theorem joinOrders_txn_of_writes {t : Txn} (ht : p.txn tag = some t) (hl : ∀ o ∈ t.toJoin, o.op ≠ .read ∧ o.owner = .txn tag) :
    p.joinOrders (.txn tag) [] = { p with
      mp := joinedPort p.mp (.txn tag) t.toJoin
      tx := { p.tx with txns := p.tx.txns.map fun x => if x.tag = tag then
        { x with toJoin := (joins p.mp.writeWait p.mp.orders t.toJoin).2 } else x } } := by
  have hpass := joinPass_of_writes (l := t.toJoin) (fun o ho => ⟨(hl o ho).1, tag, (hl o ho).2⟩) p
  have hmap := modWhere_eq (fun x : Txn => x.tag = tag) (fun x => { x with
    toJoin := (joins p.mp.writeWait p.mp.orders t.toJoin).2 }) p.tx.txns
  have hmp := joinList_mp p (.txn tag) t.toJoin
  rw [joinOrders_eq, toJoin_txn ht, List.append_nil, ← hmp, joinList_eq, hpass, ← hmap]
  dsimp only
  split <;> rfl

/-- A channel after its joins. -/
theorem chan_joinOrders (hc : c < p.re.chans.length) : (p.joinOrders (.chan c) []).chan c =
    { p.chan c with toJoin := (joins p.mp.writeWait p.mp.orders (p.chan c).toJoin).2 } := by
  have hre := joinPass_re (p.chan c).toJoin p
  have hset : ∀ x, ((p.joinPass (p.chan c).toJoin).2.setToJoin (.chan c) x).chan c = { p.chan c with toJoin := x } := by
    intro x
    refine (chan_modChan (p := (p.joinPass (p.chan c).toJoin).2)).trans ?_
    rw [if_pos ⟨rfl, by rw [hre]; exact hc⟩, Part.chan, hre]
    rfl
  rw [joinOrders_eq, show p.toJoin (.chan c) = (p.chan c).toJoin from rfl, List.append_nil, joinList_eq]
  dsimp only
  split <;> exact hset _

/-! ### The retry of a FETCH (R156) -/

theorem hasPlaces_eq_true {n : Nat} : p.hasPlaces n = true ↔ p.mp.orders.length + n ≤ 64 := decide_eq_true_iff

/-- Orders of a transaction that only read all join, where the queue has a place for each. -/
theorem joinList_txn_of_room {t : Txn} (ht : p.txn tag = some t) (hl : ∀ o ∈ l, o.op ≠ .write ∧ o.owner = .txn tag)
    (hlen : p.mp.orders.length + l.length ≤ 64) : ∃ new, JoinedAs l new ∧
    (p.joinList (.txn tag) l).mp.orders = p.mp.orders ++ new ∧
    (p.joinList (.txn tag) l).tu = p.tu ∧
    (p.joinList (.txn tag) l).txn tag = some { t with toJoin := [] } := by
  obtain ⟨new, hjoin, has⟩ := joins_of_room (waits := p.mp.writeWait) (fun o ho => (hl o ho).1) hlen
  have hwork := sameWork_joinPass (fun o ho => ⟨tag, (hl o ho).2⟩) p
  have htx : (p.joinPass l).2.tx = p.tx := hwork.tx
  have htxn : ((p.joinPass l).2.modTxn tag fun x => { x with toJoin := [] }).txn tag = some { t with toJoin := [] } := by
    rw [txn_modTxn (by exact fun _ => rfl), txn_congr htx, ht]
    rfl
  refine ⟨new, has, by rw [joinList_mp, joinedPort, hjoin], ?_, ?_⟩
  · rw [joinList_eq, hjoin, if_pos rfl]
    exact hwork.tu
  · rw [joinList_eq, hjoin, if_pos rfl]
    exact htxn

theorem runsOf_congr (h : q.bm = p.bm) (x : List Segment) : q.runsOf x = p.runsOf x := by
  rw [Part.runsOf, h, Part.runsOf]

theorem length_fetchOrdersFor (a n : Nat) (retry : Bool) (runs : List LbaRun) :
    (fetchOrdersFor tag a n retry runs).length = runs.length := List.length_map _

theorem exists_of_joinedAs {new : List Order} {x : Order} (h : JoinedAs l new) (hx : x ∈ new) :
    ∃ o ∈ l, ∃ i, x = { o with id := i, state := .queued, timer := .stopped } := by
  induction h with
  | nil => exact absurd hx List.not_mem_nil
  | @cons o y l new hy _ ih =>
    rcases List.mem_cons.1 hx with rfl | hx
    · exact ⟨o, List.mem_cons_self, hy⟩
    · obtain ⟨o', ho', hi⟩ := ih hx
      exact ⟨o', List.mem_cons_of_mem _ ho', hi⟩

/-- What each READ order of a FETCH is, once it has joined. -/
theorem joinedAs_fetchOrdersFor {a n : Nat} {retry : Bool} {runs : List LbaRun} {new : List Order}
    (h : JoinedAs (fetchOrdersFor tag a n retry runs) new) : ∀ x ∈ new, x.op = .read ∧ x.state = .queued ∧
      x.owner = .txn tag ∧ x.handle = n ∧ x.retry = retry ∧ x.bufOff = x.lba - a := by
  intro x hx
  obtain ⟨o, ho, i, rfl⟩ := exists_of_joinedAs h hx
  obtain ⟨r, _, rfl⟩ := List.mem_map.1 ho
  exact ⟨rfl, rfl, rfl, rfl, rfl, rfl⟩

/-- A waiting retry, found by its LBA. -/
structure RetryWaits (p : Part) (tag lba : Nat) (t : Txn) (a n h : Nat) (r : RetryRun) : Prop where
  txn : p.txn tag = some t
  req : t.req = .fetch a n h
  retry : t.retries.find? (fun x => decide (x.lba = lba)) = some r

theorem fetchRetryJoin_eq {lba a n h : Nat} {t : Txn} {r : RetryRun} (hw : RetryWaits p tag lba t a n h r) :
    p.fetchRetryJoin tag lba =
      let runs := p.runsOf (lookup p.tu.extents r.lba r.len)
      if p.hasPlaces runs.length then
        (p.modTxn tag fun x => { x with retries := without x.retries r }).joinOrders (.txn tag)
          (fetchOrdersFor tag a h true runs)
      else p := by
  unfold Part.fetchRetryJoin
  rw [hw.txn]
  dsimp only
  rw [hw.req, hw.retry]
  dsimp only
  split
  · next hp => exact if_pos hp
  · rfl

/-- The READ orders of a FETCH with no order left to join all join, where the queue has a place for each. -/
theorem joinOrders_fetch_of_room {t : Txn} {a h : Nat} {retry : Bool} {runs : List LbaRun} (ht : p.txn tag = some t)
    (hjoin : t.toJoin = []) (hlen : p.mp.orders.length + runs.length ≤ 64) :
    ∃ new, JoinedAs (fetchOrdersFor tag a h retry runs) new ∧
      (p.joinOrders (.txn tag) (fetchOrdersFor tag a h retry runs)).mp.orders = p.mp.orders ++ new ∧
      (p.joinOrders (.txn tag) (fetchOrdersFor tag a h retry runs)).tu = p.tu ∧
      (p.joinOrders (.txn tag) (fetchOrdersFor tag a h retry runs)).txn tag = some t := by
  obtain ⟨new, has, horders, htu, htxn⟩ := joinList_txn_of_room (l := fetchOrdersFor tag a h retry runs) ht
    (fun o ho => by
      obtain ⟨x, _, rfl⟩ := List.mem_map.1 ho
      exact ⟨by simp, rfl⟩)
    (by rw [length_fetchOrdersFor]; exact hlen)
  rw [joinOrders_eq, toJoin_txn ht, hjoin, List.nil_append]
  exact ⟨new, has, horders, htu, htxn.trans (by rw [← hjoin])⟩

theorem fetchRetryJoin_of_room {lba a n h : Nat} {t : Txn} {r : RetryRun} (hw : RetryWaits p tag lba t a n h r)
    (hjoin : t.toJoin = []) (hlen : p.mp.orders.length + (p.runsOf (lookup p.tu.extents r.lba r.len)).length ≤ 64) :
    ∃ new, JoinedAs (fetchOrdersFor tag a h true (p.runsOf (lookup p.tu.extents r.lba r.len))) new ∧
      (p.fetchRetryJoin tag lba).mp.orders = p.mp.orders ++ new ∧
      (p.fetchRetryJoin tag lba).txn tag = some { t with retries := t.retries.filter fun x => decide (x ≠ r) } := by
  have ht : (p.modTxn tag fun x => { x with retries := without x.retries r }).txn tag =
      some { t with retries := t.retries.filter fun x => decide (x ≠ r) } := by
    rw [txn_modTxn (by exact fun _ => rfl), hw.txn]
    rfl
  rw [fetchRetryJoin_eq hw]
  dsimp only
  rw [if_pos (hasPlaces_eq_true.2 hlen)]
  obtain ⟨new, has, horders, -, htxn⟩ := joinOrders_fetch_of_room (a := a) (h := h) (retry := true) ht hjoin hlen
  exact ⟨new, has, horders, htxn⟩

/-- Settles O54. -/
theorem freedPlacesAreTakenByThoseWhoWait : Obligations.FreedPlacesAreTakenByThoseWhoWait := by
  unfold Obligations.FreedPlacesAreTakenByThoseWhoWait
  refine ⟨fun s hs hr => ⟨?_, ?_, ?_, ?_⟩, fun waits o => behind_eq_true, fun w l b off => ?_, fun l h => ?_, fun p => rfl⟩
  · exact fun w h => taken_of_idle (f := fun p => p.rejoin w) hs hr (rejoin_of_not h)
  · intro tag t hreset htold ht hl
    refine taken_of_sameStored (f := fun p => p.rejoin (.txn tag)) hs hr ((rejoin_txn htold hreset).trans
      (joinOrders_txn_of_writes (p := s.part.untold (.txn tag)) ht hl)) ⟨rfl, rfl, rfl⟩
  · intro c hreset htold
    refine ⟨?_, ?_, fun hc => chan_joinOrders (p := s.part.untold (.chan c)) hc⟩
    · refine (taken_eq_after hs _).trans ?_
      rw [rejoin_chan htold hreset]
      rfl
    · dsimp only
      rw [joinOrders_eq, List.append_nil, joinList_mp]
      rfl
  · intro tag lba t a n h r hstill hreset ht _ hreq hjoin hretry
    have hw : RetryWaits s.part tag lba t a n h r := ⟨ht, hreq, hretry⟩
    have hun : s.part.unlessReset (fun p => p.fetchRetryJoin tag lba) = s.part.fetchRetryJoin tag lba :=
      if_neg (by simp [Part.resetting, hreset])
    refine ⟨fun hfull => ?_, fun hroom => ?_⟩
    · refine taken_of_idle (f := fun p => p.unlessReset fun p => p.fetchRetryJoin tag lba) hs hr (hun.trans ?_)
      rw [fetchRetryJoin_eq hw]
      exact if_neg (fun hp => by rw [hasPlaces_eq_true] at hp; omega)
    · obtain ⟨new, has, horders, htxn⟩ := fetchRetryJoin_of_room hw hjoin hroom
      have hst : (s.part.fetchRetryJoin tag lba).Still := still_fetchRetryJoin hstill
      refine ⟨_, new, (taken_eq_after hs _).trans (by rw [hun]), ?_, ?_, ?_, joinedAs_fetchOrdersFor has⟩
      · rw [after_mp_of_still hst, horders]
      · rw [← List.Forall₂.length_eq has, length_fetchOrdersFor]
      · rw [txn_congr (after_tx_of_still hst), htxn]
  · exact ⟨(foldl_noteWait w l b off [] (by simp)).1, (foldl_noteWait w l b off [] (by simp)).2.trans (by
      simp [WaitsBelow, Order.WritesBelow])⟩
  · exact ⟨(freeId_spec h).1, (freeId_spec h).2, fun n => exists_id_of_lt_freeId h⟩

end Sys2Proof.Machine
end

section
/-! SUPPORT. Orders that leave the Order Queue: the withdrawal of QUEUED orders (R143), the outcomes that are fixed
(R157), and what the reports and timeouts of a FETCH's orders do (R155, R156). -/

namespace Sys2Proof.Machine

open Sys2Proof Sys2Proof.Spec

variable {s : State} {p q : Part} {o : Order} {t : Txn} {tag b : Nat}

/-! ### What neither a withdrawal nor the bands touch -/

/-- The parts of a state that the owners' reports read: the map, the transactions, the orders and what is sent. -/
structure Part.SameOwners (p q : Part) : Prop where
  tu : q.tu = p.tu
  tx : q.tx = p.tx
  orders : q.mp.orders = p.mp.orders
  sent : q.mp.tx = p.mp.tx

theorem Part.SameOwners.trans {r : Part} (h : p.SameOwners q) (k : q.SameOwners r) : p.SameOwners r :=
  ⟨k.tu.trans h.tu, k.tx.trans h.tx, k.orders.trans h.orders, k.sent.trans h.sent⟩

theorem Part.SameWork.owners (h : p.SameWork q) : p.SameOwners q := by
  obtain ⟨f, r, hm⟩ := h.mp
  exact ⟨h.tu, h.tx, by rw [hm], by rw [hm]⟩

theorem sameOwners_placeFreed (p : Part) : p.SameOwners p.placeFreed := ⟨rfl, rfl, rfl, rfl⟩

theorem sameOwners_after (h : p.Still) : p.SameOwners (after s p).part :=
  ⟨after_tu_of_still h, after_tx_of_still h, by rw [after_mp_of_still h], by rw [after_mp_of_still h]⟩

theorem sameOwners_drainAll (h : p.Still) : p.SameOwners p.drainAll := by
  rw [drainAll_of_still h]
  exact ⟨rfl, rfl, rfl, rfl⟩

theorem sameOwners_countRaise (p : Part) (c : Nat) (g : Tally → Tally) (f : EventBits) :
    p.SameOwners ((p.count c g).raise f) := (sameWork_raise (sameWork_count (.refl p))).owners

theorem sameWork_unpinOrder (p : Part) (o : Order) : p.SameWork (p.unpinOrder o) := by
  unfold Part.unpinOrder
  split
  · exact sameWork_unpin (.refl p)
  · exact .refl p

/-! ### Withdrawal (R143) -/

theorem modOrderRemap_of_txn (ho : o.owner = .txn tag) (p : Part) (f : Remap → Remap) : p.modOrderRemap o f = p := by
  unfold Part.modOrderRemap Part.remapKey
  rw [ho]

/-- What an order of a transaction gives back is its pin. -/
theorem sameWork_giveBack (ho : o.owner = .txn tag) (h : p.SameWork q) : p.SameWork (q.giveBack o) := by
  unfold Part.giveBack
  rw [modOrderRemap_of_txn ho]
  dsimp only
  split
  · exact sameWork_unpin h
  · exact h

/-- The orders left by a withdrawal of a transaction's QUEUED orders. -/
def withdrawn (tag : Nat) (l : List Order) : List Order :=
  l.filter fun x => !(decide (x.state = .queued) && decide (x.owner = .txn tag))

/-- The withdrawal of a transaction's QUEUED orders. -/
theorem withdraw_txn (p : Part) (tag : Nat) :
    (p.modOrders (withdrawn tag)).SameOwners (p.withdraw fun o => decide (o.owner = .txn tag)) := by
  unfold Part.withdraw
  dsimp only
  split
  · next hnil =>
    have hall : withdrawn tag p.mp.orders = p.mp.orders := by
      refine List.filter_eq_self.2 fun x hx => ?_
      have := List.filter_eq_nil_iff.1 (List.isEmpty_iff.1 hnil) x hx
      simpa [Order.queued, imp_iff_not_or] using this
    exact ⟨rfl, rfl, hall.symm, rfl⟩
  · have hfold : ∀ (l : List Order) (q : Part), (∀ o ∈ l, o.owner = .txn tag) →
        q.SameWork (l.foldl Part.giveBack q) := by
      intro l
      induction l with
      | nil => exact fun q _ => .refl q
      | cons o l ih =>
        intro q hl
        exact (sameWork_giveBack (hl o List.mem_cons_self) (.refl q)).trans (ih _ fun x hx => hl x (List.mem_cons_of_mem _ hx))
    refine (hfold _ _ fun o ho => ?_).owners.trans (sameOwners_placeFreed _)
    have := (List.mem_filter.1 ho).2
    simp only [Bool.and_eq_true, decide_eq_true_eq] at this
    exact this.2

/-- A transaction once its outcome is fixed, and the orders that are left. -/
theorem fixOutcome_spec (ht : p.txn tag = some t) (r : Result) (lba : Option Nat) :
    (p.fixOutcome tag r lba).txn tag = some { t with outcome := some r, failLba := lba, retries := [], toJoin := [] } ∧
    (p.fixOutcome tag r lba).mp.orders = withdrawn tag p.mp.orders ∧
    (p.fixOutcome tag r lba).mp.tx = p.mp.tx ∧ (p.fixOutcome tag r lba).tu = p.tu := by
  have h := withdraw_txn (((p.modTxn tag fun t => { t with outcome := some r, failLba := lba, retries := [] }).setToJoin
    (.txn tag) []).modMp fun m => { m with
      waiting := without m.waiting (.txn tag), told := without m.told (.txn tag) }) tag
  refine ⟨(txn_congr h.tx tag).trans ?_, h.orders, h.sent, h.tu⟩
  refine (txn_modTxn (p := p.modTxn tag fun t => { t with outcome := some r, failLba := lba, retries := [] })
    (f := fun x => { x with toJoin := [] }) (fun _ => rfl)).trans ?_
  rw [txn_modTxn (by exact fun _ => rfl), ht]
  rfl

theorem mem_withdrawn {l : List Order} {x : Order} (hx : x ∈ l) (hs : x.state ≠ .queued) : x ∈ withdrawn tag l :=
  List.mem_filter.2 ⟨hx, by simp [hs]⟩

/-! ### The end of a FETCH (R155) -/

/-- A FETCH does not end while an order of its is outstanding. -/
theorem fetchEnd_of_outstanding {x : Order} (hx : x ∈ p.mp.orders) (hw : x.owner = .txn tag) : p.fetchEnd tag = p := by
  have hpos : 0 < p.outstanding (.txn tag) := List.countP_pos_iff.2 ⟨x, hx, by simp [hw]⟩
  unfold Part.fetchEnd
  split
  · exact if_neg fun h => by omega
  · rfl

theorem fetchTimeout_first (ho : o.retry = false) : p.fetchTimeout t o = p.fetchEnd t.tag := by
  unfold Part.fetchTimeout
  rw [if_neg (by simp [ho])]

theorem fetchTimeout_retry (h : t.outcome = none) (ho : o.retry = true) :
    p.fetchTimeout t o = (p.fixOutcome t.tag .timeout (some o.lba)).fetchEnd t.tag := by
  unfold Part.fetchTimeout
  rw [if_pos (by simp [h, ho])]

theorem tellTimeout_fetch {a n h : Nat} (hw : o.owner = .txn tag) (ht : p.txn tag = some t) (hreq : t.req = .fetch a n h) :
    p.tellTimeout o = p.fetchTimeout t o := by
  unfold Part.tellTimeout
  rw [hw]
  dsimp only
  unfold Part.txnTimeout
  rw [ht]
  dsimp only
  rw [hreq]

/-! ### The timeout of an order of a FETCH (R144, R156) -/

/-- The part when the owner of an order that has timed out is told. -/
def Part.timedOut (p : Part) (id : Nat) (o : Order) : Part := ((p.sendCancel id).unpinOrder o).orderError o

theorem sameOwners_timedOut (p : Part) (id : Nat) (o : Order) : (p.sendCancel id).SameOwners (p.timedOut id o) :=
  (sameWork_orderError (sameWork_unpinOrder _ o)).owners

theorem sendCancel_orders (p : Part) (id : Nat) : (p.sendCancel id).mp.orders = p.mp.orders.map fun x =>
    if x.id = id then { x with
      state := .cancelling, timer := { state := .running, elapsed := 0, limit := p.sv.settings.orderTimeout } } else x :=
  modWhere_eq (fun x : Order => x.id = id) _ _

/-- An order whose CANCEL was sent stands in the queue as CANCELLING. -/
theorem exists_cancelling {id : Nat} (ho : p.order id = some o) : ∃ x ∈ (p.sendCancel id).mp.orders,
    x.owner = o.owner ∧ x.state = .cancelling := by
  have hid : o.id = id := by simpa using List.find?_some ho
  rw [sendCancel_orders]
  exact ⟨_, List.mem_map_of_mem (List.mem_of_find?_eq_some ho), by simp [hid], by simp [hid]⟩

/-- An event flag that was just raised is up after the event. -/
theorem events_after_raise (h : p.Still) (f : EventBits) : (after s (p.raise f)).part.sv.events &&& f = f := by
  rw [after_sv_of_still (still_raise h), Part.raise_sv]
  ext i hi
  simp only [BitVec.getElem_and, BitVec.getElem_or]
  cases p.sv.events[i] <;> simp

theorem cancelAgain_eq {id : Nat} (ho : p.order id = some o) :
    p.cancelAgain id = if o.state = .cancelling ∧ o.timer.due then p.sendCancel id else p := by
  unfold Part.cancelAgain
  rw [ho]

/-- Settles O48. -/
theorem timedOutOrderIsCancelled : Obligations.TimedOutOrderIsCancelled := by
  intro s id o hs hr ho
  dsimp only
  rw [← sendCancel_orders]
  refine ⟨?_, fun hc hrun hlim => ?_, fun h => ?_⟩
  · intro tag t a n h hstill hissued hrun hlim hread hw ht htag hreq hout
    have hexec := (reportsAndTimeoutsActInTheirOrder s id o hs hr ho).2.2.1 hissued hrun hlim
    have hsame : (s.part.sendCancel id).SameOwners (s.part.timedOut id o) := sameOwners_timedOut s.part id o
    have htxn : (s.part.timedOut id o).txn tag = some t := (txn_congr hsame.tx tag).trans ht
    obtain ⟨x, hx, hxw, hxs⟩ := exists_cancelling ho
    have htold : ((s.part.timedOut id o).tellTimeout o).Still := by
      rw [tellTimeout_fetch hw htxn hreq]
      exact still_fetchTimeout (still_orderError (still_unpinOrder (still_sendCancel hstill)))
    have hdrained : ((s.part.timedOut id o).tellTimeout o).drainAll.Still := by
      rw [drainAll_of_still htold]
      exact htold
    have hend := (sameOwners_drainAll htold).trans ((sameOwners_countRaise _ o.cls Tally.addFault evOrderTimeout).trans
      (sameOwners_after (s := s) (still_raise (still_count hdrained))))
    have hfirst : o.retry = false → (s.part.timedOut id o).tellTimeout o = s.part.timedOut id o := fun hretry => by
      rw [tellTimeout_fetch hw htxn hreq, fetchTimeout_first hretry, htag]
      exact fetchEnd_of_outstanding (hsame.orders ▸ hx) (hxw.trans hw)
    have hagain : o.retry = true →
        (s.part.timedOut id o).tellTimeout o = (s.part.timedOut id o).fixOutcome tag .timeout (some o.lba) := fun hretry => by
      rw [tellTimeout_fetch hw htxn hreq, fetchTimeout_retry hout hretry, htag]
      obtain ⟨-, horders, -, -⟩ := fixOutcome_spec htxn .timeout (some o.lba)
      refine fetchEnd_of_outstanding (x := x) ?_ (hxw.trans hw)
      rw [horders, hsame.orders]
      exact mem_withdrawn hx (by simp [hxs])
    obtain ⟨hfixTxn, hfixOrders, hfixSent, -⟩ := fixOutcome_spec htxn .timeout (some o.lba)
    refine ⟨_, hexec, hend.sent.trans ?_, events_after_raise (still_count hdrained) _, fun hretry => ?_, fun hretry => ?_⟩
    · cases hretry : o.retry with
      | false => exact (congrArg (fun q => q.mp.tx) (hfirst hretry)).trans hsame.sent
      | true => exact (congrArg (fun q => q.mp.tx) (hagain hretry)).trans (hfixSent.trans hsame.sent)
    · exact ⟨hend.orders.trans ((congrArg (fun q => q.mp.orders) (hfirst hretry)).trans hsame.orders),
        (txn_congr hend.tx tag).trans ((congrArg (fun q => q.txn tag) (hfirst hretry)).trans htxn)⟩
    · refine ⟨hend.orders.trans ((congrArg (fun q => q.mp.orders) (hagain hretry)).trans
          (hfixOrders.trans (by rw [hsame.orders, withdrawn]))),
        { t with outcome := some .timeout, failLba := some o.lba, retries := [], toJoin := [] }, ?_, rfl, rfl, rfl⟩
      exact (txn_congr hend.tx tag).trans ((congrArg (fun q => q.txn tag) (hagain hretry)).trans hfixTxn)
  · refine (heard_eq_tell hs fun p => p.cancelAgain id).trans ?_
    rw [cancelAgain_eq ho, if_pos ⟨hc, due_eq_true.2 ⟨hrun, hlim⟩⟩]
    rfl
  · refine (heard_eq_tell hs fun p => p.cancelAgain id).trans ?_
    rw [cancelAgain_eq ho, if_neg fun hc => h ⟨hc.1, due_eq_true.1 hc.2⟩]

end Sys2Proof.Machine
end

section
/-! SUPPORT. The runs of the map as long as no band is rewound (R16, R32), and the reports on a FETCH's orders. -/

namespace Sys2Proof.Machine

open Sys2Proof Sys2Proof.Spec

variable {s : State} {p q : Part} {o : Order} {t : Txn} {tag b n : Nat}

/-! ### The geometry and the retired tracks -/

/-- The geometry and the retired tracks, of which the cutting of runs depends, are the same. -/
def Part.SameTracks (p q : Part) : Prop := q.bm.geom = p.bm.geom ∧ q.bm.retired = p.bm.retired

theorem Part.SameTracks.trans {r : Part} (h : p.SameTracks q) (k : q.SameTracks r) : p.SameTracks r :=
  ⟨k.1.trans h.1, k.2.trans h.2⟩

theorem Part.SameTracks.of_bm (h : q.bm = p.bm) : p.SameTracks q := ⟨by rw [h], by rw [h]⟩

theorem skips_congr {m k : BandManager} (hg : k.geom = m.geom) (hr : k.retired = m.retired) (b : Nat) :
    skips k b = skips m b := by
  rw [skips, skips, hg, hr]

theorem stgSkips_congr {m k : BandManager} (hg : k.geom = m.geom) (hr : k.retired = m.retired) :
    stgSkips k = stgSkips m := by
  rw [stgSkips, stgSkips, hg, hr]

theorem cut_congr {m k : BandManager} (hg : k.geom = m.geom) (hr : k.retired = m.retired) (pl : Place) (len : Nat) :
    cut k pl len = cut m pl len := by
  cases pl with
  | band b off => simp only [cut, skips_congr hg hr, hg]
  | log pos => simp only [cut, stgSkips_congr hg hr, hg]

theorem Part.SameTracks.runsOf (h : p.SameTracks q) (l : List Segment) : q.runsOf l = p.runsOf l := by
  unfold Part.runsOf
  refine congrArg List.flatten (List.map_congr_left fun x _ => ?_)
  cases x with
  | hole => rfl
  | mapped => simp only [cut_congr h.1 h.2]

/-! ### A band that holds mapped blocks is not released -/

theorem lt_bands_of_valid (h : 0 < (p.band b).valid) : b < p.bm.bands.length := by
  by_contra hl
  rw [Part.band, List.getD_eq_default _ _ (by omega)] at h
  exact absurd h (by decide)

theorem band_modBand_self {f : Band → Band} (h : b < p.bm.bands.length) : (p.modBand b f).band b = f (p.band b) := by
  rw [Part.band_modBand, if_pos ⟨rfl, h⟩]

theorem valid_modBand {f : Band → Band} (hf : ∀ r, (f r).valid = r.valid) (c : Nat) :
    ((p.modBand b f).band c).valid = (p.band c).valid := by
  rw [Part.band_modBand]
  split
  · next h => rw [hf, h.1]
  · rfl

theorem releaseCheck_of_valid (h : 0 < (p.band b).valid) : p.releaseCheck b = p := by
  refine if_neg fun hr => ?_
  have : (p.band b).valid = 0 := (releasable_eq_true.1 hr.2).1
  omega

/-- The tracks, and the blocks in use of the bands, are the same. -/
def Part.SameBlocks (p q : Part) : Prop := p.SameTracks q ∧ ∀ c, (q.band c).valid = (p.band c).valid

theorem Part.SameBlocks.refl (p : Part) : p.SameBlocks p := ⟨⟨rfl, rfl⟩, fun _ => rfl⟩

theorem Part.SameBlocks.trans {r : Part} (h : p.SameBlocks q) (k : q.SameBlocks r) : p.SameBlocks r :=
  ⟨h.1.trans k.1, fun c => (k.2 c).trans (h.2 c)⟩

theorem sameBlocks_of_bm (h : q.bm = p.bm) : p.SameBlocks q := ⟨.of_bm h, fun c => congrArg Band.valid (Part.band_congr (by rw [h]) c)⟩

theorem sameBlocks_modBand {f : Band → Band} (hf : ∀ r, (f r).valid = r.valid) : p.SameBlocks (p.modBand b f) :=
  ⟨⟨rfl, rfl⟩, valid_modBand hf⟩

theorem sameBlocks_releaseCheck (h : 0 < (p.band b).valid) : p.SameBlocks (p.releaseCheck b) := by
  rw [releaseCheck_of_valid h]
  exact .refl p

theorem sameBlocks_unpinBand (h : 0 < (p.band b).valid) : p.SameBlocks (p.unpinBand b) := by
  have hmod : p.SameBlocks (p.modBand b fun r => { r with pins := r.pins - 1 }) := sameBlocks_modBand fun _ => rfl
  refine hmod.trans ?_
  unfold Part.unpinBand Part.dropCount Part.countFell
  rw [releaseCheck_of_valid (by rw [hmod.2]; exact h)]
  dsimp only
  split <;> exact .refl _

theorem sameBlocks_loseOwner (p : Part) (b : Nat) : p.SameBlocks (p.loseOwner b) := by
  have hmod : p.SameBlocks (p.modBand b fun r => { r with owner := none }) := sameBlocks_modBand fun _ => rfl
  exact hmod.trans (sameBlocks_of_bm (by rw [Part.loseOwner_bm]; rfl))

/-- What binds a band for retirement: its record and a flag change, and no check releases it. -/
theorem sameBlocks_bind {f : Band → Band} (hf : ∀ r, (f r).valid = r.valid) (h : 0 < (p.band b).valid) :
    p.SameBlocks (((p.modBand b f).raise evBandSuspect).releaseCheck b) := by
  have hmod : p.SameBlocks ((p.modBand b f).raise evBandSuspect) :=
    (sameBlocks_modBand hf).trans (sameBlocks_of_bm (Part.raise_bm _ _))
  exact hmod.trans (sameBlocks_releaseCheck (by rw [hmod.2]; exact h))

theorem sameBlocks_bindSuspect (h : 0 < (p.band b).valid) : p.SameBlocks (p.bindSuspect b) := by
  unfold Part.bindSuspect
  split
  · have hlose := sameBlocks_loseOwner p b
    exact hlose.trans (sameBlocks_bind (by exact fun _ => rfl) (by rw [hlose.2]; exact h))
  · have hunpark : p.SameBlocks (p.unpark b) := ⟨⟨rfl, rfl⟩, fun _ => rfl⟩
    exact hunpark.trans (sameBlocks_bind (by exact fun _ => rfl) h)
  · exact sameBlocks_bind (by exact fun _ => rfl) h
  · exact sameBlocks_modBand fun _ => rfl
  · exact .refl p
  · exact .refl p
  · exact .refl p

theorem sameBlocks_bandError (h : 0 < (p.band b).valid) : p.SameBlocks (p.bandError b) := by
  have hmod : p.SameBlocks (p.modBand b fun r => { r with errors := satAdd 255 r.errors 1 }) := sameBlocks_modBand fun _ => rfl
  unfold Part.bandError
  dsimp only
  split
  · exact hmod.trans (sameBlocks_bindSuspect (by rw [hmod.2]; exact h))
  · exact hmod

/-- An order whose band, if it has one, holds mapped blocks. -/
def Part.BlocksUnder (p : Part) (o : Order) : Prop := ∀ b off, o.place = .band b off → 0 < (p.band b).valid

theorem freeRuns_bm (p : Part) (a n : Nat) (g : Run → Bool) (f : Run → Run) : (p.freeRuns a n g f).bm = p.bm := by
  unfold Part.freeRuns
  split
  · exact Part.tailCheck_bm _
  · rfl

theorem sameBlocks_unpinOrder (h : p.BlocksUnder o) : p.SameBlocks (p.unpinOrder o) := by
  unfold Part.unpinOrder
  split
  · cases hp : o.place with
    | band b off => exact sameBlocks_unpinBand (h b off hp)
    | log pos => exact sameBlocks_of_bm (freeRuns_bm _ _ _ _ _)
  · exact .refl p

theorem sameBlocks_orderError (h : p.BlocksUnder o) : p.SameBlocks (p.orderError o) := by
  unfold Part.orderError Order.band
  cases hp : o.place with
  | band b off => exact sameBlocks_bandError (h b off hp)
  | log pos => exact .refl p

/-! ### The report on an order of a FETCH (R142, R155) -/

/-- The part when the owner of an ISSUED order is told a status. -/
def Part.reported (p : Part) (o : Order) (st : ReportStatus) : Part :=
  let queue := (p.removeOrder o.id).unpinOrder o
  if st = .fault then queue.orderError o else queue

/-- The part when the waiting owners have been told, from the part its owner left. -/
def Part.talliedReport (p : Part) (o : Order) (st : ReportStatus) : Part :=
  (if st = .fault then (p.drainAll.count o.cls Tally.addFault).raise evMediaErr else p.drainAll).placeFreed

theorem issuedReport_reported {st : ReportStatus} {done : Nat} {r : ReportStatus × Nat}
    (hr : settleStatus st done o.count = r) :
    p.issuedReport o st done = ((p.reported o r.1).tellReport o r.1 r.2).talliedReport o r.1 := issuedReport_eq hr

theorem sameWork_reported (p : Part) (o : Order) (st : ReportStatus) : (p.removeOrder o.id).SameWork (p.reported o st) := by
  have h := sameWork_unpinOrder (p.removeOrder o.id) o
  unfold Part.reported
  dsimp only
  split
  · exact sameWork_orderError h
  · exact h

theorem still_reported (h : p.Still) (st : ReportStatus) : (p.reported o st).Still := by
  have h := still_unpinOrder (o := o) (still_removeOrder (i := o.id) h)
  unfold Part.reported
  dsimp only
  split
  · exact still_orderError h
  · exact h

theorem sameTracks_reported (h : p.BlocksUnder o) (st : ReportStatus) : p.SameTracks (p.reported o st) := by
  have hunpin : p.SameBlocks ((p.removeOrder o.id).unpinOrder o) := sameBlocks_unpinOrder (p := p.removeOrder o.id) h
  unfold Part.reported
  dsimp only
  split
  · exact (hunpin.trans (sameBlocks_orderError fun b off hp => by rw [hunpin.2]; exact h b off hp)).1
  · exact hunpin.1

theorem still_talliedReport (h : p.Still) (st : ReportStatus) : (p.talliedReport o st).Still := by
  have h : p.drainAll.Still := by
    rw [drainAll_of_still h]
    exact h
  unfold Part.talliedReport
  split
  · exact still_placeFreed (still_raise (still_count h))
  · exact still_placeFreed h

/-- What the owner's rules brought about stands after the event. -/
theorem sameOwners_after_talliedReport (h : p.Still) (st : ReportStatus) :
    p.SameOwners (after s (p.talliedReport o st)).part := by
  refine Part.SameOwners.trans ?_ (sameOwners_after (still_talliedReport h st))
  have hdrain := sameOwners_drainAll h
  unfold Part.talliedReport
  split
  · exact hdrain.trans ((sameOwners_countRaise _ _ _ _).trans (sameOwners_placeFreed _))
  · exact hdrain.trans (sameOwners_placeFreed _)

theorem tellReport_fetch {a n h : Nat} {st : ReportStatus} {done : Nat} (hw : o.owner = .txn tag) (ht : p.txn tag = some t)
    (hreq : t.req = .fetch a n h) : p.tellReport o st done = p.fetchReport t a h o st done := by
  unfold Part.tellReport
  rw [hw]
  dsimp only
  unfold Part.txnReport
  rw [ht]
  dsimp only
  rw [hreq]

theorem fetchReport_ok {a h done : Nat} (hout : t.outcome = none) : p.fetchReport t a h o .ok done =
    (p.modTxn t.tag fun x => { x with blocksRead := x.blocksRead + o.count }).fetchEnd t.tag := by
  unfold Part.fetchReport
  rw [if_neg (by simp [hout])]

theorem fetchReport_retry {a h done : Nat} {st : ReportStatus} (hout : t.outcome = none) (hst : st ≠ .ok)
    (hr : o.retry = true) : p.fetchReport t a h o st done =
      (p.fixOutcome t.tag .mediaError (some (failingLba o st done))).fetchEnd t.tag := by
  unfold Part.fetchReport
  rw [if_neg (by simp [hout])]
  cases st with
  | ok => exact absurd rfl hst
  | fault => exact congrArg (fun q => Part.fetchEnd q t.tag) (if_pos hr)
  | cancelled => exact congrArg (fun q => Part.fetchEnd q t.tag) (if_pos hr)

theorem fetchReport_first {a h done : Nat} {st : ReportStatus} (hout : t.outcome = none) (hst : st ≠ .ok)
    (hr : o.retry = false) : p.fetchReport t a h o st done =
      (p.prepareRetry t.tag a h { lba := o.lba, len := o.count }).fetchEnd t.tag := by
  unfold Part.fetchReport
  rw [if_neg (by simp [hout])]
  cases st with
  | ok => exact absurd rfl hst
  | fault => exact congrArg (fun q => Part.fetchEnd q t.tag) (if_neg (by simp [hr]))
  | cancelled => exact congrArg (fun q => Part.fetchEnd q t.tag) (if_neg (by simp [hr]))

theorem prepareRetry_of_room {a h : Nat} {r : RetryRun}
    (hlen : p.mp.orders.length + (p.runsOf (lookup p.tu.extents r.lba r.len)).length ≤ 64) : p.prepareRetry tag a h r =
      p.joinOrders (.txn tag) (fetchOrdersFor tag a h true (p.runsOf (lookup p.tu.extents r.lba r.len))) :=
  if_pos (hasPlaces_eq_true.2 hlen)

theorem prepareRetry_of_full {a h : Nat} {r : RetryRun}
    (hlen : 64 < p.mp.orders.length + (p.runsOf (lookup p.tu.extents r.lba r.len)).length) : p.prepareRetry tag a h r =
      p.modTxn tag fun t => { t with retries := addNew t.retries r } :=
  if_neg fun hp => by
    rw [hasPlaces_eq_true] at hp
    omega

/-- What the owner's rules leave of a FETCH whose order is reported, by what becomes of the report. -/
structure FetchTold (p q : Part) (t : Txn) (tag a h : Nat) (o : Order) (r : ReportStatus × Nat) : Prop where
  extents : q.tu.extents = p.tu.extents
  ok : r.1 = .ok → q.mp.orders = p.mp.orders ∧ q.txn tag = some { t with blocksRead := t.blocksRead + o.count }
  again : r.1 ≠ .ok → o.retry = true → q.mp.orders = withdrawn tag p.mp.orders ∧ q.txn tag = some { t with
    outcome := some .mediaError, failLba := some (failingLba o r.1 r.2), retries := [], toJoin := [] }
  room : r.1 ≠ .ok → o.retry = false →
    p.mp.orders.length + (p.runsOf (lookup p.tu.extents o.lba o.count)).length ≤ 64 → q.txn tag = some t ∧
      ∃ new, JoinedAs (fetchOrdersFor tag a h true (p.runsOf (lookup p.tu.extents o.lba o.count))) new ∧
        q.mp.orders = p.mp.orders ++ new
  full : r.1 ≠ .ok → o.retry = false →
    64 < p.mp.orders.length + (p.runsOf (lookup p.tu.extents o.lba o.count)).length → q.mp.orders = p.mp.orders ∧
      q.txn tag = some { t with retries := addNew t.retries { lba := o.lba, len := o.count } }

theorem fetchTold_of_sameOwners {r : Part} {a h : Nat} {x : ReportStatus × Nat} (hq : FetchTold p q t tag a h o x)
    (hr : q.SameOwners r) : FetchTold p r t tag a h o x := by
  have htxn := txn_congr hr.tx tag
  refine ⟨by rw [hr.tu, hq.extents], ?_, ?_, ?_, ?_⟩
  · rw [hr.orders, htxn]
    exact hq.ok
  · rw [hr.orders, htxn]
    exact hq.again
  · rw [hr.orders, htxn]
    exact hq.room
  · rw [hr.orders, htxn]
    exact hq.full

/-- The owner's rules of a FETCH with another order outstanding in the window. -/
theorem fetchTold_fetchReport {a h : Nat} {r : ReportStatus × Nat} {x : Order} (ht : p.txn tag = some t)
    (hout : t.outcome = none) (hjoin : t.toJoin = []) (hx : x ∈ p.mp.orders) (hw : x.owner = .txn tag)
    (hs : x.state ≠ .queued) : FetchTold p (p.fetchReport t a h o r.1 r.2) t tag a h o r := by
  obtain rfl := tag_of_txn ht
  by_cases hst : r.1 = .ok
  · rw [hst, fetchReport_ok hout, fetchEnd_of_outstanding (x := x) (by exact hx) hw]
    refine ⟨rfl, fun _ => ⟨rfl, ?_⟩, fun h => absurd hst h, fun h => absurd hst h, fun h => absurd hst h⟩
    rw [txn_modTxn (by exact fun _ => rfl), ht]
    rfl
  cases hretry : o.retry with
  | true =>
    obtain ⟨hfixTxn, hfixOrders, -, hfixTu⟩ := fixOutcome_spec ht .mediaError (some (failingLba o r.1 r.2))
    rw [fetchReport_retry hout hst hretry,
      fetchEnd_of_outstanding (x := x) (by rw [hfixOrders]; exact mem_withdrawn hx hs) hw]
    exact ⟨by rw [hfixTu], fun h => absurd h hst, fun _ _ => ⟨hfixOrders, hfixTxn⟩, fun _ h => by simp [hretry] at h,
      fun _ h => by simp [hretry] at h⟩
  | false =>
    rw [fetchReport_first hout hst hretry]
    by_cases hlen : p.mp.orders.length + (p.runsOf (lookup p.tu.extents o.lba o.count)).length ≤ 64
    · obtain ⟨new, has, horders, htu, htxn⟩ := joinOrders_fetch_of_room (a := a) (h := h) (retry := true) ht hjoin hlen
      rw [prepareRetry_of_room hlen,
        fetchEnd_of_outstanding (x := x) (by rw [horders]; exact List.mem_append_left _ hx) hw]
      exact ⟨by rw [htu], fun h => absurd h hst, fun _ h => by simp [hretry] at h,
        fun _ _ _ => ⟨htxn, new, has, horders⟩, fun _ _ h => absurd hlen (by omega)⟩
    · rw [prepareRetry_of_full (Nat.lt_of_not_le hlen), fetchEnd_of_outstanding (x := x) (by exact hx) hw]
      refine ⟨rfl, fun h => absurd h hst, fun _ h => by simp [hretry] at h, fun _ _ h => absurd h hlen,
        fun _ _ _ => ⟨rfl, ?_⟩⟩
      rw [txn_modTxn (by exact fun _ => rfl), ht]
      rfl

/-- The state after the REPORT of an ISSUED order of a FETCH, by the status that it is taken as. -/
theorem fetchTold_of_report {id : Nat} {st : ReportStatus} {done a n h : Nat} {r : ReportStatus × Nat} {x : Order}
    (hs : Hears s) (hstill : s.part.Still) (hall : s.part.mp.awaitAll = false) (ho : s.part.order id = some o)
    (hissued : o.state = .issued) (hw : o.owner = .txn tag) (ht : s.part.txn tag = some t) (hreq : t.req = .fetch a n h)
    (hout : t.outcome = none) (hjoin : t.toJoin = []) (hx : x ∈ s.part.mp.orders) (hxid : x.id ≠ id)
    (hxw : x.owner = .txn tag) (hxs : x.state ≠ .queued) (hblocks : s.part.BlocksUnder o)
    (hr : settleStatus st done o.count = r) :
    ∃ u, exec (.report id st done) s = .next u ∧ FetchTold (s.part.removeOrder id) u.part t tag a h o r := by
  obtain rfl : o.id = id := by simpa using List.find?_some ho
  have howners : (s.part.removeOrder o.id).SameOwners (s.part.reported o r.1) := (sameWork_reported s.part o r.1).owners
  have htracks : s.part.SameTracks (s.part.reported o r.1) := sameTracks_reported hblocks r.1
  have htxn : (s.part.reported o r.1).txn tag = some t := (txn_congr howners.tx tag).trans ht
  have htold : FetchTold (s.part.reported o r.1) ((s.part.reported o r.1).fetchReport t a h o r.1 r.2) t tag a h o r :=
    fetchTold_fetchReport htxn hout hjoin (by
      rw [howners.orders]
      exact List.mem_filter.2 ⟨hx, by simpa using hxid⟩) hxw hxs
  have hbase : FetchTold (s.part.removeOrder o.id) ((s.part.reported o r.1).fetchReport t a h o r.1 r.2) t tag a h o r := by
    have hruns : ∀ l, (s.part.reported o r.1).runsOf l = (s.part.removeOrder o.id).runsOf l := htracks.runsOf
    obtain ⟨hext, hok, hagain, hroom, hfull⟩ := htold
    rw [howners.orders] at hok hagain hroom hfull
    rw [howners.tu] at hext hroom hfull
    rw [hruns] at hroom hfull
    exact ⟨hext, hok, hagain, hroom, hfull⟩
  refine ⟨_, (taken_eq_after hs _).trans (congrArg (fun p => Host.Outcome.next (after s p))
    ((takeReport_issued hall ho hissued).trans (issuedReport_reported hr))), ?_⟩
  rw [tellReport_fetch hw htxn hreq]
  exact fetchTold_of_sameOwners hbase (sameOwners_after_talliedReport (still_fetchReport (still_reported hstill r.1)) r.1)

theorem settleStatus_eq_ok {st : ReportStatus} {done count : Nat} :
    (settleStatus st done count).1 = .ok ↔ st = .ok ∧ done = count := by
  cases st with
  | ok =>
    rw [settleStatus_ok]
    split <;> simp [*]
  | fault =>
    rw [settleStatus_fault]
    simp
  | cancelled =>
    rw [settleStatus_cancelled]
    simp

theorem mem_addNew {α : Type} [DecidableEq α] (l : List α) (a : α) : a ∈ addNew l a := by
  unfold addNew
  split
  · assumption
  · simp

/-- Settles O46. -/
theorem reportOnAnOrderOfAFetch : Obligations.ReportOnAnOrderOfAFetch := by
  intro s id st done o tag t a n h hs _ hstill hall ho hissued hread hw ht _ hreq hout hjoin hother hvalid
  obtain ⟨x, hx, hxid, hxw, hxs⟩ := hother
  obtain ⟨u, hexec, htold⟩ := fetchTold_of_report (n := n) hs hstill hall ho hissued hw ht hreq hout hjoin hx hxid hxw hxs
    hvalid (rfl : settleStatus st done o.count = _)
  dsimp only
  refine ⟨u, hexec, htold.extents, fun hst hdone => htold.ok (settleStatus_eq_ok.2 ⟨hst, hdone⟩), fun hbad => ?_⟩
  have hne : (settleStatus st done o.count).1 ≠ .ok := mt settleStatus_eq_ok.1 hbad
  refine ⟨fun hretry => ?_, fun hretry hlen => ?_, fun hretry hlen => ?_⟩
  · obtain ⟨horders, htxn⟩ := htold.again hne hretry
    refine ⟨horders, _, htxn, rfl, rfl, fun hst => ?_, fun hst hd => ?_, fun hst hd => ?_, fun hst => ?_⟩
    · subst hst
      have hd : done ≠ o.count := fun hd => hbad ⟨rfl, hd⟩
      simp [settleStatus_ok, hd, failingLba]
    · subst hst
      have hmin : min done (o.count - 1) = done := by omega
      simp [settleStatus_fault, hmin, failingLba]
    · subst hst
      have hmin : min done (o.count - 1) = o.count - 1 := by omega
      simp [settleStatus_fault, hmin, failingLba]
    · subst hst
      simp [settleStatus_cancelled, failingLba]
  · obtain ⟨htxn, new, has, horders⟩ := htold.room hne hretry hlen
    refine ⟨htxn, new, horders, ?_, joinedAs_fetchOrdersFor has⟩
    rw [← List.Forall₂.length_eq has, length_fetchOrdersFor]
    rfl
  · obtain ⟨horders, htxn⟩ := htold.full hne hretry hlen
    exact ⟨horders, _, htxn, hout, rfl, mem_addNew _ _⟩

end Sys2Proof.Machine
end

section
/-! SUPPORT. The head of the Request Queue once it is admitted (R154, R169). -/

namespace Sys2Proof.Machine

open Sys2Proof Sys2Proof.Spec

variable {s : State} {p q : Part} {t : Txn} {tag : Nat} {h : Queued}

/-! ### A head, and the record it gets -/

/-- The head's place in the Request Queue is freed; no PLACE is held in a part that is still. -/
theorem popHead_of_still (h : p.Still) : p.popHead = { p with tx := { p.tx with queue := p.tx.queue.tail } } := by
  have hst : (p.modTx fun x => { x with queue := x.queue.drop 1 }).Still := still_modTx h
  rw [Part.popHead, setHeld_false_of_still hst, ← List.drop_one]
  rfl

theorem txn_addTxn (hnew : ∀ x ∈ p.tx.txns, x.tag ≠ t.tag) : (p.addTxn t).txn t.tag = some t := by
  have hnone : p.tx.txns.find? (fun x => decide (x.tag = t.tag)) = none :=
    List.find?_eq_none.2 fun x hx => by simpa using hnew x hx
  rw [txn_eq_find]
  refine (List.find?_append).trans ?_
  rw [hnone]
  simp

theorem modTxn_of_same {f : Txn → Txn} (hf : ∀ x ∈ p.tx.txns, x.tag = tag → f x = x) : p.modTxn tag f = p := by
  have hmap : modWhere (fun x : Txn => decide (x.tag = tag)) f p.tx.txns = p.tx.txns := by
    rw [modWhere_eq fun x : Txn => x.tag = tag]
    refine (List.map_congr_left fun x hx => ?_).trans (List.map_id _)
    split
    · next h => exact hf x hx h
    · rfl
  unfold Part.modTxn Part.modTx
  dsimp only
  rw [hmap]

/-- An owner with nothing to join, and nothing it waits for, joins nothing. -/
theorem joinOrders_nil (hj : p.toJoin (.txn tag) = []) (hx : ∀ x ∈ p.tx.txns, x.tag = tag → x.toJoin = [])
    (hwait : ∀ e ∈ p.mp.writeWait, e.owner ≠ .txn tag) : p.joinOrders (.txn tag) [] = p := by
  have hset : p.modTxn tag (fun x => { x with toJoin := [] }) = p := modTxn_of_same fun x hm ht => by rw [← hx x hm ht]
  have hfilter : p.mp.writeWait.filter (fun e => decide (e.owner ≠ .txn tag)) = p.mp.writeWait :=
    List.filter_eq_self.2 fun e he => by simpa using hwait e he
  have hadd : p.setToJoin (.txn tag) [] = p := by
    unfold Part.setToJoin
    dsimp only
    rw [hset]
    unfold Part.modMp
    dsimp only
    rw [hfilter, show waitEntries (.txn tag) [] = [] from rfl, List.append_nil]
  rw [joinOrders_eq, hj, List.append_nil, joinList_eq]
  exact hadd

theorem joinOrders_txn_queue (ho : ∀ o ∈ p.toJoin (.txn tag) ++ l, o.owner = .txn tag) :
    (p.joinOrders (.txn tag) l).tx.queue = p.tx.queue := by
  have hwork := sameWork_joinPass (fun o hm => ⟨tag, ho o hm⟩) p
  rw [joinOrders_eq, joinList_eq]
  dsimp only
  have hqueue : ∀ x, ((p.joinPass (p.toJoin (.txn tag) ++ l)).2.setToJoin (.txn tag) x).tx.queue = p.tx.queue :=
    fun x => congrArg TxnUnit.queue (a₁ := (p.joinPass (p.toJoin (.txn tag) ++ l)).2.tx) hwork.tx
  split <;> exact hqueue _

/-! ### The end of a transaction in a part that is still (R170) -/

/-- The part when a transaction's record and reserve are released and its answer is queued. -/
def Part.ended (p : Part) (t : Txn) (r : Result) (items : List Item) : Part :=
  let q := p.modTx fun x => { x with txns := x.txns.filter fun y => decide (y.tag ≠ t.tag) }
  (q.releaseReserve t.reserve).sayHeld (finalMsg t.kind t.hold t.tag r items)

theorem still_ended (h : p.Still) (t : Txn) (r : Result) (items : List Item) : (p.ended t r items).Still :=
  h.of_eq rfl rfl rfl

theorem sameStored_ended (p : Part) (t : Txn) (r : Result) (items : List Item) : p.SameStored (p.ended t r items) :=
  ⟨rfl, rfl, rfl⟩

theorem sameStored_count (p : Part) (c : Nat) (f : Tally → Tally) : p.SameStored (p.count c f) := ⟨rfl, rfl, rfl⟩

theorem quiesceClose_of_still (h : p.Still) (i : Nat) : p.quiesceClose i = p := by
  unfold Part.quiesceClose
  rw [h.2.1]

theorem endTxn_of_still (h : p.Still) (t : Txn) (r : Result) (items : List Item) :
    p.endTxn t r items = (p.ended t r items).note .drain := by
  unfold Part.endTxn
  dsimp only
  split
  · exact congrArg (fun q => Part.note q .drain) (quiesceClose_of_still (still_ended h t r items) _)
  · rfl

/-! ### FETCH (R153, R154) -/

/-- The record of a FETCH that is admitted. -/
def fetchTxn (h : Queued) (f : FetchPlan) : Txn := { newTxn h 0 with holes := f.holes, coveredEnd := f.stop }

/-- The part when the record of a FETCH is made. -/
def Part.fetchBegun (p : Part) (h : Queued) (f : FetchPlan) : Part :=
  { p with tx := { p.tx with queue := p.tx.queue.tail, txns := p.tx.txns ++ [fetchTxn h f] } }

theorem admitFetch_eq {a b : Nat} {f : FetchPlan} (hst : p.Still) : p.admitFetch h a b f =
    ((p.fetchBegun h f).joinOrders (.txn h.tag) (fetchOrdersFor h.tag a b false f.runs)).fetchEnd h.tag := by
  unfold Part.admitFetch
  rw [popHead_of_still hst]
  rfl

theorem admitHead_fetch {a n b : Nat} (hh : Heads s h) (hreq : h.req = .fetch a n b) : s.part.admitHead .fetch =
    if s.part.hasPlaces (s.part.fetchPlan a n).runs.length = true then
      s.part.admitFetch h a b (s.part.fetchPlan a n) else s.part.setHeld false := by
  have htest := headTest_of_heads hh
  rw [hreq] at htest
  dsimp only at htest
  unfold Part.admitHead
  rw [if_neg (by simp [admits_of_heads hh]), hh.front]
  dsimp only
  rw [if_pos (by rw [hreq]; rfl), htest]
  by_cases hp : s.part.hasPlaces (s.part.fetchPlan a n).runs.length = true
  · rw [if_pos hp, if_pos hp]
  · rw [if_neg hp, if_neg hp]

theorem fetchPlan_length (p : Part) (a n : Nat) : (p.fetchPlan a n).runs.length ≤ 32 := by
  refine (List.length_take_le _ _).trans ?_
  exact Nat.le_refl 32

/-- The orders of a FETCH as they stand in the queue, by their runs. -/
theorem joinedAs_getElem {tag a b : Nat} {retry : Bool} {runs : List LbaRun} {new : List Order}
    (has : JoinedAs (fetchOrdersFor tag a b retry runs) new) {i : Nat} {o : Order} {r : LbaRun} (ho : new[i]? = some o)
    (hr : runs[i]? = some r) : o.op = .read ∧ o.owner = .txn tag ∧ o.state = .queued ∧ o.track = r.run.track ∧
      o.sector = r.run.sector ∧ o.dir = r.run.dir ∧ o.count = r.run.count ∧ o.handle = b ∧ o.bufOff = r.lba - a := by
  obtain ⟨hi, rfl⟩ := List.getElem?_eq_some_iff.1 ho
  obtain ⟨hj, rfl⟩ := List.getElem?_eq_some_iff.1 hr
  have hlen : i < (fetchOrdersFor tag a b retry runs).length := by rwa [length_fetchOrdersFor]
  obtain ⟨n, hn⟩ := has.get hlen hi
  rw [List.get_eq_getElem, List.get_eq_getElem] at hn
  rw [hn]
  simp [fetchOrdersFor]

/-- A FETCH that has read nothing ends in its admission (R155). -/
theorem fetchEnd_of_nothing (ht : p.txn tag = some t) (hk : t.req.kind = .fetch)
    (hout : t.outcome = none) (hretry : t.retries = []) (hjoin : t.toJoin = [])
    (hnone : ∀ o ∈ p.mp.orders, o.owner ≠ .txn tag) :
    p.fetchEnd tag = (p.count 1 (Tally.addFetched t.blocksRead)).endTxn t .ok t.fetchItems := by
  have hzero : p.outstanding (.txn tag) = 0 := List.countP_eq_zero.2 fun o ho => by simpa using hnone o ho
  unfold Part.fetchEnd
  rw [ht]
  dsimp only
  rw [if_pos ⟨hk, hzero, hretry, hjoin⟩, hout]

/-- The part when a FETCH that has read nothing has ended. -/
def Part.fetchSkipped (p : Part) (h : Queued) (items : List Item) : Part :=
  (({ p with tx := { p.tx with queue := p.tx.queue.tail } } : Part).count 1 (Tally.addFetched 0)).sayHeld
    (finalMsg .fetch h.hold h.tag .ok items)

theorem ended_fetchBegun {a n b : Nat} {f : FetchPlan} (hreq : h.req = .fetch a n b)
    (hnew : ∀ t ∈ p.tx.txns, t.tag ≠ h.tag) (items : List Item) :
    ((p.fetchBegun h f).count 1 (Tally.addFetched 0)).ended (fetchTxn h f) .ok items = p.fetchSkipped h items := by
  have hfilter : (p.tx.txns ++ [fetchTxn h f]).filter (fun y => decide (y.tag ≠ h.tag)) = p.tx.txns := by
    rw [List.filter_append, List.filter_eq_self.2 fun t ht => by simpa using hnew t ht]
    simp [fetchTxn, newTxn]
  have hkind : (fetchTxn h f).kind = .fetch := by
    rw [Txn.kind, show (fetchTxn h f).req = h.req from rfl, hreq]
    rfl
  unfold Part.ended Part.fetchSkipped
  rw [hkind]
  dsimp only [Part.fetchBegun, Part.count, Part.modSv, Part.modTx, Part.releaseReserve, Part.modTu]
  rw [show (fetchTxn h f).tag = h.tag from rfl, hfilter]
  rfl

/-- Settles O41. -/
theorem fetchAdmittedWithItsReads : Obligations.FetchAdmittedWithItsReads := by
  intro s h a n b hh hst hreq hnew horders hwait
  have hs : Hears s := hh.hears
  have hadmit := admitHead_fetch hh hreq
  have htxn : (s.part.fetchBegun h (s.part.fetchPlan a n)).txn h.tag = some (fetchTxn h (s.part.fetchPlan a n)) :=
    txn_addTxn (p := { s.part with tx := { s.part.tx with queue := s.part.tx.queue.tail } })
      (t := fetchTxn h (s.part.fetchPlan a n)) hnew
  dsimp only
  refine ⟨fetchPlan_length _ a n, fun hruns hlen => ?_, fun hruns hlen => ?_, fun hlen => ?_⟩
  · obtain ⟨new, has, hnewOrders, htu, hnewTxn⟩ := joinOrders_fetch_of_room (a := a) (h := b) (retry := false)
      (p := s.part.fetchBegun h (s.part.fetchPlan a n)) htxn rfl hlen
    obtain ⟨x, hx⟩ : ∃ x, x ∈ new := by
      refine List.exists_mem_of_length_pos ?_
      rw [← has.length_eq, length_fetchOrdersFor]
      exact List.length_pos_iff.2 hruns
    have hend : s.part.admitFetch h a b (s.part.fetchPlan a n) =
        (s.part.fetchBegun h (s.part.fetchPlan a n)).joinOrders (.txn h.tag)
          (fetchOrdersFor h.tag a b false (s.part.fetchPlan a n).runs) := by
      rw [admitFetch_eq hst, fetchEnd_of_outstanding (x := x) (by
        rw [hnewOrders]
        exact List.mem_append_right _ hx) (joinedAs_fetchOrdersFor has x hx).2.2.1]
    rw [if_pos (hasPlaces_eq_true.2 hlen), hend] at hadmit
    have hstill : ((s.part.fetchBegun h (s.part.fetchPlan a n)).joinOrders (.txn h.tag)
        (fetchOrdersFor h.tag a b false (s.part.fetchPlan a n).runs)).Still := still_joinOrders (hst.of_eq rfl rfl rfl)
    have hsame := sameOwners_after (s := s) hstill
    have hqueue := joinOrders_txn_queue (p := s.part.fetchBegun h (s.part.fetchPlan a n)) (tag := h.tag)
      (l := fetchOrdersFor h.tag a b false (s.part.fetchPlan a n).runs) (by
        rw [toJoin_txn htxn]
        intro o ho
        obtain ⟨r, _, rfl⟩ := List.mem_map.1 ho
        rfl)
    refine ⟨_, (taken_eq_after hs fun p => p.admitHead .fetch).trans (by rw [hadmit]), ?_, hsame.tu.trans htu,
      ⟨_, (txn_congr hsame.tx _).trans hnewTxn, rfl, rfl, rfl, rfl, rfl⟩, new, hsame.orders.trans hnewOrders, ?_, ?_⟩
    · rw [hsame.tx, hqueue]
      rfl
    · rw [← has.length_eq, length_fetchOrdersFor]
    · exact fun i o r ho hr => joinedAs_getElem has ho hr
  · have hnil : (s.part.fetchBegun h (s.part.fetchPlan a n)).joinOrders (.txn h.tag) [] =
        s.part.fetchBegun h (s.part.fetchPlan a n) := by
      refine joinOrders_nil (by rw [toJoin_txn htxn]; rfl) (fun x hx hxt => ?_) hwait
      rcases List.mem_append.1 hx with hx | hx
      · exact absurd hxt (hnew x hx)
      · rw [List.mem_singleton.1 hx]
        rfl
    have hbegun : ((s.part.fetchBegun h (s.part.fetchPlan a n)).count 1 (Tally.addFetched 0)).Still :=
      still_count (hst.of_eq rfl rfl rfl)
    have hend : s.part.admitFetch h a b (s.part.fetchPlan a n) =
        (((s.part.fetchBegun h (s.part.fetchPlan a n)).count 1 (Tally.addFetched 0)).ended
          (fetchTxn h (s.part.fetchPlan a n)) .ok (fetchTxn h (s.part.fetchPlan a n)).fetchItems).note .drain := by
      rw [admitFetch_eq hst, hruns, show fetchOrdersFor h.tag a b false [] = [] from rfl, hnil,
        fetchEnd_of_nothing htxn (by rw [show (fetchTxn h _).req = h.req from rfl, hreq]; rfl) rfl rfl rfl horders]
      exact endTxn_of_still hbegun _ _ _
    rw [if_pos (hasPlaces_eq_true.2 (by rw [hruns]; exact hlen)), hend] at hadmit
    refine (taken_eq_after hs fun p => p.admitHead .fetch).trans ?_
    rw [hadmit, after_note_of_still (still_ended hbegun _ _ _) hh.rested.1]
    rw [ended_fetchBegun hreq hnew, commit_eq_tell (p := s.part.fetchSkipped h _) (by rfl) (by exact hh.rested.2),
      Part.fetchSkipped, finalMsg_of_long rfl]
    rfl
  · refine taken_of_idle (f := fun p => p.admitHead .fetch) hs hh.rested (hadmit.trans ?_)
    rw [if_neg (by rw [hasPlaces_eq_true]; omega), setHeld_false_of_still hst]

end Sys2Proof.Machine
end

section
/-! SUPPORT. The map (R43 to R51): where it holds a block after removals and insertions, what a removal takes away, and
the counts that follow. -/

namespace Sys2Proof.Machine

open Sys2Proof Sys2Proof.Spec

variable {p : Part} {l : List Extent} {e y : Extent} {x a n b : Nat}

/-! ### The place of a block -/

theorem shift_zero (pl : Place) : pl.shift 0 = pl := by
  cases pl <;> rfl

theorem shift_shift (pl : Place) (i j : Nat) : (pl.shift i).shift j = pl.shift (i + j) := by
  cases pl <;> simp [Place.shift, Nat.add_assoc]

/-- An entry holds an LBA. -/
abbrev Extent.Holds (e : Extent) (x : Nat) : Prop := e.start ≤ x ∧ x < e.start + e.len

/-- Where an entry holds an LBA. -/
def Extent.placeOf (e : Extent) (x : Nat) : Place := e.place.shift (x - e.start)

theorem placeAt_nil (x : Nat) : placeAt [] x = none := rfl

theorem placeAt_cons (e : Extent) (l : List Extent) (x : Nat) :
    placeAt (e :: l) x = if e.Holds x then some (e.placeOf x) else placeAt l x := by
  unfold placeAt
  rw [List.find?_cons]
  by_cases h : e.Holds x
  · rw [if_pos h, decide_eq_true h]
    rfl
  · rw [if_neg h, decide_eq_false h]

/-- A list of entries before others: the first that holds the LBA counts. -/
theorem placeAt_append (k l : List Extent) (x : Nat) : placeAt (k ++ l) x = (placeAt k x).or (placeAt l x) := by
  simp only [placeAt, List.find?_append]
  cases k.find? fun e => decide (e.start ≤ x ∧ x < e.start + e.len) <;> rfl

theorem placeAt_eq_none : placeAt l x = none ↔ ∀ e ∈ l, ¬e.Holds x := by
  simp [placeAt]

/-! ### Removal (R49) -/

theorem trimExtent_of_outside (h : e.start + e.len ≤ a ∨ a + n ≤ e.start) : trimExtent a n e = [e] := if_pos h

theorem trimExtent_of_inside (h : ¬(e.start + e.len ≤ a ∨ a + n ≤ e.start)) : trimExtent a n e =
    (if e.start < a then [{ e with len := a - e.start }] else []) ++
      (if a + n < e.start + e.len then [{ start := a + n, len := e.start + e.len - (a + n), place := e.placeOf (a + n) }]
        else []) := if_neg h

/-- What is left of an entry before the range: the blocks of the entry that lie before it. -/
theorem placeAt_before (e : Extent) (a x : Nat) :
    placeAt (if e.start < a then [{ e with len := a - e.start }] else []) x =
      if e.start ≤ x ∧ x < a then some (e.placeOf x) else none := by
  split
  · rw [placeAt_cons]
    exact if_congr (by simp only [Extent.Holds]; omega) rfl rfl
  · exact (if_neg (by omega)).symm

/-- What is left of an entry after the range: the blocks of the entry that lie after it. -/
theorem placeAt_behind (e : Extent) {c : Nat} (hc : e.start ≤ c) (x : Nat) :
    placeAt (if c < e.start + e.len then [{ start := c, len := e.start + e.len - c, place := e.placeOf c }] else []) x =
      if c ≤ x ∧ x < e.start + e.len then some (e.placeOf x) else none := by
  split
  · rw [placeAt_cons]
    by_cases hx : c ≤ x ∧ x < e.start + e.len
    · rw [if_pos (by simp only [Extent.Holds]; omega), if_pos hx]
      unfold Extent.placeOf
      dsimp only
      rw [shift_shift, show c - e.start + (x - c) = x - e.start by omega]
    · rw [if_neg (by simp only [Extent.Holds]; omega), if_neg hx]
      rfl
  · exact (if_neg (by omega)).symm

/-- What is kept of an entry: its blocks outside the range. -/
theorem placeAt_trimExtent (a n : Nat) (e : Extent) (x : Nat) : placeAt (trimExtent a n e) x =
    if e.Holds x ∧ ¬(a ≤ x ∧ x < a + n) then some (e.placeOf x) else none := by
  by_cases h : e.start + e.len ≤ a ∨ a + n ≤ e.start
  · rw [trimExtent_of_outside h, placeAt_cons]
    exact if_congr (by omega) rfl rfl
  · rw [trimExtent_of_inside h, placeAt_append, placeAt_before, placeAt_behind e (by omega)]
    by_cases hb : e.start ≤ x ∧ x < a
    · have hkept : e.Holds x ∧ ¬(a ≤ x ∧ x < a + n) := by omega
      rw [if_pos hb, if_pos hkept, Option.some_or]
    · rw [if_neg hb, Option.none_or]
      exact if_congr (by omega) rfl rfl

theorem placeAt_removeRange (l : List Extent) (a n x : Nat) :
    placeAt (removeRange l a n) x = if a ≤ x ∧ x < a + n then none else placeAt l x := by
  induction l with
  | nil => exact (ite_self _).symm
  | cons e l ih =>
    have hcons : removeRange (e :: l) a n = trimExtent a n e ++ removeRange l a n := rfl
    rw [hcons, placeAt_append, placeAt_trimExtent, ih, placeAt_cons]
    by_cases hx : a ≤ x ∧ x < a + n
    · rw [if_pos hx, if_pos hx, if_neg fun h => h.2 hx, Option.none_or]
    · by_cases he : e.Holds x
      · rw [if_pos ⟨he, hx⟩, Option.some_or, if_neg hx, if_pos he]
      · rw [if_neg fun h => he h.1, if_neg he, if_neg hx, Option.none_or]

/-! ### Insertion (R50) -/

theorem joinable_eq_true : joinable e y = true ↔
    e.start + e.len = y.start ∧ e.place.shift e.len = y.place ∧ e.len + y.len ≤ 16777216 := decide_eq_true_iff

/-- Two entries as one hold what they hold. -/
theorem placeAt_joined (h : joinable e y = true) (l : List Extent) (x : Nat) :
    placeAt ({ e with len := e.len + y.len } :: l) x = placeAt (e :: y :: l) x := by
  obtain ⟨hstop, hplace, -⟩ := joinable_eq_true.1 h
  rw [placeAt_cons, placeAt_cons, placeAt_cons]
  by_cases he : e.Holds x
  · rw [if_pos he, if_pos (by dsimp only [Extent.Holds] at *; omega)]
    rfl
  · rw [if_neg he]
    by_cases hy : y.Holds x
    · rw [if_pos hy, if_pos (by dsimp only [Extent.Holds] at *; omega)]
      unfold Extent.placeOf
      rw [← hplace, shift_shift]
      dsimp only
      rw [show e.len + (x - y.start) = x - e.start by dsimp only [Extent.Holds] at *; omega]
    · rw [if_neg hy, if_neg (by dsimp only [Extent.Holds] at *; omega)]

theorem placeAt_mergeHead (e : Extent) (l : List Extent) (x : Nat) : placeAt (mergeHead e l) x = placeAt (e :: l) x := by
  cases l with
  | nil => rfl
  | cons y l =>
    by_cases h : joinable e y = true
    · rw [mergeHead, if_pos h, placeAt_joined h]
    · rw [mergeHead, if_neg h]

/-- An entry inserted where the map holds nothing. -/
theorem placeAt_insertExtent (e : Extent) (x : Nat) : ∀ l : List Extent, (e.Holds x → placeAt l x = none) →
    placeAt (insertExtent e l) x = placeAt (e :: l) x := by
  intro l
  induction l with
  | nil => exact fun _ => rfl
  | cons y l ih =>
    intro hnone
    have hy : ¬(e.Holds x ∧ y.Holds x) := fun ⟨he, hy⟩ => placeAt_eq_none.1 (hnone he) y List.mem_cons_self hy
    have hl : e.Holds x → placeAt l x = none := fun he =>
      placeAt_eq_none.2 fun z hz => placeAt_eq_none.1 (hnone he) z (List.mem_cons_of_mem _ hz)
    have hswap : placeAt (y :: e :: l) x = placeAt (e :: y :: l) x := by
      simp only [placeAt_cons]
      by_cases he : e.Holds x
      · rw [if_pos he, if_pos he, if_neg fun h => hy ⟨he, h⟩]
      · rw [if_neg he, if_neg he]
    unfold insertExtent
    split
    · split
      · next h => rw [placeAt_mergeHead, placeAt_joined h, hswap]
      · rw [placeAt_cons, ih hl, ← placeAt_cons, hswap]
    · exact placeAt_mergeHead e _ x

/-! ### A map update (R48) -/

/-- Items whose ranges do not overlap. -/
def Apart (i j : MapItem) : Prop := i.start + i.len ≤ j.start ∨ j.start + j.len ≤ i.start

/-- The removals of items, with what was lost before. -/
def removals (items : List MapItem) (l : List Extent) (lost : List (Place × Nat)) : List Extent × List (Place × Nat) :=
  items.foldl (fun acc it => (removeRange acc.1 it.start it.len, acc.2 ++ lostIn acc.1 it.start it.len)) (l, lost)

theorem applyRemovals_eq (l : List Extent) (items : List MapItem) : applyRemovals l items = removals items l [] := rfl

theorem removals_cons (it : MapItem) (items : List MapItem) (l : List Extent) (lost : List (Place × Nat)) :
    removals (it :: items) l lost =
      removals items (removeRange l it.start it.len) (lost ++ lostIn l it.start it.len) := rfl

/-- The blocks of the items are holes after the removals, and no other block has moved. -/
theorem placeAt_removals (x : Nat) : ∀ (items : List MapItem) (l : List Extent) (lost : List (Place × Nat)),
    ((∃ it ∈ items, within x it.start it.len) → placeAt (removals items l lost).1 x = none) ∧
    ((∀ it ∈ items, ¬within x it.start it.len) → placeAt (removals items l lost).1 x = placeAt l x) := by
  intro items
  induction items with
  | nil => exact fun l lost => ⟨fun ⟨it, h, _⟩ => absurd h List.not_mem_nil, fun _ => rfl⟩
  | cons it items ih =>
    intro l lost
    obtain ⟨hin, hout⟩ := ih (removeRange l it.start it.len) (lost ++ lostIn l it.start it.len)
    rw [removals_cons]
    have hhead := placeAt_removeRange l it.start it.len x
    refine ⟨fun ⟨j, hj, hx⟩ => ?_, fun hall => ?_⟩
    · by_cases hrest : ∃ j ∈ items, within x j.start j.len
      · exact hin hrest
      · rcases List.mem_cons.1 hj with rfl | hj
        · rw [hout fun j hj hx => hrest ⟨j, hj, hx⟩, hhead]
          exact if_pos hx
        · exact absurd ⟨j, hj, hx⟩ hrest
    · rw [hout fun j hj => hall j (List.mem_cons_of_mem _ hj), hhead]
      exact if_neg (hall it List.mem_cons_self)

/-- The entries after one more item is inserted. -/
def insertItem (l : List Extent) (it : MapItem) : List Extent :=
  match it.place with
  | some pl => insertExtent { start := it.start, len := it.len, place := pl } l
  | none => l

theorem applyInsertions_eq (l : List Extent) (items : List MapItem) : applyInsertions l items = items.foldl insertItem l := rfl

theorem insertItem_some {it : MapItem} {pl : Place} (h : it.place = some pl) (l : List Extent) :
    insertItem l it = insertExtent { start := it.start, len := it.len, place := pl } l := by
  rw [insertItem, h]

theorem insertItem_none {it : MapItem} (h : it.place = none) (l : List Extent) : insertItem l it = l := by
  rw [insertItem, h]

theorem placeAt_insertItem {it : MapItem} {l : List Extent} (x : Nat) (hnone : within x it.start it.len → placeAt l x = none) :
    (within x it.start it.len → placeAt (insertItem l it) x = it.place.map fun pl => pl.shift (x - it.start)) ∧
    (¬within x it.start it.len → placeAt (insertItem l it) x = placeAt l x) := by
  cases hp : it.place with
  | none =>
    rw [insertItem_none hp]
    exact ⟨fun h => hnone h, fun _ => rfl⟩
  | some pl =>
    rw [insertItem_some hp, placeAt_insertExtent _ x l (by exact hnone), placeAt_cons]
    exact ⟨fun h => if_pos h, fun h => if_neg h⟩

theorem placeAt_insertions (x : Nat) : ∀ (items : List MapItem) (l : List Extent), items.Pairwise Apart →
    ((∃ it ∈ items, within x it.start it.len) → placeAt l x = none) →
    (∀ it ∈ items, within x it.start it.len →
      placeAt (items.foldl insertItem l) x = it.place.map fun pl => pl.shift (x - it.start)) ∧
    ((∀ it ∈ items, ¬within x it.start it.len) → placeAt (items.foldl insertItem l) x = placeAt l x) := by
  intro items
  induction items with
  | nil => exact fun l _ _ => ⟨fun it h => absurd h List.not_mem_nil, fun _ => rfl⟩
  | cons it items ih =>
    intro l hapart hnone
    obtain ⟨hhead, htail⟩ := List.pairwise_cons.1 hapart
    obtain ⟨hin, hout⟩ := placeAt_insertItem (it := it) (l := l) x fun h => hnone ⟨it, List.mem_cons_self, h⟩
    rw [List.foldl_cons]
    by_cases hx : within x it.start it.len
    · have hrest : ∀ j ∈ items, ¬within x j.start j.len := fun j hj hxj => by
        have := hhead j hj
        simp only [Apart, within] at *
        omega
      obtain ⟨-, hkeep⟩ := ih (insertItem l it) htail fun ⟨j, hj, hxj⟩ => absurd hxj (hrest j hj)
      refine ⟨fun j hj hxj => ?_, fun hall => absurd hx (hall it List.mem_cons_self)⟩
      rcases List.mem_cons.1 hj with rfl | hj
      · rw [hkeep hrest, hin hx]
      · exact absurd hxj (hrest j hj)
    · obtain ⟨hplaced, hkeep⟩ := ih (insertItem l it) htail fun ⟨j, hj, hxj⟩ => by
        rw [hout hx]
        exact hnone ⟨j, List.mem_cons_of_mem _ hj, hxj⟩
      refine ⟨fun j hj hxj => ?_, fun hall => ?_⟩
      · rcases List.mem_cons.1 hj with rfl | hj
        · exact absurd hxj hx
        · exact hplaced j hj hxj
      · rw [hkeep fun j hj => hall j (List.mem_cons_of_mem _ hj), hout hx]

/-- Where the map holds a block after an update. -/
theorem placeAt_update (l : List Extent) (items : List MapItem) (x : Nat) (hapart : items.Pairwise Apart) :
    (∀ it ∈ items, within x it.start it.len →
      placeAt (applyInsertions (applyRemovals l items).1 items) x = it.place.map fun pl => pl.shift (x - it.start)) ∧
    ((∀ it ∈ items, ¬within x it.start it.len) →
      placeAt (applyInsertions (applyRemovals l items).1 items) x = placeAt l x) := by
  obtain ⟨hremoved, hkept⟩ := placeAt_removals x items l []
  obtain ⟨hplaced, hrest⟩ := placeAt_insertions x items (applyRemovals l items).1 hapart hremoved
  exact ⟨hplaced, fun h => (hrest h).trans (hkept h)⟩

end Sys2Proof.Machine
end

section
/-! SUPPORT. What a map update takes from bands and run records and gives to them (R51), and what waits for it to be
durable (R52). -/

namespace Sys2Proof.Machine

open Sys2Proof Sys2Proof.Spec

variable {p q : Part} {l : List Extent} {e : Extent} {it j : MapItem} {b : Nat} {L : List (Place × Nat)}

/-! ### What the ranges of the items held -/

/-- The blocks of an entry in the range of an item, where there are some. -/
def lostPiece (it : MapItem) (e : Extent) : Option (Place × Nat) :=
  let a := max it.start e.start
  let b := min (it.start + it.len) (e.start + e.len)
  if a < b then some (e.place.shift (a - e.start), b - a) else none

theorem lostPiece_eq_none (h : min (it.start + it.len) (e.start + e.len) ≤ max it.start e.start) : lostPiece it e = none :=
  if_neg (by omega)

/-- The pieces of a list of places that hold a block. -/
def nonEmpty (L : List (Place × Nat)) : List (Place × Nat) := L.filter fun x => decide (0 < x.2)

theorem lostExtent_of_outside {a n : Nat} (h : e.start + e.len ≤ a ∨ a + n ≤ e.start) : lostExtent a n e = none := if_pos h

theorem lostExtent_of_inside {a n : Nat} (h : ¬(e.start + e.len ≤ a ∨ a + n ≤ e.start)) : lostExtent a n e =
    some (e.place.shift (max a e.start - e.start), min (a + n) (e.start + e.len) - max a e.start) := if_neg h

theorem filter_lostExtent (it : MapItem) (e : Extent) :
    (lostExtent it.start it.len e).filter (fun x => decide (0 < x.2)) = lostPiece it e := by
  unfold lostPiece
  dsimp only
  by_cases hout : e.start + e.len ≤ it.start ∨ it.start + it.len ≤ e.start
  · rw [lostExtent_of_outside hout, if_neg (by omega)]
    rfl
  · rw [lostExtent_of_inside hout]
    by_cases hpos : max it.start e.start < min (it.start + it.len) (e.start + e.len)
    · rw [if_pos hpos]
      exact Option.filter_some_pos (decide_eq_true (by dsimp only; omega))
    · rw [if_neg hpos]
      exact Option.filter_some_neg (by simp; omega)

theorem nonEmpty_lostIn (l : List Extent) (it : MapItem) :
    nonEmpty (lostIn l it.start it.len) = l.filterMap (lostPiece it) := by
  unfold nonEmpty lostIn
  rw [List.filter_filterMap]
  exact congrArg (fun f => List.filterMap f l) (funext fun e => filter_lostExtent it e)

/-- What lies before the range of an item that follows another gives the other nothing. -/
theorem lostPiece_before (h : j.start ≤ it.start) (e : Extent) :
    (if e.start < j.start then [{ e with len := j.start - e.start }] else []).filterMap (lostPiece it) = [] := by
  split
  · exact List.filterMap_eq_nil_iff.2 fun k hk => by
      rw [List.mem_singleton.1 hk]
      exact lostPiece_eq_none (by dsimp only; omega)
  · rfl

/-- What lies behind the range of an item that precedes another gives the other nothing. -/
theorem lostPiece_behind (h : it.start + it.len ≤ j.start + j.len) (e : Extent) :
    (if j.start + j.len < e.start + e.len then
      [{ start := j.start + j.len, len := e.start + e.len - (j.start + j.len), place := e.placeOf (j.start + j.len) }]
      else []).filterMap (lostPiece it) = [] := by
  split
  · exact List.filterMap_eq_nil_iff.2 fun k hk => by
      rw [List.mem_singleton.1 hk]
      exact lostPiece_eq_none (by dsimp only; omega)
  · rfl

theorem filterMap_singleton_congr {α β : Type} {f : α → Option β} {x y : α} (h : f x = f y) :
    [x].filterMap f = [y].filterMap f := by
  simp only [List.filterMap_cons, List.filterMap_nil, h]

/-- A removal elsewhere leaves of an entry what an item takes from it. -/
theorem lostPiece_trimExtent (h : Apart j it) (e : Extent) :
    (trimExtent j.start j.len e).filterMap (lostPiece it) = [e].filterMap (lostPiece it) := by
  by_cases hout : e.start + e.len ≤ j.start ∨ j.start + j.len ≤ e.start
  · rw [trimExtent_of_outside hout]
  rw [trimExtent_of_inside hout, List.filterMap_append]
  rcases h with h | h
  · rw [lostPiece_before (Nat.le_trans (Nat.le_add_right _ _) h), List.nil_append]
    split
    · refine filterMap_singleton_congr ?_
      unfold lostPiece Extent.placeOf
      dsimp only
      by_cases hpos : max it.start e.start < min (it.start + it.len) (e.start + e.len)
      · rw [if_pos hpos, if_pos (by omega), shift_shift,
          show max it.start (j.start + j.len) = max it.start e.start by omega,
          show j.start + j.len - e.start + (max it.start e.start - (j.start + j.len)) = max it.start e.start - e.start by omega,
          show j.start + j.len + (e.start + e.len - (j.start + j.len)) = e.start + e.len by omega]
      · rw [if_neg hpos, if_neg (by omega)]
    · exact (List.filterMap_eq_nil_iff.2 fun k hk => by
        rw [List.mem_singleton.1 hk]
        exact lostPiece_eq_none (by omega)).symm
  · rw [lostPiece_behind (h.trans (Nat.le_add_right _ _)), List.append_nil]
    split
    · refine filterMap_singleton_congr ?_
      unfold lostPiece
      dsimp only
      rw [show min (it.start + it.len) (e.start + (j.start - e.start)) = min (it.start + it.len) (e.start + e.len) by omega]
    · exact (List.filterMap_eq_nil_iff.2 fun k hk => by
        rw [List.mem_singleton.1 hk]
        exact lostPiece_eq_none (by omega)).symm

theorem filterMap_removeRange (h : Apart j it) (l : List Extent) :
    (removeRange l j.start j.len).filterMap (lostPiece it) = l.filterMap (lostPiece it) := by
  induction l with
  | nil => rfl
  | cons e l ih =>
    have hcons : removeRange (e :: l) j.start j.len = trimExtent j.start j.len e ++ removeRange l j.start j.len := rfl
    rw [hcons, List.filterMap_append, lostPiece_trimExtent h, ih, ← List.filterMap_append]
    rfl

/-- The blocks that the items' ranges hold. -/
def lostBlocks (l : List Extent) (items : List MapItem) : List (Place × Nat) :=
  (items.map fun it => l.filterMap (lostPiece it)).flatten

theorem nonEmpty_append (K L : List (Place × Nat)) : nonEmpty (K ++ L) = nonEmpty K ++ nonEmpty L := List.filter_append ..

/-- The blocks that the removals of items take away are those their ranges held before. -/
theorem nonEmpty_removals : ∀ (items : List MapItem) (l : List Extent) (lost : List (Place × Nat)),
    items.Pairwise Apart → nonEmpty (removals items l lost).2 = nonEmpty lost ++ lostBlocks l items := by
  intro items
  induction items with
  | nil => exact fun l lost _ => (List.append_nil _).symm
  | cons it items ih =>
    intro l lost hapart
    obtain ⟨hhead, htail⟩ := List.pairwise_cons.1 hapart
    have hrest : lostBlocks (removeRange l it.start it.len) items = lostBlocks l items :=
      congrArg List.flatten (List.map_congr_left fun j hj => filterMap_removeRange (hhead j hj) l)
    rw [removals_cons, ih _ _ htail, nonEmpty_append, nonEmpty_lostIn, hrest, List.append_assoc]
    rfl

/-! ### The counts of bands and run records -/

theorem inBand_cons (b : Nat) (x : Place × Nat) (L : List (Place × Nat)) :
    inBand b (x :: L) = inBand b [x] + inBand b L := by
  simp [inBand]

theorem inRun_cons (r : Run) (x : Place × Nat) (L : List (Place × Nat)) : inRun r (x :: L) = inRun r [x] + inRun r L := by
  simp [inRun]

theorem inBand_empty {x : Place × Nat} (h : ¬0 < x.2) : inBand b [x] = 0 := by
  obtain ⟨pl, n⟩ := x
  cases pl with
  | band c off =>
    simp [inBand]
    omega
  | log pos => rfl

theorem inRun_empty {x : Place × Nat} (h : ¬0 < x.2) (r : Run) : inRun r [x] = 0 := by
  obtain ⟨pl, n⟩ := x
  cases pl with
  | band c off => rfl
  | log pos =>
    simp [inRun]
    omega

theorem inBand_nonEmpty (b : Nat) (L : List (Place × Nat)) : inBand b (nonEmpty L) = inBand b L := by
  induction L with
  | nil => rfl
  | cons x L ih =>
    rw [nonEmpty, List.filter_cons, inBand_cons b x L]
    split
    · rw [inBand_cons, ← ih]
      rfl
    · next h => rw [inBand_empty (by simpa using h), Nat.zero_add, ← ih]; rfl

theorem inRun_nonEmpty (r : Run) (L : List (Place × Nat)) : inRun r (nonEmpty L) = inRun r L := by
  induction L with
  | nil => rfl
  | cons x L ih =>
    rw [nonEmpty, List.filter_cons, inRun_cons r x L]
    split
    · rw [inRun_cons, ← ih]
      rfl
    · next h => rw [inRun_empty (by simpa using h), Nat.zero_add, ← ih]; rfl

end Sys2Proof.Machine
end

section
/-! SUPPORT. The counts after a map update (R51), and the checks that wait for it (R52). -/

namespace Sys2Proof.Machine

open Sys2Proof Sys2Proof.Spec

variable {p q : Part} {b : Nat} {x : Place × Nat} {L K : List (Place × Nat)}

/-- What a fold of operations of a part keeps, since each of them does. -/
theorem foldl_keeps {α γ : Type} {f : Part → α → Part} (g : Part → γ) (h : ∀ p x, g (f p x) = g p) (l : List α) :
    ∀ p, g (l.foldl f p) = g p := by
  induction l with
  | nil => exact fun p => rfl
  | cons x l ih => exact fun p => (ih (f p x)).trans (h p x)

theorem bands_length_loseBlocks (p : Part) (x : Place × Nat) : (p.loseBlocks x).bm.bands.length = p.bm.bands.length := by
  unfold Part.loseBlocks
  split
  · exact Part.modBand_length _ _ _
  · rfl

theorem bands_length_gainBlocks (p : Part) (x : Place × Nat) : (p.gainBlocks x).bm.bands.length = p.bm.bands.length := by
  unfold Part.gainBlocks
  split
  · exact Part.modBand_length _ _ _
  · rfl

theorem inBand_band (b c off n : Nat) : inBand b [(.band c off, n)] = if c = b then n else 0 := by
  simp [inBand]

theorem inBand_log (b pos n : Nat) : inBand b [(.log pos, n)] = 0 := rfl

theorem inRun_log (r : Run) (pos n : Nat) : inRun r [(.log pos, n)] = runOverlap pos n r := by
  simp [inRun, runOverlap]

theorem inRun_band (r : Run) (c off n : Nat) : inRun r [(.band c off, n)] = 0 := rfl

theorem band_loseBlocks (p : Part) (x : Place × Nat) (hb : b < p.bm.bands.length) :
    (p.loseBlocks x).band b = { p.band b with valid := (p.band b).valid - inBand b [x] } := by
  obtain ⟨pl, n⟩ := x
  cases pl with
  | band c off =>
    rw [inBand_band]
    by_cases hc : c = b
    · subst hc
      rw [if_pos rfl]
      exact band_modBand_self hb
    · rw [if_neg hc]
      refine (Part.band_modBand _ _ _ _).trans (if_neg fun h => hc h.1.symm)
  | log pos => rfl

theorem band_gainBlocks (p : Part) (x : Place × Nat) (hb : b < p.bm.bands.length) :
    (p.gainBlocks x).band b = { p.band b with valid := (p.band b).valid + inBand b [x] } := by
  obtain ⟨pl, n⟩ := x
  cases pl with
  | band c off =>
    rw [inBand_band]
    by_cases hc : c = b
    · subst hc
      rw [if_pos rfl]
      exact band_modBand_self hb
    · rw [if_neg hc]
      refine (Part.band_modBand _ _ _ _).trans (if_neg fun h => hc h.1.symm)
  | log pos => rfl

/-- The records that a log range does not touch have no block of it. -/
theorem runs_modRuns {f : Run → Nat → Run} (hf : ∀ r, f r 0 = r) (pos n : Nat) (l : List Run) :
    modWhere (touches pos n) (fun r => f r (runOverlap pos n r)) l = l.map fun r => f r (runOverlap pos n r) := by
  refine List.map_congr_left fun r _ => ?_
  unfold touches
  by_cases h : 0 < runOverlap pos n r
  · rw [if_pos (decide_eq_true h)]
  · rw [if_neg (by simpa using h), Nat.eq_zero_of_not_pos h, hf]

theorem runs_loseBlocks (p : Part) (x : Place × Nat) :
    (p.loseBlocks x).sl.runs = p.sl.runs.map fun r => { r with live := r.live - inRun r [x] } := by
  obtain ⟨pl, n⟩ := x
  cases pl with
  | band c off => exact (List.map_id _).symm
  | log pos =>
    simp only [inRun_log]
    exact runs_modRuns (f := fun r k => { r with live := r.live - k }) (fun _ => rfl) pos n p.sl.runs

theorem runs_gainBlocks (p : Part) (x : Place × Nat) :
    (p.gainBlocks x).sl.runs = p.sl.runs.map fun r => { r with live := r.live + inRun r [x] } := by
  obtain ⟨pl, n⟩ := x
  cases pl with
  | band c off => exact (List.map_id _).symm
  | log pos =>
    simp only [inRun_log]
    exact runs_modRuns (f := fun r k => { r with live := r.live + k }) (fun _ => rfl) pos n p.sl.runs

theorem band_foldl_loseBlocks (b : Nat) (L : List (Place × Nat)) : ∀ p : Part, b < p.bm.bands.length →
    (L.foldl Part.loseBlocks p).band b = { p.band b with valid := (p.band b).valid - inBand b L } := by
  induction L with
  | nil => exact fun p _ => rfl
  | cons x L ih =>
    intro p hb
    rw [List.foldl_cons, ih _ (by rw [bands_length_loseBlocks]; exact hb), band_loseBlocks p x hb, inBand_cons b x L,
      ← Nat.sub_sub]

theorem band_foldl_gainBlocks (b : Nat) (L : List (Place × Nat)) : ∀ p : Part, b < p.bm.bands.length →
    (L.foldl Part.gainBlocks p).band b = { p.band b with valid := (p.band b).valid + inBand b L } := by
  induction L with
  | nil => exact fun p _ => rfl
  | cons x L ih =>
    intro p hb
    rw [List.foldl_cons, ih _ (by rw [bands_length_gainBlocks]; exact hb), band_gainBlocks p x hb, inBand_cons b x L,
      ← Nat.add_assoc]

theorem runs_foldl_loseBlocks (L : List (Place × Nat)) : ∀ p : Part, (L.foldl Part.loseBlocks p).sl.runs =
    p.sl.runs.map fun r => { r with live := r.live - inRun r L } := by
  induction L with
  | nil => exact fun p => (List.map_id _).symm
  | cons x L ih =>
    intro p
    rw [List.foldl_cons, ih, runs_loseBlocks, List.map_map]
    refine List.map_congr_left fun r _ => ?_
    rw [inRun_cons r x L, ← Nat.sub_sub]
    rfl

theorem runs_foldl_gainBlocks (L : List (Place × Nat)) : ∀ p : Part, (L.foldl Part.gainBlocks p).sl.runs =
    p.sl.runs.map fun r => { r with live := r.live + inRun r L } := by
  induction L with
  | nil => exact fun p => (List.map_id _).symm
  | cons x L ih =>
    intro p
    rw [List.foldl_cons, ih, runs_gainBlocks, List.map_map]
    refine List.map_congr_left fun r _ => ?_
    rw [inRun_cons r x L, ← Nat.add_assoc]
    rfl

/-! ### A map update in its steps (R48) -/

/-- The part when the counts of an update have changed. -/
def Part.recounted (p : Part) (items : List MapItem) : Part :=
  let r := applyRemovals p.tu.extents items
  (gainsOf items).foldl Part.gainBlocks
    (r.2.foldl Part.loseBlocks (p.modTu fun t => { t with extents := applyInsertions r.1 items }))

theorem reportRise_cases (p o : Part) (b : Nat) : p.reportRise o b = p ∨ p.reportRise o b = p.note (.victim b) := by
  unfold Part.reportRise
  split
  · exact .inr rfl
  · exact .inl rfl

/-- The bands whose valid count fell, of those that lost blocks. -/
def Part.fellBands (p : Part) (items : List MapItem) : List Nat :=
  (bandsOf (applyRemovals p.tu.extents items).2).filter fun b => decide (((p.recounted items).band b).valid < (p.band b).valid)

/-- The part when the rises of RECLAIMING bands have been reported. -/
def Part.risesTold (p : Part) (items : List MapItem) : Part :=
  (bandsOf (gainsOf items)).foldl (fun q b => q.reportRise p b) (p.recounted items)

theorem mapUpdate_eq (p : Part) (items : List MapItem) : p.mapUpdate items = ((applyRemovals p.tu.extents items).2,
    ((p.risesTold items).mapHighCheck p.mapSum).follow
      (.checks (p.fellBands items) (runsEmptied p.sl.runs (p.risesTold items).sl.runs))) := rfl

/-- The reports of rises touch nothing but the reports. -/
theorem risesTold_keeps {γ : Type} (g : Part → γ) (hn : ∀ q n, g (q.note n) = g q) (p : Part) (items : List MapItem) :
    g (p.risesTold items) = g (p.recounted items) := by
  refine foldl_keeps g (fun q b => ?_) _ _
  rcases reportRise_cases q p b with h | h
  · rw [h]
  · rw [h, hn]

theorem mapHighCheck_keeps {γ : Type} (g : Part → γ) (hr : ∀ q f, g (q.raise f) = g q) (q : Part) (n : Nat) :
    g (q.mapHighCheck n) = g q := by
  unfold Part.mapHighCheck
  split
  · exact hr q _
  · rfl

/-- What the last steps of an update do not touch. -/
theorem mapUpdate_keeps {γ : Type} (g : Part → γ) (hn : ∀ q n, g (q.note n) = g q) (hr : ∀ q f, g (q.raise f) = g q)
    (hf : ∀ q f, g (q.follow f) = g q) (p : Part) (items : List MapItem) :
    g (p.mapUpdate items).2 = g (p.recounted items) := by
  rw [mapUpdate_eq, hf, mapHighCheck_keeps g hr, risesTold_keeps g hn]

theorem sameWork_recounted (p : Part) (items : List MapItem) :
    (p.modTu fun t => { t with extents := applyInsertions (applyRemovals p.tu.extents items).1 items }).SameWork
      (p.recounted items) :=
  sameWork_foldl (fun _ _ h => sameWork_gainBlocks h) _ (sameWork_foldl (fun _ _ h => sameWork_loseBlocks h) _ (.refl _))

theorem mapUpdate_bm (p : Part) (items : List MapItem) : (p.mapUpdate items).2.bm = (p.recounted items).bm :=
  mapUpdate_keeps Part.bm (fun _ _ => rfl) (fun _ _ => Part.raise_bm _ _) (fun _ _ => rfl) p items

theorem mapUpdate_sl (p : Part) (items : List MapItem) : (p.mapUpdate items).2.sl = (p.recounted items).sl :=
  mapUpdate_keeps Part.sl (fun _ _ => rfl) (fun _ _ => Part.raise_sl _ _) (fun _ _ => rfl) p items

theorem mapUpdate_tu (p : Part) (items : List MapItem) : (p.mapUpdate items).2.tu =
    { p.tu with extents := applyInsertions (applyRemovals p.tu.extents items).1 items } := by
  rw [mapUpdate_keeps Part.tu (fun _ _ => rfl) (fun _ _ => Part.raise_tu _ _) (fun _ _ => rfl) p items]
  exact (sameWork_recounted p items).tu

/-! ### The bands whose count fell -/

/-- The band of a place, put into a list of bands. -/
def noteBand (acc : List Nat) (x : Place × Nat) : List Nat :=
  match x.1 with
  | .band b _ => addNew acc b
  | .log _ => acc

theorem bandsOf_eq (L : List (Place × Nat)) : bandsOf L = L.foldl noteBand [] := rfl

theorem mem_addNew_iff {α : Type} [DecidableEq α] {l : List α} {a c : α} : c ∈ addNew l a ↔ c ∈ l ∨ c = a := by
  unfold addNew
  split
  · exact ⟨.inl, fun h => h.elim id fun h => h ▸ by assumption⟩
  · simp

theorem mem_foldl_noteBand (b : Nat) (L : List (Place × Nat)) : ∀ acc : List Nat,
    b ∈ L.foldl noteBand acc ↔ b ∈ acc ∨ ∃ off n, (Place.band b off, n) ∈ L := by
  induction L with
  | nil => exact fun acc => by simp
  | cons x L ih =>
    intro acc
    obtain ⟨pl, n⟩ := x
    rw [List.foldl_cons, ih]
    cases pl with
    | band c off =>
      rw [show noteBand acc (.band c off, n) = addNew acc c from rfl, mem_addNew_iff]
      simp only [List.mem_cons, Prod.mk.injEq, Place.band.injEq]
      constructor
      · rintro ((h | rfl) | ⟨off', n', h⟩)
        · exact .inl h
        · exact .inr ⟨off, n, .inl ⟨⟨rfl, rfl⟩, rfl⟩⟩
        · exact .inr ⟨off', n', .inr h⟩
      · rintro (h | ⟨off', n', (⟨⟨rfl, -⟩, -⟩ | h)⟩)
        · exact .inl (.inl h)
        · exact .inl (.inr rfl)
        · exact .inr ⟨off', n', h⟩
    | log pos => simp [noteBand]

theorem mem_bandsOf {L : List (Place × Nat)} : b ∈ bandsOf L ↔ ∃ off n, (Place.band b off, n) ∈ L := by
  rw [bandsOf_eq, mem_foldl_noteBand]
  simp

theorem mem_bandsOf_of_pos (h : 0 < inBand b L) : b ∈ bandsOf L := by
  rw [mem_bandsOf]
  induction L with
  | nil => exact absurd h (by simp [inBand])
  | cons x L ih =>
    rw [inBand_cons] at h
    by_cases hL : 0 < inBand b L
    · obtain ⟨off, n, hm⟩ := ih hL
      exact ⟨off, n, List.mem_cons_of_mem _ hm⟩
    · obtain ⟨pl, n⟩ := x
      cases pl with
      | band c off =>
        rw [inBand_band] at h
        by_cases hc : c = b
        · exact ⟨off, n, by rw [hc]; exact List.mem_cons_self⟩
        · rw [if_neg hc] at h
          omega
      | log pos =>
        rw [inBand_log] at h
        omega

/-- A record with live blocks has none left. -/
theorem runsEmptied_eq_true {k l : List Run} : runsEmptied k l = true ↔
    ∃ (i : Nat) (x y : Run), k[i]? = some x ∧ l[i]? = some y ∧ 0 < x.live ∧ y.live = 0 := by
  unfold runsEmptied
  rw [List.any_eq_true]
  constructor
  · rintro ⟨⟨x, y⟩, hm, h⟩
    obtain ⟨i, hi⟩ := List.mem_iff_getElem?.1 hm
    obtain ⟨hx, hy⟩ := List.getElem?_zip_eq_some.1 hi
    exact ⟨i, x, y, hx, hy, of_decide_eq_true h⟩
  · rintro ⟨i, x, y, hx, hy, h⟩
    exact ⟨(x, y), List.mem_iff_getElem?.2 ⟨i, List.getElem?_zip_eq_some.2 ⟨hx, hy⟩⟩, decide_eq_true h⟩

/-- The blocks that an update takes away, in each band and each record. -/
theorem inBand_applyRemovals (l : List Extent) {items : List MapItem} (h : items.Pairwise Apart) (b : Nat) :
    inBand b (applyRemovals l items).2 = inBand b (lostBlocks l items) := by
  rw [← inBand_nonEmpty, applyRemovals_eq, nonEmpty_removals items l [] h]
  rfl

theorem inRun_applyRemovals (l : List Extent) {items : List MapItem} (h : items.Pairwise Apart) (r : Run) :
    inRun r (applyRemovals l items).2 = inRun r (lostBlocks l items) := by
  rw [← inRun_nonEmpty, applyRemovals_eq, nonEmpty_removals items l [] h]
  rfl

theorem band_recounted (p : Part) {items : List MapItem} (h : items.Pairwise Apart) (hb : b < p.bm.bands.length) :
    (p.recounted items).band b = { p.band b with
      valid := (p.band b).valid - inBand b (lostBlocks p.tu.extents items) + inBand b (gainsOf items) } := by
  unfold Part.recounted
  dsimp only
  rw [band_foldl_gainBlocks, band_foldl_loseBlocks, inBand_applyRemovals _ h]
  · rfl
  · exact hb
  · rw [foldl_keeps (fun q => q.bm.bands.length) bands_length_loseBlocks]
    exact hb

theorem runs_recounted (p : Part) {items : List MapItem} (h : items.Pairwise Apart) :
    (p.recounted items).sl.runs = p.sl.runs.map fun r =>
      { r with live := r.live - inRun r (lostBlocks p.tu.extents items) + inRun r (gainsOf items) } := by
  unfold Part.recounted
  dsimp only
  rw [runs_foldl_gainBlocks, runs_foldl_loseBlocks, List.map_map]
  refine List.map_congr_left fun r _ => ?_
  rw [← inRun_applyRemovals _ h]
  rfl

theorem mem_fellBands (p : Part) {items : List MapItem} (h : items.Pairwise Apart) (hb : b < p.bm.bands.length) :
    b ∈ p.fellBands items ↔ ((p.recounted items).band b).valid < (p.band b).valid := by
  unfold Part.fellBands
  rw [List.mem_filter, decide_eq_true_iff]
  refine ⟨fun h => h.2, fun hfell => ⟨mem_bandsOf_of_pos ?_, hfell⟩⟩
  rw [band_recounted p h hb] at hfell
  rw [inBand_applyRemovals _ h]
  dsimp only at hfell
  omega

theorem mapUpdate_store (p : Part) (items : List MapItem) : (p.mapUpdate items).2.store = { p.store with
    follows := p.store.follows ++ [.checks (p.fellBands items) (runsEmptied p.sl.runs (p.recounted items).sl.runs)] } := by
  have hstore : ((p.risesTold items).mapHighCheck p.mapSum).store = p.store := by
    rw [mapHighCheck_keeps Part.store (fun _ _ => Part.raise_store _ _), risesTold_keeps Part.store fun _ _ => rfl]
    exact (sameWork_recounted p items).store
  have hsl : (p.risesTold items).sl = (p.recounted items).sl := risesTold_keeps Part.sl (fun _ _ => rfl) p items
  rw [mapUpdate_eq]
  unfold Part.follow Part.modStore
  dsimp only
  rw [hstore, hsl]

/-- Settles O44. -/
theorem mapUpdateMovesExactlyItsBlocks : Obligations.MapUpdateMovesExactlyItsBlocks := by
  refine ⟨fun l items x hapart => placeAt_update l items x hapart, fun p items hapart => ?_⟩
  have hband : ∀ b, (p.mapUpdate items).2.band b = (p.recounted items).band b :=
    Part.band_congr (by rw [mapUpdate_bm])
  have hruns : (p.mapUpdate items).2.sl.runs = (p.recounted items).sl.runs := by rw [mapUpdate_sl]
  refine ⟨by rw [mapUpdate_tu], fun b hb => (hband b).trans (band_recounted p hapart hb),
    hruns.trans (runs_recounted p hapart), _, _, mapUpdate_store p items, fun b hb => ?_, ?_⟩
  · rw [hband]
    exact mem_fellBands p hapart hb
  · rw [hruns]
    exact runsEmptied_eq_true

end Sys2Proof.Machine
end

section
/-! SUPPORT. DISCARD (R53): its items, what they take from the map, and the end of its admission. -/

namespace Sys2Proof.Machine

open Sys2Proof Sys2Proof.Spec

variable {s : State} {p q : Part} {l : List Extent} {t : Txn} {tag x a n : Nat} {h : Queued}

/-! ### The remove items -/

theorem discardItems_zero (a : Nat) : discardItems 0 a n = [] := rfl

theorem discardItems_of_none (fuel a : Nat) : discardItems (fuel + 1) a 0 = [] := rfl

theorem discardItems_of_some (fuel a : Nat) (h : n ≠ 0) : discardItems (fuel + 1) a n =
    { start := a, len := min n 16777216, place := none } ::
      discardItems fuel (a + min n 16777216) (n - min n 16777216) := if_neg h

/-- What the items of a DISCARD are: the range, in pieces that follow one another. -/
structure Slices (items : List MapItem) (a n : Nat) : Prop where
  apart : items.Pairwise Apart
  inside : ∀ it ∈ items, a ≤ it.start ∧ it.start + it.len ≤ a + n
  covers : ∀ x, within x a n → ∃ it ∈ items, within x it.start it.len
  removes : ∀ it ∈ items, it.place = none

theorem slices_discardItems : ∀ (fuel a n : Nat), n ≤ fuel * 16777216 → Slices (discardItems fuel a n) a n := by
  intro fuel
  induction fuel with
  | zero =>
    intro a n hn
    rw [discardItems_zero]
    exact ⟨.nil, by simp, fun x hx => by simp [within] at hx; omega, by simp⟩
  | succ fuel ih =>
    intro a n hn
    by_cases h0 : n = 0
    · subst h0
      rw [discardItems_of_none]
      exact ⟨.nil, by simp, fun x hx => by simp [within] at hx; omega, by simp⟩
    obtain ⟨hapart, hinside, hcovers, hremoves⟩ := ih (a + min n 16777216) (n - min n 16777216) (by omega)
    rw [discardItems_of_some fuel a h0]
    refine ⟨List.pairwise_cons.2 ⟨fun it hit => .inl (hinside it hit).1, hapart⟩, ?_, fun x hx => ?_, ?_⟩
    · rintro it (_ | ⟨_, hit⟩)
      · exact ⟨Nat.le_refl _, by dsimp only; omega⟩
      · have := hinside it hit
        omega
    · by_cases hfirst : x < a + min n 16777216
      · exact ⟨_, List.mem_cons_self, hx.1, hfirst⟩
      · obtain ⟨it, hit, hin⟩ := hcovers x (by simp only [within] at *; omega)
        exact ⟨it, List.mem_cons_of_mem _ hit, hin⟩
    · rintro it (_ | ⟨_, hit⟩)
      · rfl
      · exact hremoves it hit

/-- The items that a DISCARD of a range takes to the map (R53). -/
theorem slices_discard (a : Nat) (h : n ≤ 2 ^ 32) : Slices (discardItems discardFuel a n) a n :=
  slices_discardItems _ a n (h.trans (by decide))

/-- Where the map holds a block after a DISCARD's update. -/
theorem placeAt_discard {items : List MapItem} (hs : Slices items a n) (l : List Extent) (x : Nat) :
    (within x a n → placeAt (applyInsertions (applyRemovals l items).1 items) x = none) ∧
    (¬within x a n → placeAt (applyInsertions (applyRemovals l items).1 items) x = placeAt l x) := by
  obtain ⟨hin, hout⟩ := placeAt_update l items x hs.apart
  refine ⟨fun hx => ?_, fun hx => hout fun it hit hxi => hx ?_⟩
  · obtain ⟨it, hit, hxi⟩ := hs.covers x hx
    rw [hin it hit hxi, hs.removes it hit]
    rfl
  · have := hs.inside it hit
    simp only [within] at *
    omega

/-! ### The blocks removed -/

/-- The blocks of a list of places. -/
theorem sumOf_eq (L : List (Place × Nat)) : ∀ n, L.foldl (fun n x => n + x.2) n = n + (L.map Prod.snd).sum := by
  induction L with
  | nil => exact fun n => rfl
  | cons x L ih => exact fun n => by rw [List.foldl_cons, ih]; simp [Nat.add_assoc]

theorem sumOf_nonEmpty (L : List (Place × Nat)) : sumOf (fun x => x.2) L = ((nonEmpty L).map Prod.snd).sum := by
  rw [sumOf, sumOf_eq, Nat.zero_add]
  induction L with
  | nil => rfl
  | cons x L ih =>
    unfold nonEmpty
    rw [List.filter_cons, List.map_cons, List.sum_cons, ih]
    split
    · rfl
    · next h =>
      have : x.2 = 0 := by simpa using h
      rw [this, Nat.zero_add]
      rfl

/-- The blocks that a DISCARD's update removes. -/
def removedBlocks (l : List Extent) (items : List MapItem) : Nat := sumOf (fun x => x.2) (applyRemovals l items).2

theorem removedBlocks_eq_zero {items : List MapItem} (h : items.Pairwise Apart) :
    removedBlocks l items = 0 ↔ ∀ it ∈ items, ∀ e ∈ l, lostPiece it e = none := by
  unfold removedBlocks
  rw [sumOf_nonEmpty, applyRemovals_eq, nonEmpty_removals items l [] h]
  have hnil : nonEmpty ([] : List (Place × Nat)) = [] := rfl
  rw [hnil, List.nil_append]
  have hpos : ∀ y ∈ lostBlocks l items, 0 < y.2 := by
    intro y hy
    obtain ⟨k, hk, hyk⟩ := List.mem_flatten.1 hy
    obtain ⟨it, _, rfl⟩ := List.mem_map.1 hk
    obtain ⟨e, _, he⟩ := List.mem_filterMap.1 hyk
    unfold lostPiece at he
    dsimp only at he
    split at he
    · rw [← Option.some.inj he]
      dsimp only
      omega
    · exact absurd he (by simp)
  constructor
  · intro hsum it hit e he
    by_contra hne
    obtain ⟨y, hy⟩ := Option.ne_none_iff_exists'.1 hne
    have hmem : y ∈ lostBlocks l items :=
      List.mem_flatten.2 ⟨_, List.mem_map_of_mem hit, List.mem_filterMap.2 ⟨e, he, hy⟩⟩
    have hzero := List.sum_eq_zero_iff.1 hsum _ (List.mem_map_of_mem hmem)
    have := hpos y hmem
    omega
  · intro hnone
    have hempty : lostBlocks l items = [] := by
      refine List.flatten_eq_nil_iff.2 fun k hk => ?_
      obtain ⟨it, hit, rfl⟩ := List.mem_map.1 hk
      exact List.filterMap_eq_nil_iff.2 fun e he => hnone it hit e he
    rw [hempty]
    rfl

/-- Nothing is removed where no entry holds a block of the range. -/
theorem removedBlocks_of_outside {items : List MapItem} (hs : Slices items a n)
    (hout : ∀ e ∈ l, e.start + e.len ≤ a ∨ a + n ≤ e.start) : removedBlocks l items = 0 :=
  (removedBlocks_eq_zero hs.apart).2 fun it hit e he => lostPiece_eq_none (by
    have := hs.inside it hit
    have := hout e he
    omega)

/-- An entry that holds a block of the range loses it. -/
theorem removedBlocks_of_holds {items : List MapItem} {e : Extent} (hs : Slices items a n) (he : e ∈ l)
    (hx : e.Holds x) (hin : within x a n) : removedBlocks l items ≠ 0 := by
  intro hzero
  obtain ⟨it, hit, hxi⟩ := hs.covers x hin
  have hnone := (removedBlocks_eq_zero hs.apart).1 hzero it hit e he
  have hsome : lostPiece it e ≠ none := by
    unfold lostPiece
    dsimp only
    rw [if_pos (by simp only [within, Extent.Holds] at *; omega)]
    exact Option.some_ne_none _
  exact hsome hnone

/-- Where nothing is removed, the range is a hole. -/
theorem placeAt_of_nothing_removed {items : List MapItem} (hs : Slices items a n) (h0 : removedBlocks l items = 0)
    (hin : within x a n) : placeAt l x = none :=
  placeAt_eq_none.2 fun _ he hx => removedBlocks_of_holds hs he hx hin h0

/-! ### The admission of a DISCARD (R53, R169) -/

theorem mapUpdate_tx (p : Part) (items : List MapItem) : (p.mapUpdate items).2.tx = p.tx :=
  (mapUpdate_keeps Part.tx (fun _ _ => rfl) (fun _ _ => Part.raise_tx _ _) (fun _ _ => rfl) p items).trans
    (sameWork_recounted p items).tx

/-- The part when the reserve of a DISCARD is taken and it has left the Request Queue. -/
def Part.discardBegun (p : Part) : Part := (p.takeReserve 1).popHead

/-- The record of a DISCARD that is admitted. -/
def discardTxn (h : Queued) (n : Nat) : Txn := { newTxn h 1 with ended := true, removed := n }

theorem admitDiscard_eq (p : Part) (h : Queued) (a n : Nat) :
    let items := discardItems discardFuel a n
    let t := discardTxn h (removedBlocks p.discardBegun.tu.extents items)
    p.admitDiscard h a n = if removedBlocks p.discardBegun.tu.extents items = 0 then
      (p.discardBegun.addTxn t).endTxn t .ok [item 5 0]
      else ((p.discardBegun.mapUpdate items).2.addTxn t).follow (.discard h.tag) := rfl

theorem admitHead_discard (hh : Heads s h) (hreq : h.req = .discard a n)
    (hroom : s.part.tu.extents.length + s.part.tu.reserveTotal + 1 ≤ 262144) :
    s.part.admitHead .discard = s.part.admitDiscard h a n := by
  have htest := headTest_of_heads hh
  rw [hreq] at htest
  dsimp only at htest
  rw [reserveTest_of_room hroom] at htest
  unfold Part.admitHead
  rw [if_neg (by simp [admits_of_heads hh]), hh.front]
  dsimp only
  rw [if_pos (by rw [hreq]; rfl), htest]

theorem takeReserve_tu (p : Part) (n : Nat) : (p.takeReserve n).tu = { p.tu with reserveTotal := p.tu.reserveTotal + n } :=
  mapHighCheck_keeps Part.tu (fun _ _ => Part.raise_tu _ _) _ _

theorem takeReserve_tx (p : Part) (n : Nat) : (p.takeReserve n).tx = p.tx :=
  mapHighCheck_keeps Part.tx (fun _ _ => Part.raise_tx _ _) _ _

theorem still_discardBegun (h : p.Still) : p.discardBegun.Still := still_popHead (still_takeReserve h)

theorem discardBegun_eq (h : p.Still) : p.discardBegun =
    { p.takeReserve 1 with tx := { (p.takeReserve 1).tx with queue := (p.takeReserve 1).tx.queue.tail } } :=
  popHead_of_still (still_takeReserve h)

theorem discardBegun_tu (h : p.Still) : p.discardBegun.tu = { p.tu with reserveTotal := p.tu.reserveTotal + 1 } := by
  rw [discardBegun_eq h]
  exact takeReserve_tu p 1

theorem discardBegun_tx (h : p.Still) : p.discardBegun.tx = { p.tx with queue := p.tx.queue.tail } := by
  rw [discardBegun_eq h, takeReserve_tx]

/-- An update of an event to which a step is placed takes that step. -/
theorem mem_updates_after (h : p.Still) {f : Follow} (hf : f ∈ p.store.follows) :
    ∃ u ∈ (after s p).part.store.updates, f ∈ u.follows ∧ u.done = false := by
  have hne : p.store.follows ≠ [] := List.ne_nil_of_mem hf
  rw [after_part_of_still h, Part.startUpdate, if_neg fun hc => hne hc.2]
  exact ⟨_, List.mem_append_right _ List.mem_cons_self, hf, rfl⟩

/-- The state after an event in which a transaction of a part that is still ends. -/
structure TxnEnded (p q : Part) (t : Txn) (r : Result) (items : List Item) : Prop where
  tu : q.tu = { p.tu with reserveTotal := p.tu.reserveTotal - t.reserve }
  tx : q.tx = { p.tx with txns := p.tx.txns.filter fun y => decide (y.tag ≠ t.tag) }
  mp : q.mp = p.mp
  reserved : q.li.reserved = p.li.reserved - 1
  answered : finalMsg t.kind t.hold t.tag r items ∈ q.li.queue

theorem txnEnded_after_endTxn (h : p.Still) (t : Txn) (r : Result) (items : List Item) :
    TxnEnded p (after s (p.endTxn t r items)).part t r items := by
  have hst : ((p.ended t r items).note .drain).Still := still_note (still_ended h t r items)
  rw [endTxn_of_still h]
  refine ⟨(after_tu_of_still hst).trans rfl, (after_tx_of_still hst).trans rfl, (after_mp_of_still hst).trans rfl,
    (after_reserved_of_still hst).trans rfl, ?_⟩
  rw [after_queue_of_still hst]
  exact List.mem_append_right _ List.mem_cons_self

theorem filter_addTxn {txns : List Txn} (hnew : ∀ x ∈ txns, x.tag ≠ t.tag) :
    (txns ++ [t]).filter (fun y => decide (y.tag ≠ t.tag)) = txns := by
  rw [List.filter_append, List.filter_eq_self.2 fun x hx => by simpa using hnew x hx]
  simp

/-- Settles O42. -/
theorem discardAdmittedEmptiesItsRange : Obligations.DiscardAdmittedEmptiesItsRange := by
  intro s h a n hh hst hreq h1 h32 hnew hroom
  have hslices := slices_discard a h32
  have hbegun := still_discardBegun hst
  have htu := discardBegun_tu hst
  have htx := discardBegun_tx hst
  have hext : s.part.discardBegun.tu.extents = s.part.tu.extents := by rw [htu]
  have hadmit := (admitHead_discard hh hreq hroom).trans (admitDiscard_eq s.part h a n)
  rw [hext] at hadmit
  have hnewBegun : ∀ r, ∀ x ∈ s.part.discardBegun.tx.txns, x.tag ≠ (discardTxn h r).tag := by
    rw [htx]
    exact fun _ => hnew
  by_cases h0 : removedBlocks s.part.tu.extents (discardItems discardFuel a n) = 0
  · rw [if_pos h0] at hadmit
    have hend := txnEnded_after_endTxn (s := s) (still_addTxn (t := discardTxn h
      (removedBlocks s.part.tu.extents (discardItems discardFuel a n))) hbegun)
      (discardTxn h (removedBlocks s.part.tu.extents (discardItems discardFuel a n))) .ok [item 5 0]
    have hends : (after s ((s.part.discardBegun.addTxn (discardTxn h
        (removedBlocks s.part.tu.extents (discardItems discardFuel a n)))).endTxn (discardTxn h
        (removedBlocks s.part.tu.extents (discardItems discardFuel a n))) .ok [item 5 0])).part.tu.extents =
        s.part.tu.extents := by
      rw [hend.tu]
      exact hext
    refine ⟨_, (taken_eq_after hh.hears fun p => p.admitHead .discard).trans (by rw [hadmit]), ?_, fun x hx => ?_,
      fun x hx => by rw [hends], fun _ => ⟨?_, hends, ?_⟩, fun ⟨e, he, hlen, hlow, hhigh⟩ => ?_⟩
    · rw [hend.tx]
      exact congrArg TxnUnit.queue htx
    · rw [hends]
      exact placeAt_of_nothing_removed hslices h0 hx
    · rw [hend.tx]
      exact (filter_addTxn (hnewBegun _)).trans (by rw [htx])
    · have hmsg := hend.answered
      rw [finalMsg_of_long (by rw [Txn.kind, show (discardTxn h _).req = h.req from rfl, hreq]; rfl)] at hmsg
      rw [Txn.kind, show (discardTxn h _).req = h.req from rfl, hreq] at hmsg
      exact hmsg
    · exact absurd h0 (removedBlocks_of_holds (x := max a e.start) hslices he
        (by simp only [Extent.Holds]; omega) (by simp only [within]; omega))
  · rw [if_neg h0] at hadmit
    have hstill : (((s.part.discardBegun.mapUpdate (discardItems discardFuel a n)).2.addTxn (discardTxn h
        (removedBlocks s.part.tu.extents (discardItems discardFuel a n)))).follow (.discard h.tag)).Still :=
      still_follow (still_addTxn (still_mapUpdate hbegun))
    have hmapTx : (s.part.discardBegun.mapUpdate (discardItems discardFuel a n)).2.tx = s.part.discardBegun.tx := by
      rw [mapUpdate_tx]
    have hends := (congrArg TransUnit.extents (after_tu_of_still (s := s) hstill)).trans
      (congrArg TransUnit.extents (mapUpdate_tu s.part.discardBegun (discardItems discardFuel a n)))
    dsimp only at hends
    rw [hext] at hends
    refine ⟨_, (taken_eq_after hh.hears fun p => p.admitHead .discard).trans (by rw [hadmit]), ?_, fun x hx => ?_,
      fun x hx => ?_, fun hout => absurd (removedBlocks_of_outside hslices hout) h0, fun _ => ?_⟩
    · rw [after_tx_of_still hstill]
      exact (congrArg TxnUnit.queue hmapTx).trans (congrArg TxnUnit.queue htx)
    · rw [hends]
      exact (placeAt_discard hslices _ x).1 hx
    · rw [hends]
      exact (placeAt_discard hslices _ x).2 hx
    · obtain ⟨u, hu, hfollow, -⟩ := mem_updates_after (s := s) hstill
        (f := .discard h.tag) (List.mem_append_right _ List.mem_cons_self)
      refine ⟨discardTxn h (removedBlocks s.part.tu.extents (discardItems discardFuel a n)), u,
        (txn_congr (after_tx_of_still hstill) _).trans
          (txn_addTxn (p := (s.part.discardBegun.mapUpdate (discardItems discardFuel a n)).2) (t := discardTxn h
            (removedBlocks s.part.tu.extents (discardItems discardFuel a n))) ?_),
        rfl, Nat.pos_of_ne_zero h0, hu, hfollow⟩
      rw [hmapTx]
      exact hnewBegun _

end Sys2Proof.Machine
end

section
/-! SUPPORT. The ends of transactions (R155, R170, R173). -/

namespace Sys2Proof.Machine

open Sys2Proof Sys2Proof.Spec

variable {s : State} {p q : Part} {t : Txn} {tag : Nat}

/-- Nothing stands still in a part that is not being reset. -/
theorem unlessReset_of_no_reset (h : p.sv.reset = none) (f : Part → Part) : p.unlessReset f = f p :=
  if_neg (by simp [Part.resetting, h])

/-- No order of an owner is in the Order Queue. -/
theorem outstanding_eq_zero {w : Owner} : p.outstanding w = 0 ↔ ∀ o ∈ p.mp.orders, o.owner ≠ w := by
  simp [Part.outstanding, List.countP_eq_zero]

/-- The map update of a PLACE is due (R173). -/
theorem readyToMap_eq_true : p.readyToMap t = true ↔ t.req.kind = .place ∧ t.ended = false ∧ t.outcome = none ∧
    (∀ c ∈ t.pieces, c.succeeded = true) ∧ t.toJoin = [] ∧ ∀ o ∈ p.mp.orders, o.owner ≠ .txn t.tag := by
  simp only [Part.readyToMap, Bool.and_eq_true, decide_eq_true_eq, Bool.not_eq_true', Option.isNone_iff_eq_none,
    List.all_eq_true, List.isEmpty_iff, outstanding_eq_zero, and_assoc, ne_eq]
  exact Iff.rfl

theorem placeMap_of_ready (ht : p.txn tag = some t) (h : p.readyToMap t = true) : p.placeMap tag =
    ((p.mapUpdate t.mapItems).2.modTxn tag fun x => { x with ended := true }).follow (.place tag) := by
  unfold Part.placeMap
  rw [ht]
  exact if_pos h

theorem placeMap_of_not_ready (ht : p.txn tag = some t) (h : ¬p.readyToMap t = true) : p.placeMap tag = p := by
  unfold Part.placeMap
  rw [ht]
  exact if_neg h

theorem cancellingEnd_of_outcome {r : Result} (ht : p.txn tag = some t) (hout : t.outcome = some r) (hretry : t.retries = [])
    (hidle : ∀ o ∈ p.mp.orders, o.owner ≠ .txn tag) : p.cancellingEnd tag = p.endTxn t r (failItems t) := by
  unfold Part.cancellingEnd
  rw [ht]
  dsimp only
  rw [hout]
  exact if_pos ⟨outstanding_eq_zero.2 hidle, hretry⟩

theorem fetchEnd_of_outcome {r : Result} (ht : p.txn tag = some t) (hk : t.req.kind = .fetch) (hout : t.outcome = some r)
    (hretry : t.retries = []) (hjoin : t.toJoin = []) (hidle : ∀ o ∈ p.mp.orders, o.owner ≠ .txn tag) :
    p.fetchEnd tag = p.endTxn t r (failItems t) := by
  unfold Part.fetchEnd
  rw [ht]
  dsimp only
  rw [if_pos ⟨hk, outstanding_eq_zero.2 hidle, hretry, hjoin⟩, hout]

/-! ### The writes of a PLACE that end (R31, R172) -/

/-- A transaction with other pieces. -/
def Txn.withPieces (t : Txn) (l : List Piece) : Txn := { t with pieces := l }

/-- The writes of a transaction's pieces have ended from p to q: the bands and the log have moved on, and of the
transactions only its pieces have. -/
structure Landed (tag : Nat) (p q : Part) : Prop where
  tu : q.tu = p.tu
  orders : q.mp.orders = p.mp.orders
  reserved : q.li.reserved = p.li.reserved
  others : q.tx.txns.filter (fun x => decide (x.tag ≠ tag)) = p.tx.txns.filter fun x => decide (x.tag ≠ tag)
  own : ∀ t, p.txn tag = some t → ∃ l, q.txn tag = some (t.withPieces l)

theorem Landed.refl (tag : Nat) (p : Part) : Landed tag p p := ⟨rfl, rfl, rfl, rfl, fun t h => ⟨t.pieces, h⟩⟩

theorem Landed.trans {r : Part} (h : Landed tag p q) (k : Landed tag q r) : Landed tag p r := by
  refine ⟨k.tu.trans h.tu, k.orders.trans h.orders, k.reserved.trans h.reserved, k.others.trans h.others, fun t ht => ?_⟩
  obtain ⟨l, hl⟩ := h.own t ht
  obtain ⟨l', hl'⟩ := k.own _ hl
  exact ⟨l', hl'⟩

theorem landed_of_sameWork (h : p.SameWork q) : Landed tag p q := by
  obtain ⟨l, g, hli⟩ := h.li
  exact ⟨h.tu, h.owners.orders, by rw [hli], by rw [h.tx], fun t ht => ⟨t.pieces, (txn_congr h.tx tag).trans ht⟩⟩

theorem filter_modWhere_tag (f : Txn → Txn) (hf : ∀ x, (f x).tag = x.tag) (l : List Txn) :
    (modWhere (fun x => decide (x.tag = tag)) f l).filter (fun x => decide (x.tag ≠ tag)) =
      l.filter fun x => decide (x.tag ≠ tag) := by
  rw [modWhere_eq fun x : Txn => x.tag = tag]
  induction l with
  | nil => rfl
  | cons x l ih =>
    rw [List.map_cons]
    by_cases h : x.tag = tag
    · rw [if_pos h, List.filter_cons_of_neg (by simp [hf, h]), List.filter_cons_of_neg (by simp [h]), ih]
    · rw [if_neg h, List.filter_cons_of_pos (by simp [h]), List.filter_cons_of_pos (by simp [h]), ih]

theorem landed_modPlacePiece (p : Part) (i : Nat) (f : Piece → Piece) : Landed tag p (p.modPlacePiece tag i f) := by
  refine ⟨rfl, rfl, rfl, filter_modWhere_tag _ (by exact fun _ => rfl) _, fun t ht => ⟨modAt t.pieces i f, ?_⟩⟩
  unfold Part.modPlacePiece
  rw [txn_modTxn (by exact fun _ => rfl), ht]
  rfl

theorem landed_land (p : Part) (pl : Place) (n : Nat) : Landed tag p (p.land pl n) := landed_of_sameWork (sameWork_land (.refl p))

theorem landed_landOld (p : Part) (i : Nat) (c : Piece) : Landed tag p (p.landOld tag i c) := by
  unfold Part.landOld
  split
  · split
    · exact (landed_modPlacePiece p i _).trans (landed_land _ _ _)
    · exact .refl tag p
  · exact .refl tag p

theorem landed_landNew (p : Part) (i : Nat) (c : Piece) : Landed tag p (p.landNew tag i c) := by
  unfold Part.landNew
  split
  · exact (landed_modPlacePiece p i _).trans (landed_land _ _ _)
  · exact .refl tag p

theorem landed_foldl {α : Type} {f : Part → α → Part} (hf : ∀ p x, Landed tag p (f p x)) (l : List α) :
    ∀ p, Landed tag p (l.foldl f p) := by
  induction l with
  | nil => exact fun p => .refl tag p
  | cons x l ih => exact fun p => (hf p x).trans (ih _)

theorem landed_landPositions (p : Part) (tag : Nat) : Landed tag p (p.landPositions tag) := by
  unfold Part.landPositions
  split
  · exact .refl tag p
  · next t _ =>
    have hold := landed_foldl (tag := tag) (f := fun p (x : Piece × Nat) => p.landOld tag x.2 x.1)
      (fun p x => landed_landOld p x.2 x.1) t.pieces.zipIdx p
    dsimp only
    split
    · exact hold.trans (landed_foldl (fun p (x : Piece × Nat) => landed_landNew p x.2 x.1) _ _)
    · exact hold

/-- What the end of a transaction leaves, after writes that ended before it. -/
theorem ends_of_txnEnded {r : Part} {x : Result} {items : List Item} (hland : Landed tag p q) (hend : TxnEnded q r t x items)
    (htag : t.tag = tag) (hlong : t.kind.isLong = true) :
    r.tx.txns = p.tx.txns.filter (fun x => decide (x.tag ≠ tag)) ∧ r.tu.reserveTotal = p.tu.reserveTotal - t.reserve ∧
    r.tu.extents = p.tu.extents ∧ r.li.reserved = p.li.reserved - 1 ∧ last t.kind t.hold tag x items ∈ r.li.queue := by
  subst htag
  refine ⟨by rw [hend.tx, ← hland.others], by rw [hend.tu, hland.tu], by rw [hend.tu, hland.tu],
    by rw [hend.reserved, hland.reserved], ?_⟩
  rw [← finalMsg_of_long hlong]
  exact hend.answered

/-- Settles O56. -/
theorem transactionsReachTheirEnds : Obligations.TransactionsReachTheirEnds := by
  intro s tag t hs hr hst hreset ht htag
  dsimp only
  have hready : s.part.readyToMap t = true ↔ t.req.kind = .place ∧ t.ended = false ∧ t.outcome = none ∧
      (∀ c ∈ t.pieces, c.succeeded = true) ∧ t.toJoin = [] ∧ ∀ o ∈ s.part.mp.orders, o.owner ≠ .txn tag := by
    rw [readyToMap_eq_true, htag]
  have hexec : ∀ f : Part → Part, s.taken (fun p => p.unlessReset f) = .next (after s (f s.part)) := fun f => by
    rw [taken_eq_after hs, unlessReset_of_no_reset hreset]
  rw [← hready]
  refine ⟨fun hdue => ?_, fun hdue => ?_, fun r hout hidle hretry hk => ?_, fun hk hidle hretry => ?_⟩
  · have hstill : (((s.part.mapUpdate t.mapItems).2.modTxn tag fun x => { x with ended := true }).follow (.place tag)).Still :=
      still_follow (still_modTxn (still_mapUpdate hst))
    have htu := (after_tu_of_still (s := s) hstill).trans (mapUpdate_tu s.part t.mapItems)
    refine ⟨_, (hexec fun p => p.placeMap tag).trans (by rw [placeMap_of_ready ht hdue]), ?_, ?_, ?_,
      mem_updates_after hstill (List.mem_append_right _ List.mem_cons_self)⟩
    · rw [htu, Txn.mapItems]
    · rw [htu]
    · refine (txn_congr (after_tx_of_still hstill) tag).trans ?_
      refine (txn_modTxn (p := (s.part.mapUpdate t.mapItems).2) (by exact fun _ => rfl)).trans ?_
      rw [txn_congr (mapUpdate_tx _ _), ht]
      rfl
  · refine taken_of_idle (f := fun p => p.unlessReset fun p => p.placeMap tag) hs hr ?_
    rw [unlessReset_of_no_reset hreset, placeMap_of_not_ready ht hdue]
  · have hland := landed_landPositions s.part tag
    obtain ⟨l, hl⟩ := hland.own t ht
    have hend := txnEnded_after_endTxn (s := s) (still_landPositions (t := tag) hst) (t.withPieces l) r (failItems t)
    have hitems : failItems (t.withPieces l) = failItems t := rfl
    have hlong : (t.withPieces l).kind.isLong = true := by
      rw [show (t.withPieces l).kind = t.req.kind from rfl]
      rcases hk with hk | hk <;> rw [hk] <;> rfl
    exact ⟨_, (hexec fun p => (p.landPositions tag).cancellingEnd tag).trans (by
      rw [cancellingEnd_of_outcome hl hout hretry (by rw [hland.orders]; exact hidle.2)]
      exact congrArg (fun x => Host.Outcome.next (after s ((s.part.landPositions tag).endTxn (t.withPieces l) r x))) hitems),
      ends_of_txnEnded (t := t.withPieces l) (items := failItems t) hland hend htag hlong⟩
  · have hlong : t.kind.isLong = true := by
      rw [Txn.kind, hk]
      rfl
    cases hout : t.outcome with
    | none =>
      have hend := txnEnded_after_endTxn (s := s) (still_count (c := 1) (f := Tally.addFetched t.blocksRead) hst) t .ok
        t.fetchItems
      refine ⟨_, (hexec fun p => p.fetchEnd tag).trans (by
        rw [fetchEnd_of_nothing ht hk hout hretry hidle.1 hidle.2]), fun _ => ?_, fun r h => absurd h (by simp)⟩
      rw [← hk]
      exact ends_of_txnEnded (landed_of_sameWork (sameWork_count (.refl s.part))) hend htag hlong
    | some r =>
      have hend := txnEnded_after_endTxn (s := s) hst t r (failItems t)
      refine ⟨_, (hexec fun p => p.fetchEnd tag).trans (by
        rw [fetchEnd_of_outcome ht hk hout hretry hidle.1 hidle.2]), fun h => absurd h (by simp), fun x hx => ?_⟩
      rw [← Option.some.inj hx, ← hk]
      exact ends_of_txnEnded (.refl tag s.part) hend htag hlong

end Sys2Proof.Machine
end

section
/-! SUPPORT. The release check (R32) as the statements read it, and the settlement of a remap (R60, R61). -/

namespace Sys2Proof.Machine

open Sys2Proof Sys2Proof.Spec

variable {s : State} {p q : Part} {b x : Nat}

/-! ### The release check (R32) -/

theorem band_rewind_self (h : b < p.bm.bands.length) : (p.rewind b).band b = rewound (p.band b) := by
  rw [Part.band_rewind, if_pos ⟨rfl, h⟩]
  rfl

theorem band_rewind_other (h : x ≠ b) : (p.rewind b).band x = p.band x := by
  rw [Part.band_rewind, if_neg fun hc => h hc.1]

/-- The bands after the release check of one of them. -/
theorem band_releaseCheck (p : Part) (b : Nat) (hx : x < p.bm.bands.length) :
    (p.releaseCheck b).band x = if x = b then checked (p.band b) else p.band x := by
  unfold Part.releaseCheck checked
  dsimp only
  simp only [releasable_eq_true]
  by_cases hb : x = b
  · subst hb
    rw [if_pos rfl]
    split
    · exact band_rewind_self hx
    · rfl
  · rw [if_neg hb]
    split
    · exact band_rewind_other hb
    · rfl

theorem countFell_bm (p : Part) (b : Nat) : (p.countFell b).bm = (p.releaseCheck b).bm := by
  unfold Part.countFell
  dsimp only
  split <;> rfl

theorem band_countFell (p : Part) (b : Nat) (hx : x < p.bm.bands.length) :
    (p.countFell b).band x = if x = b then checked (p.band b) else p.band x := by
  rw [Part.band_congr (congrArg BandManager.bands (countFell_bm p b)), band_releaseCheck p b hx]

/-- The bands after counts of one of them have fallen. -/
theorem band_dropCount (p : Part) (b : Nat) (f : Band → Band) (hx : x < p.bm.bands.length) :
    (p.dropCount b f).band x = if x = b then checked (f (p.band b)) else p.band x := by
  have hlen : x < (p.modBand b f).bm.bands.length := by
    rw [Part.modBand_length]
    exact hx
  unfold Part.dropCount
  rw [band_countFell _ b hlen]
  by_cases hb : x = b
  · subst hb
    rw [if_pos rfl, if_pos rfl, band_modBand_self hx]
  · rw [if_neg hb, if_neg hb, Part.band_modBand, if_neg fun hc => hb hc.1]

theorem length_dropCount (p : Part) (b : Nat) (f : Band → Band) :
    (p.dropCount b f).bm.bands.length = p.bm.bands.length := by
  unfold Part.dropCount
  rw [Part.countFell_length, Part.modBand_length]

/-! ### What the checks leave of the tallies -/

theorem raise_tallies (p : Part) (f : EventBits) : (p.raise f).sv.tallies = p.sv.tallies := by
  rw [Part.raise_sv]

theorem rewind_tallies (p : Part) (b : Nat) : (p.rewind b).sv.tallies = p.sv.tallies := by
  unfold Part.rewind
  dsimp only
  split
  · rw [raise_tallies]
    unfold Part.retireTracks
    dsimp only
    split <;> rfl
  · unfold Part.reportFree
    dsimp only
    split
    · rfl
    · split
      · exact raise_tallies _ _
      · rfl

theorem dropCount_tallies (p : Part) (b : Nat) (f : Band → Band) : (p.dropCount b f).sv.tallies = p.sv.tallies := by
  have hcheck : ∀ q : Part, (q.releaseCheck b).sv.tallies = q.sv.tallies := fun q => by
    unfold Part.releaseCheck
    dsimp only
    split
    · exact rewind_tallies _ _
    · rfl
  unfold Part.dropCount Part.countFell
  dsimp only
  split
  · exact hcheck _
  · exact hcheck _

/-- What the level checks do not touch: they raise a flag, make a report, and set the favoured lane. -/
theorem levelChecks_keeps {γ : Type} (g : Part → γ) (hr : ∀ q f, g (q.raise f) = g q) (hn : ∀ q n, g (q.note n) = g q)
    (hm : ∀ q f, g (q.modMp f) = g q) (p o : Part) : g (p.levelChecks o) = g p := by
  have hraise : g (if !o.fillHigh && p.fillHigh then p.raise evStageHigh else p) = g p := by
    split
    · exact hr p _
    · rfl
  have hnote : g (if o.demandHigh = p.demandHigh then (if !o.fillHigh && p.fillHigh then p.raise evStageHigh else p) else
      (if !o.fillHigh && p.fillHigh then p.raise evStageHigh else p).note (.demand o.demandHigh p.demandHigh)) = g p := by
    split
    · exact hraise
    · exact (hn _ _).trans hraise
  unfold Part.levelChecks
  dsimp only
  split
  · exact hnote
  · exact (hm _ _).trans hnote

theorem levelChecks_tallies (p o : Part) : (p.levelChecks o).sv.tallies = p.sv.tallies :=
  levelChecks_keeps (fun q => q.sv.tallies) raise_tallies (fun _ _ => rfl) (fun _ _ => rfl) p o

theorem freeRuns_tallies (p : Part) (a n : Nat) (g : Run → Bool) (f : Run → Run) :
    (p.freeRuns a n g f).sv.tallies = p.sv.tallies := by
  unfold Part.freeRuns
  split
  · unfold Part.tailCheck
    dsimp only
    split
    · rfl
    · exact levelChecks_tallies _ _
  · rfl

/-! ### The run records under a remap (R97) -/

theorem touches_eq_true {pos n : Nat} {r : Run} : touches pos n r = true ↔ Meets pos n r := by
  unfold touches runOverlap Meets
  rw [decide_eq_true_iff]
  omega

theorem unholdRuns_runs {pos n : Nat} (h : ∀ y ∈ p.sl.runs, Meets pos n y → y.hold ≠ 1) :
    (p.unholdRuns pos n).sl.runs = p.sl.runs.map fun y => if Meets pos n y then { y with hold := y.hold - 1 } else y := by
  have hnone : p.anyTouched pos n (fun r => decide (r.hold = 1)) = false := by
    refine List.any_eq_false.2 fun y hy => ?_
    rw [Bool.and_eq_true, touches_eq_true, decide_eq_true_iff]
    exact fun hc => h y hy hc.1 hc.2
  unfold Part.unholdRuns Part.freeRuns
  rw [if_neg (by simp [hnone])]
  refine List.map_congr_left fun y _ => ?_
  by_cases hm : Meets pos n y
  · rw [if_pos hm, if_pos (touches_eq_true.2 hm)]
  · rw [if_neg hm, if_neg (mt touches_eq_true.1 hm)]

/-! ### The settlement of a remap (R60, R61) -/

/-- The part when a settled remap's record and reserve are gone. -/
def Part.unlisted (p : Part) (r : Remap) : Part :=
  (p.modTu fun t => { t with remaps := t.remaps.filter fun x => !decide (x.dstBand = r.dstBand ∧ x.dstOff = r.dstOff) }
    ).releaseReserve 2

/-- The part when the counts of its destination have fallen too. -/
def Part.unmapped (p : Part) (r : Remap) : Part :=
  (p.unlisted r).dropCount r.dstBand fun b =>
    { b with pendingRemaps := b.pendingRemaps - 1, inFlight := b.inFlight - 1 }

/-- The part when the counts of a settled remap's source have fallen too. -/
def Part.unsourced (p : Part) (r : Remap) : Part :=
  match r.src with
  | .band b _ => (p.unmapped r).dropCount b fun x => { x with pendingRemaps := x.pendingRemaps - 1 }
  | .log pos => (p.unmapped r).unholdRuns pos r.len

theorem unsourced_band {r : Remap} {c off : Nat} (h : r.src = .band c off) : p.unsourced r =
    (p.unmapped r).dropCount c fun x => { x with pendingRemaps := x.pendingRemaps - 1 } := by
  rw [Part.unsourced, h]

theorem unsourced_log {r : Remap} {pos : Nat} (h : r.src = .log pos) : p.unsourced r = (p.unmapped r).unholdRuns pos r.len := by
  rw [Part.unsourced, h]

/-- The tally that an applied remap adds to. -/
def Tally.addApplied (r : Remap) (n : Nat) (t : Tally) : Tally :=
  match r.src with
  | .log _ => t.addDestaged n
  | .band _ _ => t.addReclaimed n

/-- The piece of its channel's copy that a remap was posted for, as the channel is told. -/
def Chan.told (k : Chan) (r : Remap) (st : CopyPieceState) : Chan :=
  let mine (x : CopyPiece) := decide (x.band = r.dstBand ∧ x.dst = r.dstOff ∧ x.state = .posted)
  { k with copy := k.copy.map fun y => { y with pieces := modWhere mine (fun x => { x with state := st }) y.pieces } }

theorem settleRemap_applied (p : Part) (r : Remap) (n : Nat) : p.settleRemap r (some n) =
    ((((p.unsourced r).count r.cls (Tally.addApplied r n)).modChan r.chan fun k => k.told r .applied)).note (.copy r.chan) := by
  unfold Part.settleRemap Part.unsourced Tally.addApplied
  dsimp only
  cases r.src <;> rfl

theorem settleApplied_eq {r : Remap} {off : Nat}
    (h : p.tu.remaps.find? (fun r => decide (r.dstBand = b ∧ r.dstOff = off) && r.applying) = some r) :
    p.settleApplied b off = p.settleRemap r (some r.applied) := by
  rw [Part.settleApplied, h]

theorem sameWork_unsourced (p : Part) (r : Remap) : (p.unlisted r).SameWork (p.unsourced r) := by
  have hdst : (p.unlisted r).SameWork (p.unmapped r) := sameWork_dropCount (.refl _)
  unfold Part.unsourced
  split
  · exact sameWork_dropCount hdst
  · exact sameWork_unholdRuns hdst

theorem unsourced_tallies (p : Part) (r : Remap) : (p.unsourced r).sv.tallies = p.sv.tallies := by
  have hdst : (p.unmapped r).sv.tallies = p.sv.tallies := dropCount_tallies _ _ _
  unfold Part.unsourced
  split
  · exact (dropCount_tallies _ _ _).trans hdst
  · exact (freeRuns_tallies _ _ _ _ _).trans hdst

theorem unsourced_re (p : Part) (r : Remap) : (p.unsourced r).re = p.re := by
  have hdst : (p.unmapped r).re = p.re := by
    unfold Part.unmapped Part.dropCount
    rw [Part.countFell_re]
    rfl
  unfold Part.unsourced
  split
  · unfold Part.dropCount
    rw [Part.countFell_re]
    exact hdst
  · unfold Part.unholdRuns Part.freeRuns
    split
    · rw [Part.tailCheck_re]
      exact hdst
    · exact hdst

theorem unmapped_sl (p : Part) (r : Remap) : (p.unmapped r).sl = p.sl := by
  unfold Part.unmapped Part.dropCount
  rw [Part.countFell_sl]
  rfl

theorem band_unmapped (p : Part) (r : Remap) (hx : x < p.bm.bands.length) : (p.unmapped r).band x =
    if x = r.dstBand then checked { p.band x with
      pendingRemaps := (p.band x).pendingRemaps - 1, inFlight := (p.band x).inFlight - 1 } else p.band x := by
  refine (band_dropCount _ r.dstBand _ (by exact hx)).trans ?_
  by_cases h : x = r.dstBand
  · rw [if_pos h, if_pos h, h]
    rfl
  · rw [if_neg h, if_neg h]
    rfl

theorem length_unmapped (p : Part) (r : Remap) : (p.unmapped r).bm.bands.length = p.bm.bands.length := length_dropCount _ _ _

theorem band_unsourced_band {r : Remap} {c off : Nat} (h : r.src = .band c off) (hx : x < p.bm.bands.length) :
    (p.unsourced r).band x = if x = c then checked { (p.unmapped r).band x with
      pendingRemaps := ((p.unmapped r).band x).pendingRemaps - 1 } else (p.unmapped r).band x := by
  rw [unsourced_band h, band_dropCount _ c _ (by rw [length_unmapped]; exact hx)]
  by_cases hc : x = c
  · rw [if_pos hc, if_pos hc, hc]
  · rw [if_neg hc, if_neg hc]

theorem band_unsourced_log {r : Remap} {pos : Nat} (h : r.src = .log pos) : (p.unsourced r).band x = (p.unmapped r).band x := by
  rw [unsourced_log h]
  exact Part.band_congr (by rw [Part.unholdRuns, freeRuns_bm]) x

end Sys2Proof.Machine
end

section
/-! SUPPORT. The steps placed after a Map Store update (R177): what each does when the update is durable. -/

namespace Sys2Proof.Machine

open Sys2Proof Sys2Proof.Spec

variable {s : State} {p q : Part} {t : Txn} {tag b x : Nat}

/-! ### Transactions whose update is durable -/

theorem landed_markDone (p : Part) (n : Nat) : Landed tag p (p.markDone n) := ⟨rfl, rfl, rfl, rfl, fun t h => ⟨t.pieces, h⟩⟩

theorem sameWork_checksDone (p : Part) (n : Nat) (bands : List Nat) (tail : Bool) :
    (p.markDone n).SameWork ((p.markDone n).updateChecks bands tail) := sameWork_updateChecks (.refl _)

/-- The part when the writes of a PLACE that were not known to have ended have, and its blocks are tallied. -/
def Part.placed (p : Part) (t : Txn) : Part :=
  (t.pieces.foldl (fun p c => if c.pos.ended then p else p.land c.pos.place c.len) p).count t.cls fun y =>
    (y.addDirect t.directBlocks).addStaged t.stagedBlocks

theorem placeEnd_eq (ht : p.txn tag = some t) (he : t.ended = true) (hk : t.req.kind = .place) :
    p.placeEnd tag = (p.placed t).endTxn t .ok [item 2 t.directBlocks, item 2 t.stagedBlocks] := by
  unfold Part.placeEnd
  rw [ht]
  exact if_pos ⟨he, hk⟩

theorem discardEnd_eq (ht : p.txn tag = some t) (he : t.ended = true) (hk : t.req.kind = .discard) :
    p.discardEnd tag = p.endTxn t .ok [item 5 t.removed] := by
  unfold Part.discardEnd
  rw [ht]
  exact if_pos ⟨he, hk⟩

theorem sameWork_placed (h : p.SameWork q) (t : Txn) : p.SameWork (q.placed t) :=
  sameWork_count (sameWork_foldl (fun _ _ h => sameWork_ite h (sameWork_land h)) _ h)

theorem still_placed (h : p.Still) (t : Txn) : (p.placed t).Still :=
  still_count (still_foldl (fun _ _ h => still_ite h (still_land h)) _ h)

/-- An update with the checks of a map update and one step more. -/
theorem foldl_followUp {bands : List Nat} {tail : Bool} {f : Follow} {n : Nat} {l : List Follow} (h : l = [.checks bands tail, f]) :
    l.foldl Part.followUp (p.markDone n) = ((p.markDone n).updateChecks bands tail).followUp f := by
  rw [h]
  rfl

/-- The step of a command that reports one step's update durable. -/
theorem taken_followDurable (hs : Hears s) {f : Follow} {u : StoreUpdate}
    (hu : s.part.store.updates.find? (fun x => decide (f ∈ x.follows) && !x.done) = some u)
    (hn : s.part.updateOf u.id = some u) :
    s.taken (fun p => p.followDurable f) = .next (after s (u.follows.foldl Part.followUp (s.part.markDone u.id))) := by
  rw [taken_eq_after hs, followDurable_eq hn hu]

theorem followDurable_of_none {f : Follow} (h : ∀ x ∈ p.store.updates, f ∈ x.follows → x.done = true) :
    p.followDurable f = p := by
  have hnone : p.store.updates.find? (fun u => decide (f ∈ u.follows) && !u.done) = none :=
    List.find?_eq_none.2 fun x hx => by
      simp only [Bool.and_eq_true, decide_eq_true_eq, Bool.not_eq_true', not_and, Bool.not_eq_false]
      exact h x hx
  rw [Part.followDurable, hnone]

theorem updateDurable_of_none {n : Nat} (h : ∀ u ∈ p.store.updates, u.id = n → u.done = true) : p.updateDurable n = p := by
  have hnone : p.updateOf n = none :=
    List.find?_eq_none.2 fun x hx => by
      simp only [Bool.and_eq_true, decide_eq_true_eq, Bool.not_eq_true', not_and, Bool.not_eq_false]
      exact h x hx
  rw [Part.updateDurable, hnone]

/-- The command that reports a step's update durable. -/
theorem exec_followDurable {f : Follow} {c : Instr} (h : (∃ tag, f = .place tag ∧ c = .placeUpdateDurable tag) ∨
    (∃ tag, f = .discard tag ∧ c = .discardUpdateDurable tag) ∨ ∃ b off, f = .remap b off ∧ c = .remapUpdateDurable b off)
    (s : State) : exec c s = s.taken fun p => p.followDurable f := by
  rcases h with ⟨tag, rfl, rfl⟩ | ⟨tag, rfl, rfl⟩ | ⟨b, off, rfl, rfl⟩ <;> rfl

/-! ### A remap whose update is durable -/

/-- The bands after the settlement of a remap, as the statement reads it. -/
theorem band_unsourced {r : Remap} (hx : x < p.bm.bands.length) : (p.unsourced r).band x =
    let dst := if x = r.dstBand then checked { p.band x with
      pendingRemaps := (p.band x).pendingRemaps - 1, inFlight := (p.band x).inFlight - 1 } else p.band x
    match r.src with
    | .band c _ => if x = c then checked { dst with pendingRemaps := dst.pendingRemaps - 1 } else dst
    | .log _ => dst := by
  dsimp only
  rw [← band_unmapped p r hx]
  cases hsrc : r.src with
  | band c off => exact band_unsourced_band hsrc hx
  | log pos => exact band_unsourced_log hsrc

theorem told_eq (k : Chan) (r : Remap) : k.told r .applied = { k with copy := k.copy.map fun y =>
    { y with pieces := y.pieces.map fun x =>
        if x.band = r.dstBand ∧ x.dst = r.dstOff ∧ x.state = .posted then { x with state := .applied } else x } } := by
  unfold Chan.told
  simp only [modWhere_eq fun x : CopyPiece => x.band = r.dstBand ∧ x.dst = r.dstOff ∧ x.state = .posted]

theorem addApplied_eq (r : Remap) (n : Nat) : Tally.addApplied r n = fun y => match r.src with
    | .log _ => { y with destaged := min (2 ^ 48 - 1) (y.destaged + n) }
    | .band _ _ => { y with reclaimed := min (2 ^ 48 - 1) (y.reclaimed + n) } := by
  funext y
  unfold Tally.addApplied
  cases r.src <;> rfl

theorem classRec_unsourced (p : Part) (r : Remap) (c : Nat) : (p.unsourced r).classRec c = p.classRec c := by
  obtain ⟨e, a, d, t, hv⟩ := (sameWork_unsourced p r).sv
  unfold Part.classRec
  rw [hv]
  rfl

/-- Settles O52. -/
theorem durableUpdatesTakeTheStepsPlacedAfterThem : Obligations.DurableUpdatesTakeTheStepsPlacedAfterThem := by
  intro s hs hr
  refine ⟨fun n h => ?_, fun n u hu => ?_, ?_, ?_, fun f c u hfc => ⟨fun h => ?_, fun hu hn => ?_⟩, ?_⟩
  · exact taken_of_idle (f := fun p => p.updateDurable n) hs hr (updateDurable_of_none h)
  · have hexec : exec (.storeUpdateDurable n) s = .next (after s (u.follows.foldl Part.followUp (s.part.markDone n))) := by
      refine (taken_eq_after hs fun p => p.updateDurable n).trans ?_
      rw [Part.updateDurable, hu]
    refine ⟨hexec, fun m hm => hexec.trans ?_⟩
    rw [hm]
    rfl
  · intro tag u bands tail t hst hu hn hf ht htag hk he
    have hwork := sameWork_checksDone s.part u.id bands tail
    have hstill : ((s.part.markDone u.id).updateChecks bands tail).Still :=
      still_updateChecks (p := s.part.markDone u.id) (hst.of_eq rfl rfl rfl)
    have htxn : ((s.part.markDone u.id).updateChecks bands tail).txn tag = some t := (txn_congr hwork.tx tag).trans ht
    have hend := txnEnded_after_endTxn (s := s) (still_placed hstill t) t .ok [item 2 t.directBlocks, item 2 t.stagedBlocks]
    refine ⟨_, (taken_followDurable hs hu hn).trans (by
      rw [foldl_followUp hf, Part.followUp, placeEnd_eq htxn he hk]), ?_⟩
    rw [← hk]
    exact ends_of_txnEnded ((landed_markDone s.part u.id).trans (landed_of_sameWork (sameWork_placed hwork t))) hend htag (by
      rw [Txn.kind, hk]
      rfl)
  · intro tag u bands tail t hst hu hn hf ht htag hk he
    have hwork := sameWork_checksDone s.part u.id bands tail
    have hstill : ((s.part.markDone u.id).updateChecks bands tail).Still :=
      still_updateChecks (p := s.part.markDone u.id) (hst.of_eq rfl rfl rfl)
    have htxn : ((s.part.markDone u.id).updateChecks bands tail).txn tag = some t := (txn_congr hwork.tx tag).trans ht
    have hend := txnEnded_after_endTxn (s := s) hstill t .ok [item 5 t.removed]
    refine ⟨_, (taken_followDurable hs hu hn).trans (by
      rw [foldl_followUp hf, Part.followUp, discardEnd_eq htxn he hk]), ?_⟩
    rw [← hk]
    exact ends_of_txnEnded ((landed_markDone s.part u.id).trans (landed_of_sameWork hwork)) hend htag (by
      rw [Txn.kind, hk]
      rfl)
  · rw [exec_followDurable hfc]
    exact taken_of_idle hs hr (followDurable_of_none h)
  · rw [exec_followDurable hfc]
    exact taken_followDurable hs hu hn
  · intro p b off r hr
    have hkey : r.dstBand = b ∧ r.dstOff = off := by
      have := List.find?_some hr
      simp only [Bool.and_eq_true, decide_eq_true_eq] at this
      exact this.1
    obtain ⟨rfl, rfl⟩ := hkey
    dsimp only
    rw [show p.followUp (.remap r.dstBand r.dstOff) = _ from settleApplied_eq hr, settleRemap_applied]
    refine ⟨(sameWork_unsourced p r).tu, fun x hx => band_unsourced hx, fun pos hsrc hhold => ?_, fun hc => ?_, ?_⟩
    · have hsl : (p.unmapped r).sl.runs = p.sl.runs := by rw [unmapped_sl]
      have hruns := unholdRuns_runs (p := p.unmapped r) (pos := pos) (n := r.len) (by rw [hsl]; exact hhold)
      rw [← unsourced_log hsrc, hsl] at hruns
      exact hruns
    · have hchan : (p.unsourced r).chan r.chan = p.chan r.chan := by rw [Part.chan, unsourced_re, Part.chan]
      refine (chan_modChan (p := (p.unsourced r).count r.cls _)).trans ?_
      rw [if_pos ⟨rfl, by rw [show ((p.unsourced r).count r.cls _).re = (p.unsourced r).re from rfl, unsourced_re]; exact hc⟩,
        told_eq, show ((p.unsourced r).count r.cls _).chan r.chan = (p.unsourced r).chan r.chan from rfl, hchan]
    · refine Eq.trans ?_ (congrArg (p.sv.tallies.modify (p.classRec r.cls).slot) (addApplied_eq r r.applied))
      rw [← unsourced_tallies p r, ← classRec_unsourced]
      rfl

end Sys2Proof.Machine
end

section
/-! SUPPORT. CANCEL (R174): what becomes of its target. -/

namespace Sys2Proof.Machine

open Sys2Proof Sys2Proof.Spec

variable {s : State} {p : Part} {t : Txn} {q : Req} {target : Nat} {x : Queued}

/-- The part when a request has left the Request Queue as CANCELLED. -/
def Part.unqueued (p : Part) (target : Nat) (x : Queued) : Part :=
  ({ p with tx := { p.tx with queue := p.tx.queue.filter fun y => decide (y.tag ≠ target) } } : Part).sayHeld
    (finalMsg x.req.kind x.hold target .cancelled [])

theorem cancelTarget_of_queued (hst : p.Still) (hx : p.tx.queue.find? (fun y => decide (y.tag = target)) = some x) :
    p.cancelTarget target = (.ok, [item 1 0], (p.unqueued target x).note .drain) := by
  obtain rfl : x.tag = target := by simpa using List.find?_some hx
  have hheld : (p.modTx fun y => { y with queue := y.queue.filter fun z => decide (z.tag ≠ x.tag) }).setHeld false =
      p.modTx fun y => { y with queue := y.queue.filter fun z => decide (z.tag ≠ x.tag) } :=
    setHeld_false_of_still (still_modTx hst)
  unfold Part.cancelTarget
  rw [hx]
  dsimp only
  rw [hheld, ite_self]
  rfl

theorem find_of_not_queued (h : ∀ y ∈ p.tx.queue, y.tag ≠ target) :
    p.tx.queue.find? (fun y => decide (y.tag = target)) = none :=
  List.find?_eq_none.2 fun y hy => by simpa using h y hy

theorem cancelTarget_of_ended (hq : ∀ y ∈ p.tx.queue, y.tag ≠ target)
    (ht : ∀ t ∈ p.tx.txns, t.tag = target → t.ended = true) : p.cancelTarget target = (.notFound, [], p) := by
  unfold Part.cancelTarget
  rw [find_of_not_queued hq]
  dsimp only
  cases h : p.txn target with
  | none => rfl
  | some t => exact if_pos (ht t (List.mem_of_find?_eq_some h) (tag_of_txn h))

theorem cancelTarget_of_cancelling (hq : ∀ y ∈ p.tx.queue, y.tag ≠ target) (ht : p.txn target = some t)
    (he : t.ended = false) (hout : t.outcome ≠ none) : p.cancelTarget target = (.ok, [item 1 2], p) := by
  unfold Part.cancelTarget
  rw [find_of_not_queued hq]
  dsimp only
  rw [ht]
  dsimp only
  rw [if_neg (by simp [he]), if_pos (Option.isSome_iff_ne_none.2 hout)]

theorem cancelTarget_of_live (hq : ∀ y ∈ p.tx.queue, y.tag ≠ target) (ht : p.txn target = some t)
    (he : t.ended = false) (hout : t.outcome = none) : p.cancelTarget target = (.ok, [item 1 1],
      ((p.fixOutcome target .cancelled none).landPositions target).cancellingEnd target) := by
  unfold Part.cancelTarget
  rw [find_of_not_queued hq]
  dsimp only
  rw [ht]
  dsimp only
  rw [if_neg (by simp [he]), if_neg (by simp [hout])]

/-- A CANCEL that is taken answers what became of its target. -/
theorem exec_cancel {r : Result} {items : List Item} {p' : Part} (h : Arrives s .cancel q 1 1)
    (hr : s.part.cancelTarget target = (r, items, p')) :
    exec (.cancel q target) s = .next (after s (p'.say (replyMsg q.tag r .cancel items))) := by
  refine (taken_arrive h rfl (decide_eq_true h.length)).trans ?_
  dsimp only
  rw [hr]
  rfl

theorem sameStored_unqueued (p : Part) (target : Nat) (x : Queued) (m : Message) :
    p.SameStored ((p.unqueued target x).say m) := ⟨rfl, rfl, rfl⟩

/-- Settles O21. -/
theorem cancelOfQueuedEndingAndUnknown : Obligations.CancelOfQueuedEndingAndUnknown := by
  intro s q target h hr hst
  refine ⟨fun x hx => ?_, fun hq ht => ?_, fun t hq ht he hout => ?_⟩
  · refine (exec_cancel h (cancelTarget_of_queued hst hx)).trans ?_
    have hstored := sameStored_unqueued s.part target x (replyMsg q.tag .ok .cancel [item 1 0])
    have hstill : ((s.part.unqueued target x).say (replyMsg q.tag .ok .cancel [item 1 0])).Still := hst.of_eq rfl rfl rfl
    refine congrArg Host.Outcome.next ((after_note_of_still hstill (hstored.notes.trans hr.1)).trans ?_)
    exact commit_eq_tell hstored.image (hstored.follows.trans hr.2)
  · exact (exec_cancel h (cancelTarget_of_ended hq ht)).trans (congrArg _ (after_say hr _))
  · exact (exec_cancel h (cancelTarget_of_cancelling hq ht he hout)).trans (congrArg _ (after_say hr _))

/-- A transaction does not end while an order of its is outstanding. -/
theorem cancellingEnd_of_outstanding {o : Order} (ho : o ∈ p.mp.orders) (hw : o.owner = .txn target) :
    p.cancellingEnd target = p := by
  have hpos : 0 < p.outstanding (.txn target) := List.countP_pos_iff.2 ⟨o, ho, by simp [hw]⟩
  unfold Part.cancellingEnd
  split
  · split
    · exact if_neg fun h => by omega
    · rfl
  · rfl

/-- Settles O22. -/
theorem cancelOfLiveTransaction : Obligations.CancelOfLiveTransaction := by
  intro s q target t h hr hst hq ht he hout ⟨o, ho, hw, hs⟩
  obtain ⟨htxn, horders, -, htu⟩ := fixOutcome_spec ht .cancelled none
  have hland := landed_landPositions (s.part.fixOutcome target .cancelled none) target
  have hend : ((s.part.fixOutcome target .cancelled none).landPositions target).cancellingEnd target =
      (s.part.fixOutcome target .cancelled none).landPositions target := by
    refine cancellingEnd_of_outstanding (o := o) ?_ hw
    rw [hland.orders, horders]
    exact mem_withdrawn ho hs
  have hcancel := cancelTarget_of_live hq ht he hout
  rw [hend] at hcancel
  have hstill : (((s.part.fixOutcome target .cancelled none).landPositions target).say
      (replyMsg q.tag .ok .cancel [item 1 1])).Still := still_say (still_landPositions (still_fixOutcome hst))
  have hsame := sameOwners_after (s := s) hstill
  obtain ⟨l, hl⟩ := hland.own _ htxn
  refine ⟨_, exec_cancel h hcancel, hsame.orders.trans (hland.orders.trans horders),
    ⟨_, (txn_congr hsame.tx target).trans hl, rfl, rfl, rfl, he⟩, ⟨_, ?_, rfl⟩, ?_⟩
  · rw [after_queue_of_still hstill]
    exact List.mem_append_right _ List.mem_cons_self
  · rw [hsame.tu]
    exact congrArg TransUnit.extents (hland.tu.trans htu)

end Sys2Proof.Machine
end

section
/-! SUPPORT. Copies, their pieces and their ends (R111 to R115), posted remaps (R59), and stops (R121). -/

namespace Sys2Proof.Machine

open Sys2Proof Sys2Proof.Spec

variable {s : State} {p q : Part} {c i : Nat} {y : Copy} {x : CopyPiece} {r : Remap}

/-! ### A waiting piece (R114) -/

theorem postPiece_eq (hy : (p.chan c).copy = some y) (hx : y.pieces[i]? = some x) : p.postPiece c i =
    if 64 ≤ p.tu.remaps.length then p
    else if !p.canTake 2 then (if p.tx.txns.isEmpty ∧ p.tu.remaps.isEmpty then p.abandonPiece c i else p)
    else
      let posted := (p.postRemap c y x).modPiece c i fun x => { x with state := .posted }
      let queued := (posted.joinOrders (.chan c) (posted.pieceOrders .write c i y x)).closePieces c
      (if y.placed < y.len then queued.note (.piece c) else queued).note (.copy c) := by
  unfold Part.postPiece
  rw [hy]
  dsimp only
  rw [hx]
  rfl

theorem exists_waitingPiece (h : y.waitingPiece = some i) : ∃ x, y.pieces[i]? = some x := by
  obtain ⟨hlt, -⟩ := List.findIdx?_eq_some_iff_getElem.1 h
  exact ⟨y.pieces[i], List.getElem?_eq_getElem hlt⟩

theorem repost_eq (hy : (p.chan c).copy = some y) (hi : y.waitingPiece = some i) : p.repost c = p.postPiece c i := by
  unfold Part.repost
  rw [hy, Option.bind_some, hi]

theorem repost_of_none (h : (p.chan c).copy.bind Copy.waitingPiece = none) : p.repost c = p := by
  rw [Part.repost, h]

theorem canTake_eq_false {n : Nat} (h : 262144 < p.tu.extents.length + p.tu.reserveTotal + n) : p.canTake n = false := by
  rw [← Bool.not_eq_true, canTake_eq_true]
  omega

/-- The map unit once a remap is posted (R58). -/
theorem postRemap_tu (p : Part) (c : Nat) (y : Copy) (x : CopyPiece) : (p.postRemap c y x).tu = { p.tu with
    remaps := p.tu.remaps ++ [{
      chan := c, lba := y.lba + x.off, len := x.len, src := y.src.shift x.off, dstBand := x.band, dstOff := x.dst
      failed := false, closed := false, orders := 0, joined := false, applying := false, applied := 0, cls := y.cls }]
    reserveTotal := p.tu.reserveTotal + 2 } := by
  unfold Part.postRemap
  dsimp only
  split
  · exact takeReserve_tu _ 2
  · exact takeReserve_tu _ 2

/-! ### Stops (R121) -/

theorem stopEnd_of_no_stop (h : (p.chan c).stop = none) : p.stopEnd c = p := if_neg (by simp [h])

theorem stopEnd_of_no_copy (h : (p.chan c).stop ≠ none) (hy : (p.chan c).copy = none) : p.stopEnd c = p.completeStop c := by
  unfold Part.stopEnd
  rw [if_pos (Option.isSome_iff_ne_none.2 h), if_pos (by simp [hy])]

theorem stopEnd_of_copy (h : (p.chan c).stop ≠ none) (hy : (p.chan c).copy ≠ none) : p.stopEnd c = p.copyCheck c := by
  unfold Part.stopEnd
  rw [if_pos (Option.isSome_iff_ne_none.2 h), if_neg (by simp [hy])]

theorem chan_noBand (h : p.SameWork q) (c : Nat) : (q.chan c).noBand = (p.chan c).noBand := by
  have hc := congrArg (fun l => l[c]?) h.chans
  simp only [List.getElem?_map] at hc
  unfold Part.chan
  rw [List.getD_eq_getElem?_getD, List.getD_eq_getElem?_getD]
  have hget : ∀ o : Option Chan, (o.getD Chan.blank).noBand = (o.map Chan.noBand).getD Chan.blank.noBand := fun o => by
    cases o <;> rfl
  rw [hget, hget, hc]

theorem length_chans (h : p.SameWork q) : q.re.chans.length = p.re.chans.length := by
  have hl := congrArg List.length h.chans
  simpa using hl

/-- A channel that is not to run again is as good as new when its stop has completed. -/
theorem chan_completeStop (hc : c < p.re.chans.length) (hd : p.sv.device ≠ .online) :
    (p.completeStop c).chan c = (p.chan c).stopped := by
  have hwork := (sameWork_parkOwned p c).trans (sameWork_returnHeld (p.parkOwned c) c)
  have hdev : ((p.parkOwned c).returnHeld c).sv.device = p.sv.device := by
    obtain ⟨e, a, d, t, hv⟩ := hwork.sv
    rw [hv]
  rw [completeStop_eq, becomeIdle_of_not_running]
  · refine (chan_modChan (p := (p.parkOwned c).returnHeld c)).trans ?_
    rw [if_pos ⟨rfl, by rw [length_chans hwork]; exact hc⟩]
    have hstopped := congrArg Chan.stopped (chan_noBand hwork c)
    exact hstopped
  · rintro ⟨hrun, -⟩
    exact hd (hdev ▸ (running_eq_true.1 hrun).2.1)

/-! ### Copies (R111, R113) -/

theorem verifyOn_regionAttrs (p : Part) (lba : Nat) : verifyOn (p.regionAttrs lba).verify =
    decide ((p.tu.regions.find? fun r => decide (r.start ≤ lba ∧ lba < r.start + r.len)).map Region.verify = some 1) := by
  unfold Part.regionAttrs regionOf
  cases p.tu.regions.find? fun r => decide (r.start ≤ lba ∧ lba < r.start + r.len) with
  | none => rfl
  | some r =>
    simp only [verifyOn, Attrs.layered, layer, Attrs.default, Option.map_some, Option.some.injEq]
    split
    · next h => rw [h]; rfl
    · rfl

theorem modChan_congr {f g : Chan → Chan} (h : f (p.chan c) = g (p.chan c)) : p.modChan c f = p.modChan c g := by
  have hl : p.re.chans.modify c f = p.re.chans.modify c g := by
    refine List.ext_getElem? fun j => ?_
    rw [List.getElem?_modify, List.getElem?_modify]
    by_cases hj : c = j
    · subst hj
      unfold Part.chan at h
      rw [List.getD_eq_getElem?_getD] at h
      cases hc : p.re.chans[c]? with
      | none => rfl
      | some k =>
        rw [hc] at h
        simpa using h
    · simp [hj]
  unfold Part.modChan Part.modRe modAt
  dsimp only
  rw [hl]

theorem doneLen_eq (l : List CopyPiece) :
    doneLen l = ((l.takeWhile fun x => decide (x.state = .applied)).map CopyPiece.len).sum := by
  induction l with
  | nil => rfl
  | cons x l ih =>
    unfold doneLen
    rw [List.takeWhile_cons]
    split
    · next h => rw [ih]; simp [h]
    · next h => simp [h]

/-- Orders of a channel stand in the queue or have still to join. -/
def Part.Busy (p : Part) (c : Nat) : Prop := (p.chan c).toJoin ≠ [] ∨ ∃ o ∈ p.mp.orders, o.owner = .chan c

theorem busy_iff : (!(p.chan c).toJoin.isEmpty || decide (0 < p.outstanding (.chan c))) = true ↔ p.Busy c := by
  have hout : 0 < p.outstanding (.chan c) ↔ ∃ o ∈ p.mp.orders, o.owner = .chan c := by
    simp [Part.outstanding, List.countP_pos_iff]
  rw [Bool.or_eq_true, decide_eq_true_iff, hout, Bool.not_eq_true', ← Bool.not_eq_true, List.isEmpty_iff]
  exact Iff.rfl

theorem copyCheck_of_no_copy (h : (p.chan c).copy = none) : p.copyCheck c = p := by
  rw [Part.copyCheck, h]

theorem copyCheck_of_busy (h : p.Busy c) : p.copyCheck c = p := by
  unfold Part.copyCheck
  split
  · rfl
  · exact if_pos (busy_iff.2 h)

theorem copyCheck_reading (hy : (p.chan c).copy = some y) (h : ¬p.Busy c) (hp : y.phase = .reading) : p.copyCheck c =
    if y.readFailed = true then p.endCopy c y
    else (p.modChan c fun k => { k with copy := some { y with phase := .writing } }).note (.piece c) := by
  unfold Part.copyCheck
  rw [hy]
  dsimp only
  rw [if_neg (mt busy_iff.1 h), hp]

theorem copyCheck_writing (hy : (p.chan c).copy = some y) (h : ¬p.Busy c) (hp : y.phase = .writing) : p.copyCheck c =
    if (y.pieces.all CopyPiece.settled && (decide (y.placed = y.len) || y.noBand || y.cutShort)) = true then p.endCopy c y
    else p := by
  unfold Part.copyCheck
  rw [hy]
  dsimp only
  rw [if_neg (mt busy_iff.1 h), hp]

theorem copyEnded_iff : (y.pieces.all CopyPiece.settled && (decide (y.placed = y.len) || y.noBand || y.cutShort)) = true ↔
    (∀ x ∈ y.pieces, x.state = .applied ∨ x.state = .discarded ∨ x.state = .abandoned) ∧
      (y.placed = y.len ∨ y.noBand = true ∨ y.cutShort = true) := by
  simp only [CopyPiece.settled, Bool.and_eq_true, List.all_eq_true, decide_eq_true_eq, Bool.or_eq_true, or_assoc]

/-- The resume point of a channel after a copy, as the statement reads it. -/
theorem resumeAfter_eq (k : Chan) (y : Copy) (n : Nat) : k.resumeAfter y n = match k.work, k.victim with
    | some w, _ => Resume.destage w.pos (y.lba + n - w.start)
    | none, some b => .reclaim b (y.lba + n)
    | none, none => k.resume := rfl

/-- The blocks of a copy that need not be copied again. -/
def Copy.doneBlocks (y : Copy) : Nat :=
  if y.readFailed then y.len else ((y.pieces.takeWhile fun x => decide (x.state = .applied)).map CopyPiece.len).sum

/-- The part when a copy's amount and resume point have gone on. -/
def Part.copied (p : Part) (c : Nat) (y : Copy) (n : Nat) : Part :=
  p.modChan c fun k => { k with amount := k.amount + y.len, resume := (p.chan c).resumeAfter y n, copy := none }

theorem endCopy_eq (p : Part) (c : Nat) (y : Copy) : p.endCopy c y =
    let q := p.copied c y y.doneBlocks
    if (p.chan c).stop.isSome then q.completeStop c
    else if y.noBand then q.endService c true
    else if y.readFailed || decide (y.doneBlocks = y.len) then q.afterCopy c
    else q.endService c false := by
  have hdone : (if y.readFailed then y.len else doneLen y.pieces) = y.doneBlocks := by
    rw [doneLen_eq]
    rfl
  have hq : (p.modChan c fun k => { k with amount := k.amount + y.len, resume := k.resumeAfter y y.doneBlocks, copy := none }) =
      p.copied c y y.doneBlocks := modChan_congr rfl
  have hstop : ((p.copied c y y.doneBlocks).chan c).stop = (p.chan c).stop := by
    unfold Part.copied
    rw [chan_modChan]
    split <;> rfl
  unfold Part.endCopy
  dsimp only
  rw [hdone, hq, hstop]

theorem copied_chan (p : Part) (c : Nat) (y : Copy) (n : Nat) :
    ((p.copied c y n).chan c).mode = (p.chan c).mode ∧ ((p.copied c y n).chan c).count = (p.chan c).count := by
  unfold Part.copied
  rw [chan_modChan]
  split <;> exact ⟨rfl, rfl⟩

theorem afterCopy_eq (p : Part) (c : Nat) : p.afterCopy c =
    if (p.chan c).mode = .single ∨ ((p.chan c).mode = .successive ∧ (p.chan c).count ≤ (p.chan c).amount) then
      p.endService c false else p.note (.move c) := by
  unfold Part.afterCopy
  dsimp only
  cases (p.chan c).mode <;> simp

theorem endCopy_goesOn (hstop : (p.chan c).stop = none) (hband : y.noBand = false)
    (hwhole : y.readFailed = true ∨ y.doneBlocks = y.len) : p.endCopy c y =
      if (p.chan c).mode = .single ∨
        ((p.chan c).mode = .successive ∧ (p.chan c).count ≤ ((p.copied c y y.doneBlocks).chan c).amount) then
        (p.copied c y y.doneBlocks).endService c false
      else (p.copied c y y.doneBlocks).note (.move c) := by
  obtain ⟨hmode, hcount⟩ := copied_chan p c y y.doneBlocks
  have hw : (y.readFailed || decide (y.doneBlocks = y.len)) = true := by simpa using hwhole
  rw [endCopy_eq]
  dsimp only
  rw [if_neg (by simp [hstop]), if_neg (by simp [hband]), if_pos hw, afterCopy_eq, hmode, hcount]

/-! ### Pieces (R112) and reads (R111) -/

/-- A copy that finds no band goes no further. -/
def Part.shortOfBand (p : Part) (c : Nat) : Part :=
  (p.modChan c fun k => { k with copy := k.copy.map fun y => { y with noBand := true } }).note (.copy c)

theorem nextPiece_of_none {q : Part} (hy : (p.chan c).copy = some y)
    (hb : p.bandRequest (.chan c) (if (p.setup c).destClass = 0 then y.cls else (p.setup c).destClass) = (none, q)) :
    p.nextPiece c = q.shortOfBand c := by
  unfold Part.nextPiece
  rw [hy]
  dsimp only
  rw [hb]
  rfl

/-- One more piece of a copy in a band. -/
def Part.morePiece (p : Part) (c : Nat) (y : Copy) (b dst n update : Nat) : Part :=
  p.modChan c fun k => { k with copy := k.copy.map fun v =>
    { v with placed := v.placed + n, pieces := v.pieces ++ [
        { off := y.placed, len := n, band := b, dst := dst, update := update, state := .waiting, verifying := false }] } }

theorem nextPiece_of_band {q : Part} {b : Nat} (hy : (p.chan c).copy = some y)
    (hb : p.bandRequest (.chan c) (if (p.setup c).destClass = 0 then y.cls else (p.setup c).destClass) = (some b, q)) :
    p.nextPiece c =
      let r := q.reserve (.chan c) b (y.len - y.placed)
      if r.2.1 = 0 then r.2.2.shortOfBand c
      else (r.2.2.morePiece c y b r.1 r.2.1 q.store.next).postPiece c y.pieces.length := by
  unfold Part.nextPiece
  rw [hy]
  dsimp only
  rw [hb]
  rfl

theorem rereadRun_eq (hy : (p.chan c).copy = some y) (o : Order) : p.rereadRun c o =
    if y.readFailed = true then p
    else if o.retry = true then
      (p.setToJoin (.chan c) []).modChan c fun k => { k with copy := some { y with readFailed := true } }
    else p.joinList (.chan c) ({ o with retry := true } :: (p.chan c).toJoin) := by
  unfold Part.rereadRun
  rw [hy]

/-! ### The test of a posted remap (R59) -/

theorem settleTest_eq (p : Part) (r : Remap) : p.settleTest r =
    if r.applying = true then p
    else if r.orders ≠ 0 then p
    else if r.failed = true then p.settleRemap r none
    else if r.closed = true then (if r.joined = true then p.applyRemap r else p.settleRemap r none)
    else p := by
  unfold Part.settleTest
  by_cases ho : r.orders = 0
  · simp only [ho, ne_eq, not_true, if_false, if_true]
  · simp only [ho, ne_eq, not_false_iff, if_false, if_true, ite_self]

/-- Settles O55. -/
theorem waitingPiecesAndStopsGoOn : Obligations.WaitingPiecesAndStopsGoOn := by
  refine ⟨fun s c hs hr hreset hc hlen => ?_, fun p c => ?_, fun p r => ?_⟩
  · have hexec : ∀ f : Part → Part, s.taken (fun p => p.unlessReset f) = .next (after s (f s.part)) := fun f => by
      rw [taken_eq_after hs, unlessReset_of_no_reset hreset]
    have hidle : ∀ f : Part → Part, f s.part = s.part → s.taken (fun p => p.unlessReset f) = .next (tell s s.part) :=
      fun f hf => taken_of_idle hs hr ((unlessReset_of_no_reset hreset f).trans hf)
    refine ⟨fun y i hy hi => ?_, fun h => ?_, fun h => ?_, fun h hy => ⟨?_, fun hd => ?_⟩, fun h hy => ?_⟩
    · obtain ⟨x, hx⟩ := exists_waitingPiece hi
      have hpost := (repost_eq hy hi).trans (postPiece_eq hy hx)
      refine ⟨fun h => ?_, fun hfull ht hm => ?_, fun hroom hm q hq => ⟨?_, ?_, ?_⟩⟩
      · refine hidle (fun p => p.repost c) (hpost.trans ?_)
        rcases h with h | ⟨hfull, h⟩
        · rw [if_pos h]
        · have hsome : ¬(s.part.tx.txns.isEmpty = true ∧ s.part.tu.remaps.isEmpty = true) := fun hc => by
            rw [List.isEmpty_iff, List.isEmpty_iff] at hc
            exact h.elim (fun h => h hc.1) fun h => h hc.2
          rw [canTake_eq_false hfull]
          simp only [hsome, Bool.not_false, if_true, if_false, ite_self]
      · refine (hexec fun p => p.repost c).trans ?_
        rw [hpost, canTake_eq_false hfull, ht, hm]
        rfl
      · have hqx : x = q := Option.some.inj (hx.symm.trans hq)
        subst hqx
        refine (hexec fun p => p.repost c).trans ?_
        rw [hpost, if_neg (by omega), canTake_eq_true.2 (by omega)]
        rfl
      · rw [postRemap_tu]
      · rw [postRemap_tu]
    · exact hidle (fun p => p.repost c) (repost_of_none h)
    · exact hidle (fun p => p.stopEnd c) (stopEnd_of_no_stop h)
    · exact (hexec fun p => p.stopEnd c).trans (by rw [stopEnd_of_no_copy h hy])
    · exact chan_completeStop (by omega) hd
    · exact (hexec fun p => p.stopEnd c).trans (by rw [stopEnd_of_copy h hy])
  · refine ⟨fun lba len src cls => ?_, copyCheck_of_no_copy, fun y hy => ⟨copyCheck_of_busy, fun hb hp hf => ?_,
      fun hb hp hf => ?_, fun hb hp => ⟨fun hs he => ?_, fun hn => ?_⟩, ?_, ?_, fun o => ⟨fun hf => ?_, fun hf ho => ?_,
      fun hf ho => ?_⟩⟩⟩
    · unfold Part.startCopy Part.ordersFor
      dsimp only
      simp only [verifyOn_regionAttrs, Nat.zero_add]
      rfl
    · rw [copyCheck_reading hy hb hp, if_pos hf]
    · rw [copyCheck_reading hy hb hp, if_neg (by simp [hf])]
    · rw [copyCheck_writing hy hb hp, if_pos (copyEnded_iff.2 ⟨hs, he⟩)]
    · rw [copyCheck_writing hy hb hp, if_neg (mt copyEnded_iff.1 hn)]
    · dsimp only
      have hend := endCopy_eq p c y
      dsimp only at hend
      refine ⟨fun hstop => ?_, fun hstop hband => ?_, fun hstop hband hpart => ?_, fun hstop hband hwhole => ?_⟩
      · rw [if_pos (Option.isSome_iff_ne_none.2 hstop)] at hend
        exact hend
      · rw [if_neg (by simp [hstop]), if_pos hband] at hend
        exact hend
      · have hpart : ¬(y.readFailed || decide (y.doneBlocks = y.len)) = true := by
          rw [Bool.or_eq_true, decide_eq_true_iff]
          rintro (h | h)
          · simp [hpart.1] at h
          · exact hpart.2 h
        rw [if_neg (by simp [hstop]), if_neg (by simp [hband]), if_neg hpart] at hend
        exact hend
      · exact endCopy_goesOn hstop hband hwhole
    · dsimp only
      refine ⟨fun hb => ?_, fun b hb => ⟨fun hr => ?_, fun hr => ?_⟩⟩
      · exact nextPiece_of_none hy (Prod.ext hb rfl)
      · refine (nextPiece_of_band hy (Prod.ext hb rfl)).trans ?_
        exact if_pos hr
      · refine (nextPiece_of_band hy (Prod.ext hb rfl)).trans ?_
        exact if_neg hr
    · rw [rereadRun_eq hy, if_pos hf]
    · rw [rereadRun_eq hy, if_neg (by simp [hf]), if_neg (by simp [ho])]
    · rw [rereadRun_eq hy, if_neg (by simp [hf]), if_pos ho]
  · refine ⟨fun h => ?_, fun h ho => ?_, fun h ho hf => ?_, fun h ho hf hc => ?_, fun h ho hf hc hj => ?_,
      fun h ho hf hc hj => ?_⟩ <;> rw [settleTest_eq] <;> simp [*]

end Sys2Proof.Machine
end

section
/-! SUPPORT. The checks of a geometry (R3, R5), as the statements read them. -/

namespace Sys2Proof.Machine

open Sys2Proof Sys2Proof.Spec

variable {g : Geometry} {l : List Nat}

theorem sumOf_eq_sum {α : Type} (f : α → Nat) (l : List α) : sumOf f l = (l.map f).sum := by
  have key : ∀ (l : List α) (n : Nat), l.foldl (fun n x => n + f x) n = n + (l.map f).sum := by
    intro l
    induction l with
    | nil => exact fun n => rfl
    | cons x l ih => exact fun n => by rw [List.foldl_cons, ih, List.map_cons, List.sum_cons, Nat.add_assoc]
  exact (key l 0).trans (Nat.zero_add _)

theorem zonesAsc_eq_true {zs : List Zone} :
    zonesAsc zs = true ↔ ∀ i x y, zs[i]? = some x → zs[i + 1]? = some y → zoneLast x < y.first := by
  rw [← isChain_iff_getElem? (R := fun x y => zoneLast x < y.first)]
  induction zs with
  | nil => simp [zonesAsc]
  | cons x zs ih =>
    cases zs with
    | nil => simp [zonesAsc]
    | cons y zs => rw [zonesAsc, Bool.and_eq_true, decide_eq_true_iff, ih, List.isChain_cons_cons]

theorem strictlyAsc_eq_true : strictlyAsc l = true ↔ l.Pairwise (· < ·) := by
  rw [← List.isChain_iff_pairwise]
  induction l with
  | nil => simp [strictlyAsc]
  | cons x l ih =>
    cases l with
    | nil => simp [strictlyAsc]
    | cons y l => rw [strictlyAsc, Bool.and_eq_true, decide_eq_true_iff, ih, List.isChain_cons_cons]

theorem all_decide {α : Type} {P : α → Prop} [DecidablePred P] {l : List α} :
    (l.all fun x => decide (P x)) = true ↔ ∀ x ∈ l, P x := by
  simp

theorem inStaging_eq_true {t : Nat} : inStaging g t = true ↔ g.stgFirst ≤ t ∧ t < g.stgFirst + g.stgCount := decide_eq_true_iff

theorem inZone_eq_true {t : Nat} : inZone g t = true ↔ ∃ z ∈ g.zones, z.first ≤ t ∧ t < z.first + z.pairs * z.T := by
  simp [inZone]

/-- Check 9: no zone meets the staging region. -/
theorem apartFromStaging_eq_true : (g.zones.all fun z => !(decide (g.stgFirst ≤ zoneLast z ∧ z.first ≤ stgLast g))) = true ↔
    ∀ z ∈ g.zones, zoneLast z < g.stgFirst ∨ g.stgFirst + g.stgCount - 1 < z.first := by
  rw [List.all_eq_true]
  refine forall₂_congr fun z _ => ?_
  rw [Bool.not_eq_true', decide_eq_false_iff_not, stgLast]
  omega

theorem retiredInRegions_eq_true : (l.all fun t => inZone g t || inStaging g t) = true ↔
    ∀ t ∈ l, (∃ z ∈ g.zones, z.first ≤ t ∧ t < z.first + z.pairs * z.T) ∨ (g.stgFirst ≤ t ∧ t < g.stgFirst + g.stgCount) := by
  rw [List.all_eq_true]
  refine forall₂_congr fun t _ => ?_
  rw [Bool.or_eq_true, inZone_eq_true, inStaging_eq_true]

/-- Check 8: the staging region. -/
theorem stagingRegion_eq_true : (decide (16 ≤ g.stgCount ∧ g.stgCount ≤ 65536) && decide (128 ≤ g.stgS ∧ g.stgS ≤ 1024)
      && decide (stgLast g ≤ Config.maxTrack)) = true ↔
    16 ≤ g.stgCount ∧ g.stgCount ≤ 65536 ∧ 128 ≤ g.stgS ∧ g.stgS ≤ 1024 ∧
      g.stgFirst + g.stgCount - 1 ≤ 2 ^ 24 - 1 := by
  rw [Bool.and_eq_true, Bool.and_eq_true, decide_eq_true_iff, decide_eq_true_iff, decide_eq_true_iff, and_assoc, and_assoc,
    and_assoc]
  exact Iff.rfl

/-- Check 12: the staging tracks that are not retired. -/
theorem stagingTracks_eq_true : decide (16 ≤ g.stgCount - (l.filter (inStaging g)).length) = true ↔
    16 + (l.countP fun t => decide (g.stgFirst ≤ t ∧ t < g.stgFirst + g.stgCount)) ≤ g.stgCount := by
  have hcount : (l.filter (inStaging g)).length = l.countP fun t => decide (g.stgFirst ≤ t ∧ t < g.stgFirst + g.stgCount) :=
    List.countP_eq_length_filter.symm
  rw [decide_eq_true_iff, hcount]
  omega

/-- Check 14: the share of the shingled capacity. -/
theorem shingledShare_eq_true : decide (100 * g.L ≤ 97 * shingledCap g) = true ↔
    100 * g.L ≤ 97 * (g.zones.map fun z => z.pairs * (z.T - g.K) * z.S).sum := by
  rw [decide_eq_true_iff, shingledCap, sumOf_eq_sum]

/-- The first of the numbers from 1 to n that fails a test. -/
theorem firstFailing_eq_some {q : Nat → Bool} {n k : Nat} :
    ((List.range n).map (· + 1)).find? (fun k => !q k) = some k ↔
      1 ≤ k ∧ k ≤ n ∧ ¬q k = true ∧ ∀ j, 1 ≤ j → j < k → q j = true := by
  rw [List.find?_eq_some_iff_getElem]
  simp only [Bool.not_eq_true', List.getElem_map, List.getElem_range, Bool.not_not, List.length_map, List.length_range,
    Bool.not_eq_true]
  constructor
  · rintro ⟨hk, i, hi, rfl, hall⟩
    exact ⟨by omega, by omega, hk, fun j h1 hj => by
      have := hall (j - 1) (by omega)
      rwa [Nat.sub_add_cancel h1] at this⟩
  · rintro ⟨h1, hn, hk, hall⟩
    exact ⟨hk, k - 1, by omega, Nat.sub_add_cancel h1, fun j hj => hall (j + 1) (by omega) (by omega)⟩

theorem firstFailing_eq_none {q : Nat → Bool} {n : Nat} :
    ((List.range n).map (· + 1)).find? (fun k => !q k) = none ↔ ∀ j, 1 ≤ j → j ≤ n → q j = true := by
  rw [List.find?_eq_none]
  simp only [List.mem_map, List.mem_range, forall_exists_index, and_imp, Bool.not_eq_true', Bool.not_eq_false]
  exact ⟨fun h j h1 hn => h j (j - 1) (by omega) (Nat.sub_add_cancel h1), fun h j i hi hj => h j (by omega) (by omega)⟩

/-- Settles O32. -/
theorem geometryFaultIsTheFirstFailingCheck : Obligations.GeometryFaultIsTheFirstFailingCheck := by
  intro g l last stg P passes
  have key : ∀ k, geometryCheck g l k = true ↔ passes k := by
    intro k
    match k with
    | 0 => exact iff_of_true rfl trivial
    | 1 => exact decide_eq_true_iff
    | 2 => exact decide_eq_true_iff
    | 3 => exact (Bool.and_eq_true_iff).trans (and_congr all_decide (by rw [decide_eq_true_iff, pairCount, sumOf_eq_sum]))
    | 4 => exact all_decide
    | 5 => exact all_decide
    | 6 => exact all_decide
    | 7 => exact zonesAsc_eq_true
    | 8 => exact stagingRegion_eq_true
    | 9 => exact apartFromStaging_eq_true
    | 10 => exact (Bool.and_eq_true_iff).trans (and_congr decide_eq_true_iff strictlyAsc_eq_true)
    | 11 => exact retiredInRegions_eq_true
    | 12 => exact stagingTracks_eq_true
    | 13 => exact decide_eq_true_iff
    | 14 => exact shingledShare_eq_true
    | n + 15 => exact iff_of_true rfl trivial
  refine ⟨fun k => firstFailing_eq_some.trans ?_, firstFailing_eq_none.trans ?_⟩
  · rw [key]
    refine and_congr_right fun _ => and_congr_right fun _ => and_congr_right fun _ => ?_
    exact forall_congr' fun j => forall_congr' fun _ => forall_congr' fun _ => key j
  · exact forall_congr' fun j => forall_congr' fun _ => forall_congr' fun _ => key j

end Sys2Proof.Machine
end

section
/-! SUPPORT. The Staging Log Unit (R86 to R98), as the statements read it. -/

namespace Sys2Proof.Machine

open Sys2Proof Sys2Proof.Spec

variable {p old : Part} {pos n cls : Nat}

/-! ### Levels (R93 to R95) -/

theorem fillHigh_eq_true : p.fillHigh = true ↔ FillAt p p.sv.settings.highMark := fillAt_eq_true

theorem urgent_eq_true : p.urgent = true ↔ FillAt p 15 := fillAt_eq_true

/-- The flag that the level checks raise, before the levels are reported. -/
def Part.stageHighRaised (p old : Part) : Part := if !old.fillHigh && p.fillHigh then p.raise evStageHigh else p

/-- The part when the level checks have reported the demand level. -/
def Part.demandTold (p old : Part) : Part :=
  if old.demandHigh = p.demandHigh then p.stageHighRaised old
  else (p.stageHighRaised old).note (.demand old.demandHigh p.demandHigh)

theorem levelChecks_eq (p old : Part) : p.levelChecks old = if old.urgent = p.urgent then p.demandTold old
    else (p.demandTold old).modMp fun m => { m with favoured := laneFor p.urgent, runCount := 0 } := rfl

theorem demandTold_keeps {γ : Type} (g : Part → γ) (hn : ∀ q n, g (q.note n) = g q) (p old : Part) :
    g (p.demandTold old) = g (p.stageHighRaised old) := by
  unfold Part.demandTold
  split
  · rfl
  · exact hn _ _

theorem levelChecks_sv (p old : Part) : (p.levelChecks old).sv = (p.stageHighRaised old).sv := by
  rw [levelChecks_eq, ← demandTold_keeps Part.sv (fun _ _ => rfl)]
  split <;> rfl

theorem levelChecks_li (p old : Part) : (p.levelChecks old).li = (p.stageHighRaised old).li := by
  rw [levelChecks_eq, ← demandTold_keeps Part.li (fun _ _ => rfl)]
  split <;> rfl

theorem stageHighRaised_mp (p old : Part) : (p.stageHighRaised old).mp = p.mp := by
  unfold Part.stageHighRaised
  split
  · exact Part.raise_mp _ _
  · rfl

theorem levelChecks_mp (p old : Part) : (p.levelChecks old).mp = if old.urgent = p.urgent then p.mp
    else { p.mp with favoured := laneFor p.urgent, runCount := 0 } := by
  have hmp : (p.demandTold old).mp = p.mp := by
    rw [demandTold_keeps Part.mp (fun _ _ => rfl), stageHighRaised_mp]
  rw [levelChecks_eq, ← hmp]
  split <;> rfl

theorem stageHighRaised_of_rise (ho : ¬FillAt old old.sv.settings.highMark) (hp : FillAt p p.sv.settings.highMark) :
    p.stageHighRaised old = p.raise evStageHigh := by
  rw [← fillHigh_eq_true] at ho hp
  exact if_pos (by simp [ho, hp])

theorem stageHighRaised_of_not_rise (h : FillAt old old.sv.settings.highMark ∨ ¬FillAt p p.sv.settings.highMark) :
    p.stageHighRaised old = p := by
  rw [← fillHigh_eq_true, ← fillHigh_eq_true] at h
  refine if_neg fun hc => ?_
  simp only [Bool.and_eq_true, Bool.not_eq_true'] at hc
  rcases h with h | h
  · simp [hc.1] at h
  · exact h hc.2

/-! ### Staging requests (R88) -/

theorem recordsNeeded_stagedParts (cap h n : Nat) : recordsNeeded (stagedParts cap h n) =
    if h + n ≤ cap then (n + 8191) / 8192 else (cap - h + 8191) / 8192 + (n - (cap - h) + 8191) / 8192 := by
  unfold stagedParts
  split
  · exact Nat.zero_add _
  · rw [recordsNeeded, sumOf_eq_sum]
    rfl

theorem destaging_eq_true {c : Nat} : p.destaging c = true ↔ (p.setup c).enable = true ∧ (p.setup c).job = .destage ∧
    (p.chan c).state ≠ .disabled ∧ (p.chan c).stop = none := by
  rw [Part.destaging, Bool.and_eq_true, decide_eq_true_iff]

theorem destagers_pos : 0 < p.destagers ↔ ∃ c, c < 4 ∧ (p.setup c).enable = true ∧ (p.setup c).job = .destage ∧
    (p.chan c).state ≠ .disabled ∧ (p.chan c).stop = none := by
  rw [Part.destagers, List.countP_pos_iff]
  simp only [List.mem_range, destaging_eq_true]

theorem stagingFits_eq_true : p.stagingFits n = true ↔ fill p.sl + n ≤ stgCap p.bm ∧
    p.sl.runs.length + recordsNeeded (stagedParts (stgCap p.bm) p.sl.head n) ≤ 16384 := decide_eq_true_iff

theorem stagingNever_eq_true : p.stagingNever n = true ↔ stgCap p.bm < n ∨
    16384 < recordsNeeded (stagedParts (stgCap p.bm) p.sl.head n) := decide_eq_true_iff

/-! ### The records of a part (R88, R89) -/

theorem recordsOfPart_eq (cls start : Nat) (x : StagedPart) : recordsOfPart cls start x =
    (List.range (recordsFor x.len)).map fun i =>
      { pos := x.pos + 8192 * i, len := min 8192 (x.len - 8192 * i), start := start + 8192 * i, live := 0, cls := cls
        inFlight := true, pins := 0, hold := 0 } := rfl

theorem runRecords_eq (cls : Nat) : ∀ (fuel pos len start : Nat), recordsFor len = fuel →
    runRecords cls fuel pos len start = recordsOfPart cls start { pos := pos, len := len } := by
  intro fuel
  induction fuel with
  | zero =>
    intro pos len start h
    rw [recordsOfPart_eq, h]
    rfl
  | succ fuel ih =>
    intro pos len start h
    have h' : (len + 8191) / 8192 = fuel + 1 := h
    have hlen : len ≠ 0 := by omega
    have hrest : recordsFor (len - min len 8192) = fuel := by
      show (len - min len 8192 + 8191) / 8192 = fuel
      omega
    have hstep : runRecords cls (fuel + 1) pos len start =
        { pos := pos, len := min len 8192, start := start, live := 0, cls := cls, inFlight := true, pins := 0, hold := 0 } ::
          runRecords cls fuel (pos + min len 8192) (len - min len 8192) (start + min len 8192) := if_neg hlen
    rw [hstep, ih _ _ _ hrest, recordsOfPart_eq, recordsOfPart_eq, hrest, h, List.range_succ_eq_map, List.map_cons,
      List.map_map]
    refine congrArg₂ List.cons ?_ (List.map_congr_left fun i hi => ?_)
    · simp [Nat.min_comm]
    · have hi : i < fuel := List.mem_range.1 hi
      have hfull : min len 8192 = 8192 := by omega
      simp only [Function.comp, Nat.succ_eq_add_one, hfull, Run.mk.injEq, and_true]
      omega

/-- Slices of 8,192 blocks of a length. -/
theorem sum_slices (len : Nat) : ∀ k, ((List.range k).map fun i => min 8192 (len - 8192 * i)).sum = min len (8192 * k) := by
  intro k
  induction k with
  | zero => simp
  | succ k ih =>
    rw [List.range_succ, List.map_append, List.sum_append, ih]
    simp only [List.map_cons, List.map_nil, List.sum_cons, List.sum_nil]
    omega

theorem lens_recordsOfPart (cls start : Nat) (x : StagedPart) : ((recordsOfPart cls start x).map Run.len).sum = x.len := by
  rw [recordsOfPart_eq, List.map_map]
  refine (sum_slices x.len (recordsFor x.len)).trans ?_
  show min x.len (8192 * ((x.len + 8191) / 8192)) = x.len
  omega

theorem partRecords_one (cls start : Nat) (x : StagedPart) : partRecords cls [x] start = recordsOfPart cls start x :=
  (List.append_nil _).trans (runRecords_eq cls _ _ _ _ rfl)

theorem partRecords_two (cls start : Nat) (x y : StagedPart) : partRecords cls [x, y] start =
    recordsOfPart cls start x ++ recordsOfPart cls (start + x.len) y := by
  rw [← partRecords_one cls (start + x.len) y, ← runRecords_eq cls (recordsFor x.len) x.pos x.len start rfl]
  rfl

theorem append_sl (p : Part) (parts : List StagedPart) (start cls : Nat) : (p.append parts start cls).sl = { p.sl with
    runs := p.sl.runs ++ partRecords cls parts start
    head := (p.sl.head + (parts.map StagedPart.len).sum) % stgCap p.bm } := by
  unfold Part.append
  dsimp only
  rw [Part.levelChecks_sl, sumOf_eq_sum]
  rfl

/-! ### The tail (R97) -/

theorem tailCheck_sl (p : Part) : p.tailCheck.sl = logTrimmed p.sl := by
  unfold Part.tailCheck logTrimmed
  dsimp only
  by_cases h : (p.sl.runs.dropWhile Run.passable).length = p.sl.runs.length
  · have hall : p.sl.runs.dropWhile Run.passable = p.sl.runs := (List.dropWhile_suffix _).eq_of_length h
    rw [if_pos h, show (p.sl.runs.dropWhile fun r => decide (r.live = 0 ∧ r.inFlight = false ∧ r.pins = 0 ∧ r.hold = 0)) =
      p.sl.runs from hall, if_pos rfl]
  · rw [if_neg h, Part.levelChecks_sl]
    have h' : ¬(p.sl.runs.dropWhile fun r => decide (r.live = 0 ∧ r.inFlight = false ∧ r.pins = 0 ∧ r.hold = 0)).length =
      p.sl.runs.length := h
    rw [if_neg h']
    rfl

/-- The log with a change of the records that a range meets. -/
def LogUnit.touched (l : LogUnit) (pos n : Nat) (f : Run → Run) : LogUnit :=
  { l with runs := l.runs.map fun r => if Meets pos n r then f r else r }

theorem modRuns_sl (p : Part) (pos n : Nat) (f : Run → Run) : (p.modRuns pos n f).sl = p.sl.touched pos n f := by
  have hruns : modWhere (touches pos n) f p.sl.runs = p.sl.runs.map fun r => if Meets pos n r then f r else r := by
    refine List.map_congr_left fun r _ => ?_
    by_cases h : Meets pos n r
    · rw [if_pos h, if_pos (touches_eq_true.2 h)]
    · rw [if_neg h, if_neg (mt touches_eq_true.1 h)]
  unfold Part.modRuns LogUnit.touched
  rw [← hruns]
  rfl

theorem anyTouched_eq_true {gives : Run → Bool} : p.anyTouched pos n gives = true ↔
    ∃ r ∈ p.sl.runs, Meets pos n r ∧ gives r = true := by
  simp only [Part.anyTouched, List.any_eq_true, Bool.and_eq_true, touches_eq_true]

/-- A change that lets go of a record is followed by the tail check. -/
theorem freeRuns_sl_of_gives {gives : Run → Bool} (f : Run → Run) (h : ∃ r ∈ p.sl.runs, Meets pos n r ∧ gives r = true) :
    (p.freeRuns pos n gives f).sl = logTrimmed (p.sl.touched pos n f) := by
  rw [Part.freeRuns, if_pos (anyTouched_eq_true.2 h), tailCheck_sl, modRuns_sl]

theorem freeRuns_sl_of_keeps {gives : Run → Bool} (f : Run → Run) (h : ∀ r ∈ p.sl.runs, Meets pos n r → gives r = false) :
    (p.freeRuns pos n gives f).sl = p.sl.touched pos n f := by
  rw [Part.freeRuns, if_neg, modRuns_sl]
  rw [anyTouched_eq_true]
  rintro ⟨r, hr, hm, hg⟩
  simp [h r hr hm] at hg

theorem landRuns_sl (p : Part) (pos n : Nat) : (p.landRuns pos n).sl =
    (p.freeRuns pos n Run.inFlight fun r => { r with inFlight := false }).sl := by
  unfold Part.landRuns
  dsimp only
  split
  · by_cases h : ∃ r ∈ p.sl.runs, Meets pos n r ∧ r.inFlight = true
    · exact (freeRuns_sl_of_gives (p := p.note .logInput) _ h).trans (freeRuns_sl_of_gives _ h).symm
    · have h : ∀ r ∈ p.sl.runs, Meets pos n r → r.inFlight = false := fun r hr hm => by
        rw [← Bool.not_eq_true]
        exact fun hf => h ⟨r, hr, hm, hf⟩
      exact (freeRuns_sl_of_keeps (p := p.note .logInput) _ h).trans (freeRuns_sl_of_keeps _ h).symm
  · rfl

/-! ### The work of a destaging channel (R98) -/

/-- The oldest record with live blocks that is not in flight. -/
def oldestWork (l : List Run) : Option Run := l.find? fun r => decide (0 < r.live ∧ r.inFlight = false)

theorem find_workable (l : List Run) : l.find? Run.workable = oldestWork l := by
  refine congrArg (fun q => List.find? q l) (funext fun r => ?_)
  unfold Run.workable
  cases r.inFlight <;> simp

theorem destageWork_none (p : Part) : p.destageWork none = oldestWork p.sl.runs := find_workable _

theorem destageWork_of_unknown (h : ∀ r ∈ p.sl.runs, r.pos ≠ pos) : p.destageWork (some pos) = oldestWork p.sl.runs := by
  rw [← find_workable]
  unfold Part.destageWork
  dsimp only
  rw [if_neg]
  rw [List.any_eq_true]
  rintro ⟨r, hr, hp⟩
  exact h r hr (of_decide_eq_true hp)

theorem destageWork_of_known {a b : List Run} {r : Run} (h : p.sl.runs = a ++ r :: b) (ha : ∀ x ∈ a, x.pos ≠ pos)
    (hr : r.pos = pos) : p.destageWork (some pos) = oldestWork (r :: b) := by
  have hdrop : p.sl.runs.dropWhile (fun x => decide (x.pos ≠ pos)) = r :: b := by
    rw [h, List.dropWhile_append_of_pos (fun x hx => by simpa using ha x hx), List.dropWhile_cons_of_neg (by simp [hr])]
  have hany : (p.sl.runs.any fun x => decide (x.pos = pos)) = true :=
    List.any_eq_true.2 ⟨r, by rw [h]; simp, decide_eq_true hr⟩
  rw [← find_workable]
  unfold Part.destageWork
  dsimp only
  rw [if_pos hany, hdrop]

/-- Settles O26. -/
theorem levelsOfFillRaiseStageHighAndTurnTheLane : Obligations.LevelsOfFillRaiseStageHighAndTurnTheLane := by
  refine ⟨fun p old => ⟨fun ho hp => ?_, fun h => ⟨?_, ?_⟩, fun hp ho => ?_, fun hp ho => ?_, fun h => ?_, Part.levelChecks_bm _ _,
    Part.levelChecks_sl _ _, Part.levelChecks_tx _ _⟩, fun p n => ⟨fun h => ?_, fun hf h => ?_, fun hf hn hd => ?_⟩,
    fun p x y start cls => ⟨?_, ?_, lens_recordsOfPart cls start x⟩, tailCheck_sl,
    fun p pos n => ⟨modRuns_sl _ _ _ _, modRuns_sl _ _ _ _, fun h => ?_, fun h => ?_, fun h => ?_, fun h => ?_, fun h => ?_, fun h => ?_⟩,
    fun p pos => ⟨destageWork_none p, destageWork_of_unknown, fun a r b h ha hr => destageWork_of_known h ha hr⟩⟩
  · rw [levelChecks_sv, stageHighRaised_of_rise ho hp, Part.raise_sv]
  · rw [levelChecks_sv, stageHighRaised_of_not_rise h]
  · rw [levelChecks_li, stageHighRaised_of_not_rise h]
  · rw [levelChecks_mp, urgent_eq_true.2 hp, if_neg (mt urgent_eq_true.1 ho)]
    rfl
  · have hp : p.urgent = false := by
      rw [← Bool.not_eq_true, urgent_eq_true]
      exact hp
    rw [levelChecks_mp, hp, urgent_eq_true.2 ho]
    rfl
  · have hsame : old.urgent = p.urgent := by
      rw [Bool.eq_iff_iff, urgent_eq_true, urgent_eq_true]
      exact h.symm
    rw [levelChecks_mp, if_pos hsame]
  · rw [← recordsNeeded_stagedParts] at h
    exact if_pos (stagingFits_eq_true.2 h)
  · rw [← recordsNeeded_stagedParts] at hf h
    rw [Part.stagingTest, if_neg (mt stagingFits_eq_true.1 hf)]
    rcases h with h | h
    · rw [if_pos (stagingNever_eq_true.2 h)]
    · rw [if_neg (mt destagers_pos.1 h), ite_self]
  · rw [← recordsNeeded_stagedParts] at hf hn
    rw [Part.stagingTest, if_neg (mt stagingFits_eq_true.1 hf), if_neg (mt stagingNever_eq_true.1 hn),
      if_pos (destagers_pos.2 hd)]
  · rw [append_sl, partRecords_one]
    simp
  · rw [append_sl, partRecords_two]
    simp
  · obtain ⟨r, hr, hm, hp⟩ := h
    exact freeRuns_sl_of_gives _ ⟨r, hr, hm, decide_eq_true hp⟩
  · exact freeRuns_sl_of_keeps _ fun r hr hm => decide_eq_false (h r hr hm)
  · obtain ⟨r, hr, hm, hp⟩ := h
    exact freeRuns_sl_of_gives _ ⟨r, hr, hm, decide_eq_true hp⟩
  · exact freeRuns_sl_of_keeps _ fun r hr hm => decide_eq_false (h r hr hm)
  · exact (landRuns_sl p pos n).trans (freeRuns_sl_of_gives _ h)
  · exact (landRuns_sl p pos n).trans (freeRuns_sl_of_keeps _ h)

end Sys2Proof.Machine
end

section
/-! SUPPORT. Bands bound for retirement (R31 to R38): the answers of RETIRE, and what an error, the SUSPECT state, the
release check and the rewind make of a band. -/

namespace Sys2Proof.Machine

open Sys2Proof Sys2Proof.Spec

variable {s : State} {p q : Part} {b t x : Nat}

/-! ### The Retired Track List (R7) -/

theorem mem_insertAsc {l : List Nat} : t ∈ insertAsc x l ↔ t = x ∨ t ∈ l := by
  induction l with
  | nil => simp [insertAsc]
  | cons y ys ih =>
    unfold insertAsc
    split
    · simp
    · split
      · next h => simp [h]
      · rw [List.mem_cons, ih, List.mem_cons]
        exact or_left_comm

theorem pairwise_insertAsc {l : List Nat} (h : l.Pairwise (· < ·)) : (insertAsc x l).Pairwise (· < ·) := by
  induction l with
  | nil => exact List.pairwise_singleton _ _
  | cons y ys ih =>
    obtain ⟨hy, hys⟩ := List.pairwise_cons.1 h
    unfold insertAsc
    split
    · next hlt =>
      refine List.pairwise_cons.2 ⟨fun z hz => ?_, h⟩
      rcases List.mem_cons.1 hz with rfl | hz
      · exact hlt
      · exact lt_trans hlt (hy z hz)
    · split
      · exact h
      · next hlt hne =>
        refine List.pairwise_cons.2 ⟨fun z hz => ?_, ih hys⟩
        rcases mem_insertAsc.1 hz with rfl | hz
        · omega
        · exact hy z hz

theorem insertAsc_ne {l : List Nat} (h : x ∉ l) : insertAsc x l ≠ l := fun heq =>
  h (heq ▸ mem_insertAsc.2 (.inl rfl))

/-- The tracks of a list, inserted one after the other. -/
def insertAll (l ts : List Nat) : List Nat := ts.foldl (fun l t => insertAsc t l) l

theorem mem_insertAll {l ts : List Nat} : t ∈ insertAll l ts ↔ t ∈ l ∨ t ∈ ts := by
  induction ts generalizing l with
  | nil => simp [insertAll]
  | cons y ys ih =>
    refine (ih (l := insertAsc y l)).trans ?_
    rw [mem_insertAsc, List.mem_cons]
    tauto

theorem pairwise_insertAll {l ts : List Nat} (h : l.Pairwise (· < ·)) : (insertAll l ts).Pairwise (· < ·) := by
  induction ts generalizing l with
  | nil => exact h
  | cons y ys ih => exact ih (pairwise_insertAsc h)

theorem retireTracks_retired (p : Part) (ts : List Nat) : (p.retireTracks ts).bm.retired = insertAll p.bm.retired ts := by
  unfold Part.retireTracks
  dsimp only
  split
  · next h => exact h.symm
  · rfl

theorem retireTracks_pending (p : Part) (ts : List Nat) : (p.retireTracks ts).bm.pendingRetire = p.bm.pendingRetire := by
  unfold Part.retireTracks
  dsimp only
  split <;> rfl

/-- Tracks that join the list take the digest with them; where none joins, it stays. -/
theorem retireTracks_header (p : Part) (ts : List Nat) : (p.retireTracks ts).sv.header = { p.sv.header with
    digest := if insertAll p.bm.retired ts = p.bm.retired then p.sv.header.digest
      else digestOf p.bm.geom (insertAll p.bm.retired ts) } := by
  unfold Part.retireTracks
  dsimp only
  split
  · next h => rw [if_pos (show insertAll _ _ = _ from h)]
  · next h =>
    rw [if_neg (show ¬insertAll _ _ = _ from h)]
    rfl

theorem retireTracks_events (p : Part) (ts : List Nat) : (p.retireTracks ts).sv.events = p.sv.events := by
  unfold Part.retireTracks
  dsimp only
  split <;> rfl

/-! ### The answers of RETIRE (R37) -/

/-- A track that lies in a pair of bands. -/
abbrev Shingled (m : BandManager) (t : Nat) : Prop :=
  t ≤ 2 ^ 24 - 1 ∧ classify m t ≠ .staging ∧ classify m t ≠ .unassigned

theorem not_shingled_iff {m : BandManager} :
    (Config.maxTrack < t ∨ classify m t = .staging ∨ classify m t = .unassigned) ↔ ¬Shingled m t := by
  unfold Shingled Config.maxTrack
  constructor
  · rintro (h | h | h) ⟨ht, hs, hu⟩
    · omega
    · exact hs h
    · exact hu h
  · intro h
    by_contra hc
    push Not at hc
    exact h ⟨by omega, hc.2⟩

theorem find_eq_none_of_fresh (h : ∀ e ∈ p.bm.pendingRetire, e.track ≠ t) :
    p.bm.pendingRetire.find? (fun e => decide (e.track = t)) = none :=
  List.find?_eq_none.2 fun e he => by simpa using h e he

theorem retire_of_not_shingled {r : Req} (h : ¬Shingled p.bm t) : p.retire r t = badArg :=
  if_pos (not_shingled_iff.2 h)

theorem retire_of_retired {r : Req} (h : Shingled p.bm t) (ht : t ∈ p.bm.retired) :
    p.retire r t = p.answer r .retire [item 1 0] :=
  (if_neg (mt not_shingled_iff.1 (not_not.2 h))).trans (if_pos ht)

theorem retire_of_pending {r : Req} {e : PendingTrack} (h : Shingled p.bm t) (ht : t ∉ p.bm.retired)
    (he : p.bm.pendingRetire.find? (fun x => decide (x.track = t)) = some e) :
    p.retire r t = p.answer r .retire [item 1 1, item 2 e.band] := by
  refine (if_neg (mt not_shingled_iff.1 (not_not.2 h))).trans ((if_neg ht).trans ?_)
  rw [he]

theorem retire_of_written {r : Req} (h : Shingled p.bm t) (hc : classify p.bm t = .written b) (ht : t ∉ p.bm.retired)
    (he : ∀ e ∈ p.bm.pendingRetire, e.track ≠ t) : p.retire r t =
      if p.retiredFull || decide (Config.pendingRetireCap ≤ p.bm.pendingRetire.length) then .refuse .noSpace []
      else (p.retireLater t b).answer r .retire [item 1 1, item 2 b] := by
  refine (if_neg (mt not_shingled_iff.1 (not_not.2 h))).trans ((if_neg ht).trans ?_)
  rw [find_eq_none_of_fresh he, hc]

theorem retire_of_free {r : Req} {n : Nat} (h : Shingled p.bm t) (hc : classify p.bm t = .freeIn n) (ht : t ∉ p.bm.retired)
    (he : ∀ e ∈ p.bm.pendingRetire, e.track ≠ t) : p.retire r t =
      if p.retiredFull then .refuse .noSpace [] else (p.retireNow t n).answer r .retire [item 1 2] := by
  refine (if_neg (mt not_shingled_iff.1 (not_not.2 h))).trans ((if_neg ht).trans ?_)
  rw [find_eq_none_of_fresh he, hc]

theorem retireTracks_fresh_one (h : t ∉ p.bm.retired) :
    p.retireTracks [t] = (p.modBm fun m => { m with retired := insertAsc t m.retired }).rewriteDigest :=
  if_neg (insertAsc_ne h)

/-- A RETIRE that has arrived is answered as the table of R37 says. -/
theorem exec_retire {r : Req} (h : Arrives s .retire r 1 4) :
    exec (.retire r t) s = .next (after s ((s.part.retire r t).result s.part .retire r)) :=
  taken_arrive h rfl (decide_eq_true h.length)

theorem noRoom_eq_true : (p.retiredFull || decide (Config.pendingRetireCap ≤ p.bm.pendingRetire.length)) = true ↔
    2048 ≤ p.bm.retired.length + p.bm.pendingRetire.length ∨ 256 ≤ p.bm.pendingRetire.length := by
  rw [Bool.or_eq_true, Part.retiredFull, decide_eq_true_iff, decide_eq_true_iff]
  rfl

theorem retiredFull_eq_true : p.retiredFull = true ↔ 2048 ≤ p.bm.retired.length + p.bm.pendingRetire.length :=
  decide_eq_true_iff

/-! ### Event flags that stay up -/

/-- A flag is up. -/
def Part.Flagged (f : EventBits) (p : Part) : Prop := p.sv.events &&& f = f

theorem or_and_self (x f : EventBits) : (x ||| f) &&& f = f := by
  ext i hi
  simp only [BitVec.getElem_and, BitVec.getElem_or]
  cases x[i] <;> simp

theorem or_and_of_and {x f : EventBits} (g : EventBits) (h : x &&& f = f) : (x ||| g) &&& f = f := by
  ext i hi
  have hi' := congrArg (fun v : EventBits => v[i]) h
  simp only [BitVec.getElem_and, BitVec.getElem_or] at hi' ⊢
  revert hi'
  cases x[i] <;> cases f[i] <;> simp

theorem flagged_raise_self (p : Part) (f : EventBits) : (p.raise f).Flagged f := by
  unfold Part.Flagged
  rw [Part.raise_sv]
  exact or_and_self _ _

theorem flagged_raise {f : EventBits} (g : EventBits) (h : p.Flagged f) : (p.raise g).Flagged f := by
  unfold Part.Flagged
  rw [Part.raise_sv]
  exact or_and_of_and g h

theorem flagged_reportFree {f : EventBits} (n : Nat) (h : p.Flagged f) : (p.reportFree n).Flagged f := by
  unfold Part.reportFree
  dsimp only
  split
  · exact h
  · split
    · exact flagged_raise _ h
    · exact h

theorem flagged_rewind {f : EventBits} (b : Nat) (h : p.Flagged f) : (p.rewind b).Flagged f := by
  unfold Part.rewind
  split
  · refine flagged_raise _ ?_
    exact (congrArg (· &&& f) (retireTracks_events _ _)).trans h
  · exact flagged_reportFree _ h

theorem flagged_releaseCheck {f : EventBits} (b : Nat) (h : p.Flagged f) : (p.releaseCheck b).Flagged f := by
  unfold Part.releaseCheck
  dsimp only
  split
  · exact flagged_rewind b h
  · exact h

/-! ### A band that loses its owner (R23) -/

theorem loseOwner_su (p : Part) (b : Nat) : (p.loseOwner b).su = streamsWithout (p.band b).owner p.su := by
  unfold Part.loseOwner
  dsimp only
  split
  · next h => rw [h]; rfl
  · next o h => rw [h]; cases o <;> rfl

theorem loseOwner_re (p : Part) (b : Nat) :
    (p.loseOwner b).re = { p.re with chans := chansWithout (p.band b).owner p.re.chans } := by
  unfold Part.loseOwner
  dsimp only
  split
  · next h => rw [h]; rfl
  · next o h => rw [h]; cases o <;> rfl

theorem band_loseOwner_self (h : b < p.bm.bands.length) : (p.loseOwner b).band b = { p.band b with owner := none } := by
  refine (Part.band_congr (p := p.modBand b fun r => { r with owner := none }) ?_ b).trans (band_modBand_self h)
  rw [Part.loseOwner_bm]
  rfl

theorem band_loseOwner_other (h : x ≠ b) : (p.loseOwner b).band x = p.band x := by
  refine (Part.band_congr (p := p.modBand b fun r => { r with owner := none }) ?_ x).trans ?_
  · rw [Part.loseOwner_bm]
    rfl
  · rw [Part.band_modBand, if_neg fun hc => h hc.1]

theorem length_loseOwner (p : Part) (b : Nat) : (p.loseOwner b).bm.bands.length = p.bm.bands.length := by
  rw [Part.loseOwner_bm]
  exact List.length_modify _ _ _

/-! ### The release check and the rewind of a band (R32, R33) -/

theorem band_releaseCheck_self (h : b < p.bm.bands.length) : (p.releaseCheck b).band b = checked (p.band b) := by
  rw [band_releaseCheck p b h, if_pos rfl]

theorem band_releaseCheck_other (h : x ≠ b) : (p.releaseCheck b).band x = p.band x := by
  unfold Part.releaseCheck
  dsimp only
  split
  · exact band_rewind_other h
  · rfl

theorem releaseCheck_eq_self (h : ¬(((p.band b).state = .closed ∨ (p.band b).state = .suspect) ∧ (p.band b).valid = 0 ∧
    (p.band b).pins = 0 ∧ (p.band b).pendingRemaps = 0 ∧ (p.band b).inFlight = 0)) : p.releaseCheck b = p :=
  if_neg fun hc => h ⟨hc.1, releasable_eq_true.1 hc.2⟩

/-- The part when a band with its suspect flag set has been rewound, and its tracks wait no more. -/
def Part.rewoundSuspect (p : Part) (b : Nat) : Part :=
  (p.modBand b fun r => { r with state := .retired, wp := 0, owner := none }).modBm fun m =>
    { m with pendingRetire := m.pendingRetire.filter fun e => decide (e.band ≠ b) }

theorem rewind_of_suspect (h : (p.band b).suspectFlag = true) :
    p.rewind b = ((p.rewoundSuspect b).retireTracks (pendingOf p.bm b)).raise evBandRetired := if_pos h

theorem rewind_of_not_suspect (h : (p.band b).suspectFlag = false) : p.rewind b = (p.modBand b fun r =>
    { r with state := .free, wp := 0, owner := none, cls := 0, closedHour := 0 }).reportFree (freeCount p.bm) :=
  if_neg (by simp [h])

theorem reportFree_header (p : Part) (n : Nat) : (p.reportFree n).sv.header = p.sv.header := by
  unfold Part.reportFree
  dsimp only
  split
  · rfl
  · split
    · exact (congrArg Supervisor.header (Part.raise_sv p evFreeLow) :)
    · rfl

theorem mem_pendingOf : t ∈ pendingOf p.bm b ↔ ∃ e ∈ p.bm.pendingRetire, e.band = b ∧ e.track = t := by
  unfold pendingOf
  simp [and_assoc]

/-! ### Bands bound for retirement (R34 to R36) -/

/-- A band of an owner, a list or neither that goes to SUSPECT: its record is changed, the flag is raised, and the
release check is made. -/
theorem suspected {q : Part} {f : Band → Band} (h : b < q.bm.bands.length) :
    let u := ((q.modBand b f).raise evBandSuspect).releaseCheck b
    (∀ c, c ≠ b → u.band c = q.band c) ∧ u.sv.events &&& evBandSuspect = evBandSuspect ∧
      u.band b = checked (f (q.band b)) := by
  dsimp only
  have hbands : ∀ c, ((q.modBand b f).raise evBandSuspect).band c = (q.modBand b f).band c := fun c =>
    Part.band_congr (by rw [Part.raise_bm]) c
  refine ⟨fun c hc => ?_, flagged_releaseCheck b (flagged_raise_self _ _), ?_⟩
  · rw [band_releaseCheck_other hc, hbands, Part.band_modBand, if_neg fun h => hc h.1]
  · rw [band_releaseCheck_self (by rw [Part.raise_bm, Part.modBand_length]; exact h), hbands, band_modBand_self h]

theorem bindSuspect_of_still (h : (p.band b).state = .free ∨ (p.band b).state = .retired ∨ (p.band b).state = .suspect) :
    p.bindSuspect b = p := by
  unfold Part.bindSuspect
  rcases h with h | h | h <;> rw [h]

theorem bindSuspect_of_reclaiming (h : (p.band b).state = .reclaiming) :
    p.bindSuspect b = p.modBand b fun r => { r with suspectFlag := true } := by
  unfold Part.bindSuspect
  rw [h]

theorem bindSuspect_of_closed (h : (p.band b).state = .closed) : p.bindSuspect b =
    ((p.modBand b fun r => { r with state := .suspect, suspectFlag := true }).raise evBandSuspect).releaseCheck b := by
  unfold Part.bindSuspect
  rw [h]

theorem bindSuspect_of_parked (h : (p.band b).state = .parked) : p.bindSuspect b =
    (((p.unpark b).modBand b fun r => { r with state := .suspect, suspectFlag := true, closedHour := p.hours }).raise
      evBandSuspect).releaseCheck b := by
  unfold Part.bindSuspect
  rw [h]

theorem bindSuspect_of_opened (h : (p.band b).state = .opened) : p.bindSuspect b =
    (((p.loseOwner b).modBand b fun r => { r with state := .suspect, suspectFlag := true, closedHour := p.hours }).raise
      evBandSuspect).releaseCheck b := by
  unfold Part.bindSuspect
  rw [h]

theorem bandError_eq (h : b < p.bm.bands.length) : p.bandError b =
    if p.sv.settings.suspect ≤ min 255 ((p.band b).errors + 1) then
      (p.modBand b fun x => { x with errors := min 255 (x.errors + 1) }).bindSuspect b
    else p.modBand b fun x => { x with errors := min 255 (x.errors + 1) } := by
  have herrors : ((p.modBand b fun x => { x with errors := satAdd 255 x.errors 1 }).band b).errors =
      min 255 ((p.band b).errors + 1) := by
    rw [band_modBand_self h]
    rfl
  unfold Part.bandError
  dsimp only
  rw [herrors]
  rfl

theorem returnOnly_of_suspect (h : (p.band b).suspectFlag = true) :
    p.returnOnly b = (p.modBand b fun r => { r with state := .suspect }).raise evBandSuspect := if_pos h

theorem returnOnly_of_closed (h : (p.band b).suspectFlag = false) :
    p.returnOnly b = p.modBand b fun r => { r with state := .closed } := if_neg (by simp [h])

theorem band_returnOnly (p : Part) (b x : Nat) : (p.returnOnly b).band x =
    (p.modBand b fun r => { r with state := if (p.band b).suspectFlag then .suspect else .closed }).band x := by
  cases h : (p.band b).suspectFlag with
  | true =>
    rw [returnOnly_of_suspect h]
    exact Part.band_congr (by rw [Part.raise_bm]; rfl) x
  | false =>
    rw [returnOnly_of_closed h]
    rfl

/-- What a band's binding for retirement makes of it and of the others (R35). -/
theorem bindSuspect_spec (hb : b < p.bm.bands.length) :
    let r := p.band b
    let H := p.sv.header.hours
    let others (q : Part) : Prop := ∀ c, c ≠ b → q.band c = p.band c
    let q := p.bindSuspect b
    (r.state = .free ∨ r.state = .retired ∨ r.state = .suspect → q = p) ∧
    (r.state = .reclaiming → q = p.modBand b fun x => { x with suspectFlag := true }) ∧
    (r.state = .closed → others q ∧ q.sv.events &&& evBandSuspect = evBandSuspect ∧
      q.band b = checked { r with state := .suspect, suspectFlag := true }) ∧
    (r.state = .parked → others q ∧ q.sv.events &&& evBandSuspect = evBandSuspect ∧
      q.band b = checked { r with state := .suspect, suspectFlag := true, closedHour := H } ∧
      q.bm.parked = p.bm.parked.map fun l => l.filter fun x => decide (x ≠ b)) ∧
    (r.state = .opened → others q ∧ q.sv.events &&& evBandSuspect = evBandSuspect ∧
      q.band b = checked { r with state := .suspect, suspectFlag := true, closedHour := H, owner := none } ∧
      q.su = streamsWithout r.owner p.su ∧ q.re.chans = chansWithout r.owner p.re.chans) := by
  dsimp only
  refine ⟨bindSuspect_of_still, bindSuspect_of_reclaiming, fun h => ?_, fun h => ?_, fun h => ?_⟩
  · rw [bindSuspect_of_closed h]
    exact suspected hb
  · rw [bindSuspect_of_parked h]
    obtain ⟨hothers, hflag, hself⟩ := suspected (q := p.unpark b)
      (f := fun r => { r with state := .suspect, suspectFlag := true, closedHour := p.hours }) (by exact hb)
    refine ⟨hothers, hflag, hself, ?_⟩
    rw [Part.releaseCheck_parked, Part.raise_bm]
    rfl
  · rw [bindSuspect_of_opened h]
    obtain ⟨hothers, hflag, hself⟩ := suspected (q := p.loseOwner b)
      (f := fun r => { r with state := .suspect, suspectFlag := true, closedHour := p.hours })
      (by rw [length_loseOwner]; exact hb)
    refine ⟨fun c hc => (hothers c hc).trans (band_loseOwner_other hc), hflag, ?_, ?_, ?_⟩
    · rw [hself, band_loseOwner_self hb]
      rfl
    · rw [Part.releaseCheck_su, Part.raise_su]
      exact loseOwner_su p b
    · rw [Part.releaseCheck_re, Part.raise_re]
      exact congrArg RelocEngine.chans (loseOwner_re p b)

/-- What a rewind makes of the band, the lists, and the stored header (R33). -/
theorem rewind_spec (hb : b < p.bm.bands.length) :
    let q := p.rewind b
    q.band b = rewound (p.band b) ∧ (∀ c, c ≠ b → q.band c = p.band c) ∧ q.bm.parked = p.bm.parked ∧
    ((p.band b).suspectFlag = false → q.bm.retired = p.bm.retired ∧ q.bm.pendingRetire = p.bm.pendingRetire ∧
      q.sv.header = p.sv.header) ∧
    ((p.band b).suspectFlag = true → q.sv.events &&& evBandRetired = evBandRetired ∧
      q.bm.pendingRetire = p.bm.pendingRetire.filter (fun e => decide (e.band ≠ b)) ∧
      (p.bm.retired.Pairwise (· < ·) → q.bm.retired.Pairwise (· < ·) ∧
        (∀ t, t ∈ q.bm.retired ↔ t ∈ p.bm.retired ∨ ∃ e ∈ p.bm.pendingRetire, e.band = b ∧ e.track = t) ∧
        q.sv.header = { p.sv.header with digest :=
          if q.bm.retired = p.bm.retired then p.sv.header.digest else digestOf p.bm.geom q.bm.retired })) := by
  dsimp only
  refine ⟨band_rewind_self hb, fun c hc => band_rewind_other hc, Part.rewind_parked p b, fun h => ?_, fun h => ?_⟩
  · rw [rewind_of_not_suspect h, Part.reportFree_bm, reportFree_header]
    exact ⟨rfl, rfl, rfl⟩
  · have hretired : (p.rewind b).bm.retired = insertAll p.bm.retired (pendingOf p.bm b) := by
      rw [rewind_of_suspect h, Part.raise_bm]
      exact retireTracks_retired _ _
    refine ⟨?_, ?_, fun hasc => ⟨?_, fun t => ?_, ?_⟩⟩
    · rw [rewind_of_suspect h]
      exact flagged_raise_self _ _
    · rw [rewind_of_suspect h, Part.raise_bm]
      exact retireTracks_pending _ _
    · rw [hretired]
      exact pairwise_insertAll hasc
    · rw [hretired, mem_insertAll, mem_pendingOf]
    · rw [hretired, rewind_of_suspect h, Part.raise_sv]
      exact retireTracks_header _ _

/-- What the return of a victim makes of it and of the others (R36). -/
theorem returnVictim_spec (hb : b < p.bm.bands.length) :
    let q := p.returnVictim b
    (∀ c, c ≠ b → q.band c = p.band c) ∧
    q.band b = checked { p.band b with state := if (p.band b).suspectFlag then .suspect else .closed } ∧
    ((p.band b).suspectFlag = true → q.sv.events &&& evBandSuspect = evBandSuspect) := by
  have hlen : b < (p.returnOnly b).bm.bands.length := by
    unfold Part.returnOnly
    split
    · rw [Part.raise_bm, Part.modBand_length]
      exact hb
    · rw [Part.modBand_length]
      exact hb
  dsimp only
  unfold Part.returnVictim
  refine ⟨fun c hc => ?_, ?_, fun h => ?_⟩
  · rw [band_releaseCheck_other hc, band_returnOnly, Part.band_modBand, if_neg fun h => hc h.1]
  · rw [band_releaseCheck_self hlen, band_returnOnly, band_modBand_self hb]
  · rw [returnOnly_of_suspect h]
    exact flagged_releaseCheck b (flagged_raise_self _ _)

/-- Settles O34. -/
theorem retireAnswersInItsOrder : Obligations.RetireAnswersInItsOrder := by
  refine ⟨fun s q t h hr => ?_, fun p b hb => ?_⟩
  · dsimp only
    refine ⟨fun hsh => ?_, fun hsh ht => ?_, fun e hsh ht he => ?_, fun b ht hc hfresh => ?_, fun n ht hc hfresh => ?_⟩
    · rw [exec_retire h, retire_of_not_shingled hsh, Verdict.result_badArg, after_say hr]
    · rw [exec_retire h, retire_of_retired hsh ht, Verdict.result_answer, after_say hr]
    · rw [exec_retire h, retire_of_pending hsh ht he, Verdict.result_answer, after_say hr]
    · have hsh : Shingled s.part.bm t := ⟨ht, by simp [hc], by simp [hc]⟩
      rw [exec_retire h, retire_of_written hsh hc hfresh.1 hfresh.2]
      by_cases hfull : 2048 ≤ s.part.bm.retired.length + s.part.bm.pendingRetire.length ∨
          256 ≤ s.part.bm.pendingRetire.length
      · rw [if_pos hfull, if_pos (noRoom_eq_true.2 hfull),
          Verdict.result_refuse, after_say hr]
      · rw [if_neg hfull, if_neg (mt noRoom_eq_true.1 hfull)]
        rfl
    · have hsh : Shingled s.part.bm t := ⟨ht, by simp [hc], by simp [hc]⟩
      rw [exec_retire h, retire_of_free hsh hc hfresh.1 hfresh.2]
      by_cases hfull : 2048 ≤ s.part.bm.retired.length + s.part.bm.pendingRetire.length
      · rw [if_pos hfull, if_pos (retiredFull_eq_true.2 hfull), Verdict.result_refuse, after_say hr]
      · rw [if_neg hfull, if_neg (mt retiredFull_eq_true.1 hfull), Verdict.result_answer, Part.retireNow,
          retireTracks_fresh_one hfresh.1]
        rfl
  · dsimp only
    refine ⟨fun h => ?_, fun h => ?_, bindSuspect_spec hb, ⟨band_releaseCheck_self hb, fun c hc => band_releaseCheck_other hc,
      fun h => releaseCheck_eq_self h⟩, rewind_spec hb, rfl, returnVictim_spec hb⟩
    · exact (bandError_eq hb).trans (if_neg (Nat.not_le.2 h))
    · exact (bandError_eq hb).trans (if_pos h)

end Sys2Proof.Machine
end

section
/-! SUPPORT. FORMAT: what each of its Map Store updates leads to when it is durable (R179). -/

namespace Sys2Proof.Machine

open Sys2Proof Sys2Proof.Spec

variable {s : State} {p : Part}

/-! ### The state after an event of a still part -/

theorem after_bm_of_still (h : p.Still) : (after s p).part.bm = p.bm := by
  simp [after_part_of_still h]

theorem after_sl_of_still (h : p.Still) : (after s p).part.sl = p.sl := by
  simp [after_part_of_still h]

theorem after_re_of_still (h : p.Still) : (after s p).part.re = p.re := by
  simp [after_part_of_still h]

theorem after_sc_of_still (h : p.Still) : (after s p).part.sc = p.sc := by
  simp [after_part_of_still h]

/-! ### The steps of a FORMAT -/

/-- The empty and default tables, before the digest goes with them. -/
def Part.tablesBlank (p : Part) (g : Geometry) (retired : List Nat) : Part :=
  { p with
    bm := {
      geom := g, retired := retired, pendingRetire := []
      bands := List.replicate (2 * pairCount g) Band.blank, parked := List.replicate 8 [] }
    tu := { extents := [], regions := [], remaps := [], reserveTotal := 0 }
    sl := { runs := [], head := 0, tail := 0, held := false }
    re := { p.re with setups := List.replicate 4 ChanSetup.default }
    sc := { p.sc with mode := .rnu }
    sv := { p.sv with classes := defaultClasses, settings := defaultSettings } }

/-- The empty and default tables, before the levels are looked at. -/
def Part.tablesEmptied (p : Part) (g : Geometry) (retired : List Nat) : Part :=
  ((p.tablesBlank g retired).rewriteDigest).setMask 0

theorem formatTables_eq (p : Part) (g : Geometry) (retired : List Nat) :
    p.formatTables g retired = (p.tablesEmptied g retired).levelChecks p := rfl

/-- The part when the update that unmarked the part is durable. -/
def Part.tablesWritten (p : Part) (w : FormatWork) : Part :=
  ((p.formatTables w.geom w.retired).modSv fun v => { v with format := some { w with phase := .tables } }).follow .format

theorem formatNext_of_unmark {w : FormatWork} (hw : p.sv.format = some w) (h : w.phase = .unmark) :
    p.formatNext = p.tablesWritten w := by
  unfold Part.formatNext
  rw [hw]
  dsimp only
  rw [h]
  rfl

theorem formatNext_of_tables {w : FormatWork} (hw : p.sv.format = some w) (h : w.phase = .tables) :
    p.formatNext = (p.formatHeader.modSv fun v => { v with format := some { w with phase := .header } }).follow .format := by
  unfold Part.formatNext
  rw [hw]
  dsimp only
  rw [h]

theorem formatNext_of_header {w : FormatWork} (hw : p.sv.format = some w) (h : w.phase = .header) :
    p.formatNext = p.formatDone w.tag := by
  unfold Part.formatNext
  rw [hw]
  dsimp only
  rw [h]

/-- The first step that is placed after an event's update. -/
theorem follow_eq {f : Follow} (h : p.store.follows = []) : p.follow f = { p with store := { p.store with follows := [f] } } :=
  congrArg (fun l => ({ p with store := { p.store with follows := l ++ [f] } } : Part)) h

/-- The part when a FORMAT has ended, with no reset in progress. -/
def Part.formatEnded (p : Part) (tag : Nat) : Part :=
  ({ p with sv := { p.sv with format := none, device := .stopped, hourAcc := 0 } } : Part).sayHeld
    { tag := tag, place := .ordinary, payload := .reply .ok .format [] }

theorem formatDone_eq (h : p.sv.reset = none) (tag : Nat) : p.formatDone tag = p.formatEnded tag := by
  unfold Part.formatDone
  simp only [Part.resetting, h, Option.isSome_none, Bool.false_eq_true, if_false]
  rfl

theorem formatComplete_of_header {w : FormatWork} (hw : p.sv.format = some w) (h : w.phase = .header) :
    p.formatComplete = p.followDurable .format := by
  unfold Part.formatComplete
  rw [hw]
  exact if_pos h

/-- A FORMAT's updates are followed by its next step, and by no reset where none is in progress. -/
theorem foldl_followUp_format {l : List Follow} (h : l = [.format]) (hr : p.formatNext.sv.reset = none) :
    l.foldl Part.followUp p = p.formatNext := by
  rw [h]
  exact tryCompleteReset_of_no_reset hr

/-! ### The empty and default tables (R42, R63, R101) -/

/-- What the event flags and the NOTICE that goes with them do not touch. -/
theorem announce_keeps {γ : Type} (g : Part → γ) (h : ∀ q f, g (q.modLi f) = g q) (p : Part) (f : EventBits) :
    g (p.announce f) = g p := by
  unfold Part.announce
  split
  · rfl
  · exact h p _

/-- The Supervisor's record but for the flags that are pending. -/
def Supervisor.unflagged (v : Supervisor) : Supervisor := { v with events := 0, alert := false }

theorem raise_unflagged (p : Part) (f : EventBits) : (p.raise f).sv.unflagged = p.sv.unflagged := by
  rw [Part.raise_sv]
  rfl

theorem tablesWritten_unflagged (p : Part) (w : FormatWork) : (p.tablesWritten w).sv.unflagged = { p.sv with
    header := { p.sv.header with digest := digestOf w.geom w.retired }
    classes := defaultClasses, settings := defaultSettings, mask := 0, events := 0, alert := false
    format := some { w with phase := .tables } } := by
  have hlevels : (p.formatTables w.geom w.retired).sv.unflagged = (p.tablesEmptied w.geom w.retired).sv.unflagged := by
    rw [formatTables_eq]
    exact levelChecks_keeps (fun q => q.sv.unflagged) raise_unflagged (fun _ _ => rfl) (fun _ _ => rfl) _ _
  have hempty : (p.tablesEmptied w.geom w.retired).sv.unflagged = { p.sv with
      header := { p.sv.header with digest := digestOf w.geom w.retired }
      classes := defaultClasses, settings := defaultSettings, mask := 0, events := 0, alert := false } :=
    announce_keeps (fun q => q.sv.unflagged) (fun _ _ => rfl) _ _
  exact congrArg (fun v : Supervisor => { v with format := some { w with phase := .tables } }) (hlevels.trans hempty)

/-- A block that neither the mask nor the level checks touch is as the empty tables have it. -/
theorem tablesWritten_keeps {γ : Type} (g : Part → γ) (hv : ∀ q f, g (q.modSv f) = g q) (hl : ∀ q f, g (q.modLi f) = g q)
    (hn : ∀ q n, g (q.note n) = g q) (hm : ∀ q f, g (q.modMp f) = g q) (hs : ∀ q f, g (q.modStore f) = g q)
    (p : Part) (w : FormatWork) : g (p.tablesWritten w) = g (p.tablesBlank w.geom w.retired) := by
  have hraise : ∀ q f, g (q.raise f) = g q := fun q f => (announce_keeps g hl _ _).trans (hv q _)
  have hwritten : g (p.tablesWritten w) = g (p.formatTables w.geom w.retired) := by
    unfold Part.tablesWritten Part.follow
    exact (hs _ _).trans (hv _ _)
  have hlevels : g (p.formatTables w.geom w.retired) = g (p.tablesEmptied w.geom w.retired) :=
    levelChecks_keeps g hraise hn hm _ _
  have hempty : g (p.tablesEmptied w.geom w.retired) = g (p.tablesBlank w.geom w.retired) :=
    (announce_keeps g hl _ _).trans ((hv _ _).trans (hv _ _))
  exact hwritten.trans (hlevels.trans hempty)

theorem still_tablesWritten (h : p.Still) (w : FormatWork) : (p.tablesWritten w).Still := by
  refine still_follow (still_modSv ?_ rfl)
  rw [formatTables_eq]
  refine still_levelChecks (still_setMask (still_rewriteDigest ?_))
  exact h.of_eq rfl rfl h.2.2.symm

/-- Settles O33. -/
theorem formatGoesOnToItsEnd : Obligations.FormatGoesOnToItsEnd := by
  intro s w u hs hr hstill hw hreset hfollows hof
  have hwork : (s.part.markDone u.id).sv.format = some w := hw
  have hdurable : exec (.storeUpdateDurable u.id) s =
      .next (after s (u.follows.foldl Part.followUp (s.part.markDone u.id))) :=
    (taken_eq_after hs _).trans (congrArg (fun q => Host.Outcome.next (after s q)) (updateDurable_eq hof))
  refine ⟨fun hph => ?_, fun hph => ?_, fun hph hfind => ?_⟩
  · have hsv := tablesWritten_unflagged (s.part.markDone u.id) w
    have hnext : u.follows.foldl Part.followUp (s.part.markDone u.id) = (s.part.markDone u.id).tablesWritten w := by
      refine (foldl_followUp_format hfollows ?_).trans (formatNext_of_unmark hwork hph)
      rw [formatNext_of_unmark hwork hph]
      exact (congrArg Supervisor.reset hsv).trans hreset
    have hst : ((s.part.markDone u.id).tablesWritten w).Still := still_tablesWritten (still_markDone hstill) w
    refine ⟨_, hdurable, ?_⟩
    rw [hnext, after_bm_of_still hst, after_tu_of_still hst, after_sl_of_still hst, after_re_of_still hst,
      after_sc_of_still hst, after_sv_of_still hst]
    refine ⟨?_, ?_, ?_, ?_, ?_, (congrArg Supervisor.classes hsv :), (congrArg Supervisor.settings hsv :),
      (congrArg Supervisor.mask hsv :), (congrArg Supervisor.format hsv :), (congrArg Supervisor.header hsv :),
      (congrArg Supervisor.device hsv :)⟩
    · exact tablesWritten_keeps Part.bm (fun _ _ => rfl) (fun _ _ => rfl) (fun _ _ => rfl) (fun _ _ => rfl) (fun _ _ => rfl) _ w
    · exact tablesWritten_keeps Part.tu (fun _ _ => rfl) (fun _ _ => rfl) (fun _ _ => rfl) (fun _ _ => rfl) (fun _ _ => rfl) _ w
    · exact tablesWritten_keeps Part.sl (fun _ _ => rfl) (fun _ _ => rfl) (fun _ _ => rfl) (fun _ _ => rfl) (fun _ _ => rfl) _ w
    · exact tablesWritten_keeps (fun q => q.re.setups) (fun _ _ => rfl) (fun _ _ => rfl) (fun _ _ => rfl) (fun _ _ => rfl)
        (fun _ _ => rfl) _ w
    · exact tablesWritten_keeps (fun q => q.sc.mode) (fun _ _ => rfl) (fun _ _ => rfl) (fun _ _ => rfl) (fun _ _ => rfl)
        (fun _ _ => rfl) _ w
  · refine hdurable.trans (congrArg _ ?_)
    rw [foldl_followUp_format hfollows (by rw [formatNext_of_tables hwork hph]; exact hreset),
      formatNext_of_tables hwork hph]
    refine (after_eq_commit (by exact hr.1)).trans (congrArg (commit s) ?_)
    exact follow_eq (p := (s.part.markDone u.id).formatHeader.modSv _) (by exact hr.2)
  · refine taken_of_sameStored (p := (s.part.markDone u.id).formatEnded w.tag) hs hr ?_ ⟨rfl, rfl, rfl⟩
    have hdone := (formatNext_of_header hwork hph).trans (formatDone_eq (p := s.part.markDone u.id) hreset w.tag)
    refine (formatComplete_of_header hw hph).trans ((followDurable_eq hof hfind).trans ((foldl_followUp_format hfollows ?_).trans hdone))
    rw [hdone]
    exact hreset

end Sys2Proof.Machine
end

section
/-! SUPPORT. The requests without a record at the head of the Request Queue (R73, R74, R161, R170), and what a close and
a park make of a band (R28 to R30). -/

namespace Sys2Proof.Machine

open Sys2Proof Sys2Proof.Spec

variable {s : State} {p q : Part} {h : Queued} {b x : Nat}

/-! ### Requests that end at the head -/

/-- The part when a request has ended in its admission event. -/
def Part.answeredAtHead (p : Part) (h : Queued) (r : Result) (items : List Item) : Part :=
  (p.popHead.sayHeld { tag := h.tag, place := .ordinary, payload := .reply r h.req.kind items }).note .drain

theorem endAtHead_of_not_long (hk : h.req.kind.isLong = false) (p : Part) (r : Result) (items : List Item) :
    p.endAtHead h r items = p.answeredAtHead h r items := by
  unfold Part.endAtHead finalMsg
  rw [hk]
  rfl

/-- A head whose test accepts it. -/
theorem admitHead_of_accept (hh : Heads s h) (ht : s.part.headTest h = .accept q) : s.part.admitHead h.req.kind = q := by
  unfold Part.admitHead
  rw [if_neg (by simp [admits_of_heads hh]), hh.front]
  dsimp only
  rw [if_pos rfl, ht]

theorem admitHead_locate {a n : Nat} (hh : Heads s h) (hreq : h.req = .locate a n) :
    s.part.admitHead .locate = s.part.answeredAtHead h .ok (s.part.locateItems a n) := by
  have htest := headTest_of_heads hh
  rw [hreq] at htest
  refine (congrArg s.part.admitHead (by rw [hreq]; rfl)).trans ((admitHead_of_accept hh htest).trans ?_)
  exact endAtHead_of_not_long (by rw [hreq]; rfl) _ _ _

theorem admitHead_streamOpen {i c t v l : Nat} (hh : Heads s h) (hreq : h.req = .streamOpen i c t v l) :
    s.part.admitHead .streamOpen = if (s.part.stream i).state = .free then
      (s.part.openStream i c t v l).answeredAtHead h .ok [item 3 (storedIdle l)]
    else s.part.answeredAtHead h .streamBusy [] := by
  have htest := headTest_of_heads hh
  rw [hreq] at htest
  refine (congrArg s.part.admitHead (by rw [hreq]; rfl)).trans ((admitHead_of_accept hh htest).trans ?_)
  have hlong : h.req.kind.isLong = false := by rw [hreq]; rfl
  unfold Part.admitOpen
  rw [endAtHead_of_not_long hlong, endAtHead_of_not_long hlong]

/-- The items of a STREAM CLOSE's answer. -/
def closeItems (p : Part) (band : Option Nat) (pad : Nat) : List Item :=
  [optItem band] ++ (match band with
    | some b => [item 1 (p.band b).state.code]
    | none => []) ++ [item 2 pad]

theorem admitHead_streamClose {i : Nat} (hh : Heads s h) (hreq : h.req = .streamClose i) :
    s.part.admitHead .streamClose = (s.part.closeStream i).2.2.answeredAtHead h .ok
      (closeItems (s.part.closeStream i).2.2 (s.part.closeStream i).1 (s.part.closeStream i).2.1) := by
  have htest := headTest_of_heads hh
  rw [hreq] at htest
  refine (congrArg s.part.admitHead (by rw [hreq]; rfl)).trans ((admitHead_of_accept hh htest).trans ?_)
  exact endAtHead_of_not_long (by rw [hreq]; rfl) _ _ _

theorem closeStream_of_free {i : Nat} (h : (p.stream i).state = .free) : p.closeStream i = (none, 0, p) := by
  unfold Part.closeStream
  dsimp only
  rw [h]

theorem closeStream_of_bandless {i : Nat} (hf : (p.stream i).state ≠ .free)
    (h : (p.stream i).state ≠ .active ∨ (p.stream i).band = none) :
    p.closeStream i = (none, 0, p.modStream i fun _ => Stream.blank) := by
  unfold Part.closeStream
  dsimp only
  split
  · next b ha hb => simp [ha, hb] at h
  · next ha => exact absurd ha hf
  · rfl

theorem closeStream_of_band {i : Nat} (ha : (p.stream i).state = .active) (hb : (p.stream i).band = some b) :
    p.closeStream i = (some b, (p.parkTallied b (p.stream i).park).1,
      (p.parkTallied b (p.stream i).park).2.modStream i fun _ => Stream.blank) := by
  unfold Part.closeStream
  dsimp only
  rw [ha, hb]

/-! ### A close (R28) -/

/-- A band that has been closed at an hour, and checked for release. -/
def closedAt (H : Nat) (r : Band) : Band := checked { r with state := .closed, closedHour := H, owner := none }

theorem band_closeBand_self (h : b < p.bm.bands.length) : (p.closeBand b).band b = closedAt p.sv.header.hours (p.band b) := by
  have hlen : b < (p.loseOwner b).bm.bands.length := by rw [length_loseOwner]; exact h
  have hclosed : ((p.loseOwner b).closeOnly b).band b =
      { p.band b with state := .closed, closedHour := p.sv.header.hours, owner := none } := by
    refine (band_modBand_self (p := (p.loseOwner b).unpark b) hlen).trans ?_
    rw [show ((p.loseOwner b).unpark b).band b = (p.loseOwner b).band b from rfl, band_loseOwner_self h]
    unfold Part.hours
    rw [Part.loseOwner_sv]
  unfold Part.closeBand
  rw [band_releaseCheck_self (by exact (Part.modBand_length _ _ _).symm ▸ hlen), hclosed]
  rfl

theorem band_closeBand_other (h : x ≠ b) : (p.closeBand b).band x = p.band x := by
  unfold Part.closeBand
  rw [band_releaseCheck_other h]
  refine (Part.band_modBand ((p.loseOwner b).unpark b) b x _).trans ((if_neg fun hc => h hc.1).trans ?_)
  exact band_loseOwner_other h

theorem closeBand_parked (p : Part) (b : Nat) :
    (p.closeBand b).bm.parked = p.bm.parked.map fun l => l.filter fun x => decide (x ≠ b) := by
  unfold Part.closeBand
  rw [Part.releaseCheck_parked, Part.closeOnly_bm, Part.loseOwner_bm]
  rfl

theorem closeBand_su (p : Part) (b : Nat) : (p.closeBand b).su = streamsWithout (p.band b).owner p.su := by
  unfold Part.closeBand
  rw [Part.releaseCheck_su, Part.closeOnly_su, loseOwner_su]

theorem closeBand_re (p : Part) (b : Nat) :
    (p.closeBand b).re = { p.re with chans := chansWithout (p.band b).owner p.re.chans } := by
  unfold Part.closeBand
  rw [Part.releaseCheck_re, Part.closeOnly_re, loseOwner_re]

theorem closeBand_length (p : Part) (b : Nat) : (p.closeBand b).bm.bands.length = p.bm.bands.length := by
  unfold Part.closeBand
  rw [Part.releaseCheck_length, Part.closeOnly_bm]
  exact (List.length_modify _ _ _).trans (length_loseOwner p b)

/-! ### The write pointer under a tail policy (R29) -/

/-- The blocks that a tail policy adds to a write pointer. -/
def padOf (pol : TailPolicy) (S wp : Nat) : Nat :=
  match pol with
  | .cont => 0
  | .pad => if wp % S = 0 then 0 else S - wp % S

theorem paddedWp_eq (pol : TailPolicy) {S : Nat} (hS : 0 < S) (wp : Nat) : paddedWp pol S wp = wp + padOf pol S wp := by
  cases pol with
  | cont => rfl
  | pad =>
    unfold paddedWp padOf
    dsimp only
    split
    · rfl
    · have hdiv := Nat.div_add_mod wp S
      have hmod := Nat.mod_lt wp hS
      rw [Nat.add_mul, Nat.mul_comm]
      omega

/-- The pad stays within the last track begun. -/
theorem lastTrack_padded (pol : TailPolicy) {S : Nat} (hS : 0 < S) (wp : Nat) :
    (wp + padOf pol S wp - 1) / S = (wp - 1) / S := by
  cases pol with
  | cont => rfl
  | pad =>
    unfold padOf
    dsimp only
    split
    · rfl
    · next hne =>
      have hdiv := Nat.div_add_mod wp S
      have hmod := Nat.mod_lt wp hS
      have hnew : wp + (S - wp % S) - 1 = S * (wp / S) + (S - 1) := by omega
      have hold : wp - 1 = S * (wp / S) + (wp % S - 1) := by omega
      have hlast : S - 1 < S := by omega
      have hbegun : wp % S - 1 < S := by omega
      rw [hnew, hold, Nat.mul_add_div hS, Nat.mul_add_div hS, Nat.div_eq_of_lt hlast, Nat.div_eq_of_lt hbegun]

theorem padOf_zero (pol : TailPolicy) (S : Nat) : padOf pol S 0 = 0 := by
  cases pol with
  | cont => rfl
  | pad => simp [padOf]

/-! ### Room and span read the write pointers only (R9, R13) -/

/-- Tables with the same geometry, retired tracks and write pointers. -/
structure SameSpans (m n : BandManager) : Prop where
  geom : n.geom = m.geom
  retired : n.retired = m.retired
  wps : ∀ b, (bandOf n b).wp = (bandOf m b).wp

theorem span_congr {m n : BandManager} (h : SameSpans m n) (b : Nat) : span n b = span m b := by
  unfold span
  rw [h.wps, h.geom, skips_congr h.geom h.retired]

theorem room_congr {m n : BandManager} (h : SameSpans m n) (b : Nat) : room n b = room m b := by
  unfold room maxSpan
  rw [h.wps, h.geom, skips_congr h.geom h.retired, span_congr h]

/-! ### A park (R29, R30) -/

/-- The bands with the pad added to one of them. -/
def paddedBm (m : BandManager) (b pad : Nat) : BandManager :=
  { m with bands := m.bands.modify b fun y => { y with wp := y.wp + pad } }

/-- The part with the pad added and the owner told. -/
def Part.padded (p : Part) (b : Nat) (pol : TailPolicy) : Part :=
  (p.modBand b fun r => { r with wp := paddedWp pol (pairGeo p.bm.geom (b / 2)).S (p.band b).wp }).loseOwner b

theorem park_of_opened {pol : TailPolicy} (h : (p.band b).state = .opened) : p.park b pol =
    (paddedWp pol (pairGeo p.bm.geom (b / 2)).S (p.band b).wp - (p.band b).wp,
      (p.padded b pol).dispose b Part.closeBand) := if_pos h

theorem park_of_not_opened {pol : TailPolicy} (h : (p.band b).state ≠ .opened) : p.park b pol = (0, p) := if_neg h

/-- The blocks that a park of a band adds. -/
def Part.padBlocks (p : Part) (b : Nat) (pol : TailPolicy) : Nat := padOf pol (pairGeo p.bm.geom (b / 2)).S (p.band b).wp

theorem bandOf_eq (p : Part) (b : Nat) : bandOf p.bm b = p.band b := rfl

/-- A band's pair has tracks with blocks. -/
abbrev Part.Sized (p : Part) (b : Nat) : Prop := 0 < (pairGeo p.bm.geom (b / 2)).S

section padded
variable {pol : TailPolicy} (hb : b < p.bm.bands.length) (hS : p.Sized b)
include hb

theorem band_padded_self (hS : p.Sized b) : (p.padded b pol).band b =
    { p.band b with wp := (p.band b).wp + p.padBlocks b pol, owner := none } := by
  unfold Part.padded
  rw [band_loseOwner_self (by rw [Part.modBand_length]; exact hb), band_modBand_self hb]
  dsimp only
  rw [paddedWp_eq pol hS]
  rfl

omit hb in
theorem band_padded_other (h : x ≠ b) : (p.padded b pol).band x = p.band x := by
  unfold Part.padded
  rw [band_loseOwner_other h, Part.band_modBand, if_neg fun hc => h hc.1]

omit hb in
theorem padded_length : (p.padded b pol).bm.bands.length = p.bm.bands.length := by
  unfold Part.padded
  rw [length_loseOwner, Part.modBand_length]

omit hb in
theorem padded_parked : (p.padded b pol).bm.parked = p.bm.parked := by
  unfold Part.padded
  rw [Part.loseOwner_bm]
  rfl

omit hb in
theorem padded_sv : (p.padded b pol).sv = p.sv := Part.loseOwner_sv _ _

theorem padded_su : (p.padded b pol).su = streamsWithout (p.band b).owner p.su := by
  unfold Part.padded
  rw [loseOwner_su, band_modBand_self hb]
  rfl

theorem padded_chans : (p.padded b pol).re.chans = chansWithout (p.band b).owner p.re.chans := by
  unfold Part.padded
  rw [loseOwner_re, band_modBand_self hb]
  rfl

/-- A band's write pointer with the pad added. -/
theorem wp_paddedBm (n x : Nat) : (bandOf (paddedBm p.bm b n) x).wp =
    if x = b then (p.band b).wp + n else (p.band x).wp := by
  refine (congrArg Band.wp (Part.band_modBand p b x fun y => { y with wp := y.wp + n })).trans ?_
  by_cases hx : x = b
  · rw [if_pos ⟨hx, hb⟩, if_pos hx]
  · rw [if_neg fun hc => hx hc.1, if_neg hx]

theorem sameSpans_padded (hS : p.Sized b) : SameSpans (paddedBm p.bm b (p.padBlocks b pol)) (p.padded b pol).bm := by
  refine ⟨?_, ?_, fun x => ?_⟩
  · unfold Part.padded
    rw [Part.loseOwner_bm]
    rfl
  · unfold Part.padded
    rw [Part.loseOwner_bm]
    rfl
  · rw [wp_paddedBm hb, bandOf_eq]
    by_cases hx : x = b
    · rw [if_pos hx, hx, band_padded_self hb hS]
    · rw [if_neg hx, band_padded_other hx]

/-- The pad does not move a band's span. -/
theorem span_padded (hS : p.Sized b) (hwp : (p.band b).wp ≠ 0) :
    span (paddedBm p.bm b (p.padBlocks b pol)) b = span p.bm b := by
  have hwp' : (bandOf p.bm b).wp ≠ 0 := hwp
  unfold span
  dsimp only
  rw [wp_paddedBm hb, if_pos rfl, if_neg (by omega), if_neg hwp']
  exact congrArg (fun k => nthUsable (skips p.bm b) k + 1) (lastTrack_padded pol hS (p.band b).wp)

end padded

/-! ### The parked lists (R30) -/

/-- The part when the oldest of four parked bands of a class has been closed. -/
def Part.madeRoom (p : Part) (c : Nat) : Part :=
  match p.parkedList c with
  | o :: rest => if (o :: rest).length ≥ Config.parkedCap then p.closeBand o else p
  | [] => p

theorem joinParked_eq (p : Part) (b : Nat) : p.joinParked b Part.closeBand =
    (((p.madeRoom (p.band b).cls).modBand b fun r => { r with state := .parked }).modParked (p.band b).cls
      fun l => l ++ [b]).note .parkJoined := rfl

theorem madeRoom_of_short {c : Nat} (h : (p.parkedList c).length < 4) : p.madeRoom c = p := by
  unfold Part.madeRoom
  split
  · next o rest hl =>
    rw [hl] at h
    exact if_neg (Nat.not_le.2 h)
  · rfl

theorem madeRoom_of_full {c o : Nat} {rest : List Nat} (h : 4 ≤ (p.parkedList c).length) (hl : p.parkedList c = o :: rest) :
    p.madeRoom c = p.closeBand o := by
  unfold Part.madeRoom
  rw [hl] at h ⊢
  exact if_pos h

/-- What is made of the part is nothing, or the close of a band of the list. -/
theorem madeRoom_cases (p : Part) (c : Nat) : p.madeRoom c = p ∨ ∃ o ∈ p.parkedList c, p.madeRoom c = p.closeBand o := by
  rcases Nat.lt_or_ge (p.parkedList c).length 4 with h | h
  · exact .inl (madeRoom_of_short h)
  · cases hl : p.parkedList c with
    | nil => simp [hl] at h
    | cons o rest => exact .inr ⟨o, List.mem_cons_self, madeRoom_of_full h hl⟩

/-- A band that has no owner has none to tell. -/
theorem closeBand_of_unowned (h : (p.band b).owner = none) :
    (p.closeBand b).su = p.su ∧ (p.closeBand b).re.chans = p.re.chans := by
  rw [closeBand_su, closeBand_re, h]
  exact ⟨rfl, rfl⟩

theorem madeRoom_of_unowned {c : Nat} (h : ∀ o ∈ p.parkedList c, (p.band o).owner = none) :
    (p.madeRoom c).su = p.su ∧ (p.madeRoom c).re.chans = p.re.chans := by
  rcases madeRoom_cases p c with hsame | ⟨o, ho, hclosed⟩
  · rw [hsame]
    exact ⟨rfl, rfl⟩
  · rw [hclosed]
    exact closeBand_of_unowned (h o ho)

theorem band_madeRoom_of_not_mem {c : Nat} (h : b ∉ p.parkedList c) : (p.madeRoom c).band b = p.band b := by
  rcases madeRoom_cases p c with hsame | ⟨o, ho, hclosed⟩
  · rw [hsame]
  · rw [hclosed]
    exact band_closeBand_other fun hbo => h (hbo ▸ ho)

theorem madeRoom_length (p : Part) (c : Nat) : (p.madeRoom c).bm.bands.length = p.bm.bands.length ∧
    (p.madeRoom c).bm.parked.length = p.bm.parked.length := by
  rcases madeRoom_cases p c with hsame | ⟨o, -, hclosed⟩
  · rw [hsame]
    exact ⟨rfl, rfl⟩
  · rw [hclosed]
    exact ⟨closeBand_length p o, by rw [closeBand_parked, List.length_map]⟩

theorem parkedList_modParked {c : Nat} {f : List Nat → List Nat} (h : c - 1 < p.bm.parked.length) :
    (p.modParked c f).parkedList c = f (p.parkedList c) := by
  unfold Part.parkedList Part.modParked Part.modBm modAt
  simp only [List.getD_eq_getElem?_getD, List.getElem?_modify]
  simp [h]

theorem parkedList_closeBand (p : Part) (c o : Nat) :
    (p.closeBand o).parkedList c = (p.parkedList c).filter fun x => decide (x ≠ o) := by
  unfold Part.parkedList
  rw [closeBand_parked]
  simp only [List.getD_eq_getElem?_getD, List.getElem?_map]
  cases p.bm.parked[c - 1]? <;> rfl

/-- The lists and the bands when a band has joined the list of its class. -/
theorem joinParked_spec (hb : b < p.bm.bands.length) (hmem : b ∉ p.parkedList (p.band b).cls)
    (hc : (p.band b).cls - 1 < p.bm.parked.length) :
    let q := p.joinParked b Part.closeBand
    let L := p.parkedList (p.band b).cls
    q.band b = { p.band b with state := .parked } ∧
    (L.length < 4 → q.parkedList (p.band b).cls = L ++ [b] ∧ ∀ c, c ≠ b → q.band c = p.band c) ∧
    (∀ o more, 4 ≤ L.length → L = o :: more → o < p.bm.bands.length →
      q.parkedList (p.band b).cls = (L.filter fun y => decide (y ≠ o)) ++ [b] ∧
      q.band o = closedAt p.sv.header.hours (p.band o) ∧ ∀ c, c ≠ b → c ≠ o → q.band c = p.band c) := by
  dsimp only
  obtain ⟨hlen, hplen⟩ := madeRoom_length p (p.band b).cls
  have hband : ∀ x, (p.joinParked b Part.closeBand).band x =
      ((p.madeRoom (p.band b).cls).modBand b fun r => { r with state := .parked }).band x := fun x => rfl
  have hlist : (p.joinParked b Part.closeBand).parkedList (p.band b).cls =
      (p.madeRoom (p.band b).cls).parkedList (p.band b).cls ++ [b] :=
    parkedList_modParked (p := (p.madeRoom (p.band b).cls).modBand b _) (f := fun l => l ++ [b]) (by exact hplen ▸ hc)
  have hother : ∀ x, x ≠ b → (p.joinParked b Part.closeBand).band x = (p.madeRoom (p.band b).cls).band x := fun x hx => by
    rw [hband, Part.band_modBand, if_neg fun h => hx h.1]
  refine ⟨?_, fun hshort => ?_, fun o more hfull hl ho => ?_⟩
  · rw [hband, band_modBand_self (hlen ▸ hb), band_madeRoom_of_not_mem hmem]
  · rw [hlist, madeRoom_of_short hshort]
    refine ⟨rfl, fun c hcb => ?_⟩
    rw [hother c hcb, madeRoom_of_short hshort]
  · have hroom := madeRoom_of_full hfull hl
    have hob : o ≠ b := fun h => hmem (by rw [hl, ← h]; exact List.mem_cons_self)
    rw [hlist, hroom]
    refine ⟨by rw [parkedList_closeBand], ?_, fun c hcb hco => ?_⟩
    · rw [hother o hob, hroom, band_closeBand_self ho]
    · rw [hother c hcb, hroom, band_closeBand_other hco]

/-! ### Where a parked band goes (R29) -/

theorem dispose_of_unwritten {f : Part → Nat → Part} (h : (p.band b).wp = 0) : p.dispose b f = p.rewind b := if_pos h

theorem dispose_of_full {f : Part → Nat → Part} (h : (p.band b).wp ≠ 0)
    (hr : room p.bm b < (pairGeo p.bm.geom (b / 2)).S) : p.dispose b f = f p b := (if_neg h).trans (if_pos hr)

theorem dispose_of_room {f : Part → Nat → Part} (h : (p.band b).wp ≠ 0)
    (hr : (pairGeo p.bm.geom (b / 2)).S ≤ room p.bm b) : p.dispose b f = p.joinParked b f :=
  (if_neg h).trans (if_neg (Nat.not_lt.2 hr))

/-- No owner is told when a band without one is disposed of, and the parked bands have none. -/
theorem dispose_of_unowned (h : (p.band b).owner = none) (hl : ∀ o ∈ p.parkedList (p.band b).cls, (p.band o).owner = none) :
    (p.dispose b Part.closeBand).su = p.su ∧ (p.dispose b Part.closeBand).re.chans = p.re.chans := by
  unfold Part.dispose
  split
  · rw [Part.rewind_su, Part.rewind_re]
    exact ⟨rfl, rfl⟩
  · split
    · exact closeBand_of_unowned h
    · exact madeRoom_of_unowned hl

end Sys2Proof.Machine
end

section
/-! SUPPORT. A park as the statements read it (R29, R30), and the requests that end at the head of the queue. -/

namespace Sys2Proof.Machine

open Sys2Proof Sys2Proof.Spec

variable {p : Part} {b : Nat} {pol : TailPolicy}

/-- The room left in a band with the pad added. -/
def Part.leftAfter (p : Part) (b : Nat) (pol : TailPolicy) : Nat := room (paddedBm p.bm b (p.padBlocks b pol)) b

/-- A band with the pad added and its owner cleared. -/
def Part.parkedBand (p : Part) (b : Nat) (pol : TailPolicy) : Band :=
  { p.band b with wp := (p.band b).wp + p.padBlocks b pol, owner := none }

/-- The part after a park of an OPEN band. -/
def Part.parked (p : Part) (b : Nat) (pol : TailPolicy) : Part := (p.padded b pol).dispose b Part.closeBand

theorem park_eq (h : (p.band b).state = .opened) (hS : p.Sized b) : p.park b pol = (p.padBlocks b pol, p.parked b pol) := by
  rw [park_of_opened h, paddedWp_eq pol hS, Nat.add_sub_cancel_left]
  rfl

theorem parkedList_padded (c : Nat) : (p.padded b pol).parkedList c = p.parkedList c :=
  congrArg (fun l : List (List Nat) => l.getD (c - 1) []) padded_parked

section
variable (hb : b < p.bm.bands.length) (hS : p.Sized b)
include hb hS

theorem cls_padded : ((p.padded b pol).band b).cls = (p.band b).cls := by rw [band_padded_self hb hS]

theorem wp_padded_eq_zero : ((p.padded b pol).band b).wp = 0 ↔ (p.band b).wp = 0 := by
  rw [band_padded_self hb hS]
  constructor
  · intro h
    exact Nat.eq_zero_of_add_eq_zero_right h
  · intro h
    rw [Part.padBlocks, h]
    exact (Nat.zero_add _).trans (padOf_zero _ _)

theorem room_padded : room (p.padded b pol).bm b = p.leftAfter b pol := room_congr (sameSpans_padded hb hS) b

theorem size_padded : (pairGeo (p.padded b pol).bm.geom (b / 2)).S = (pairGeo p.bm.geom (b / 2)).S := by
  rw [(sameSpans_padded (pol := pol) hb hS).geom]
  rfl

/-- The owner of a parked band is told, and nobody else where the parked bands have no owner. -/
theorem parked_owners (hl : ∀ o ∈ p.parkedList (p.band b).cls, (p.band o).owner = none) :
    (p.parked b pol).su = streamsWithout (p.band b).owner p.su ∧
      (p.parked b pol).re.chans = chansWithout (p.band b).owner p.re.chans := by
  have hunowned : ∀ o ∈ (p.padded b pol).parkedList ((p.padded b pol).band b).cls,
      ((p.padded b pol).band o).owner = none := fun o ho => by
    rw [cls_padded hb hS, parkedList_padded] at ho
    by_cases hob : o = b
    · rw [hob, band_padded_self hb hS]
    · rw [band_padded_other hob]
      exact hl o ho
  obtain ⟨hsu, hre⟩ := dispose_of_unowned (p := p.padded b pol) (by rw [band_padded_self hb hS]) hunowned
  exact ⟨hsu.trans (padded_su hb), hre.trans (padded_chans hb)⟩

/-- A band in which nothing was written is rewound. -/
theorem parked_of_unwritten (hwp : (p.band b).wp = 0) :
    (p.parked b pol).band b = rewound (p.parkedBand b pol) ∧ (p.parked b pol).bm.parked = p.bm.parked := by
  unfold Part.parked
  rw [dispose_of_unwritten ((wp_padded_eq_zero hb hS).2 hwp)]
  refine ⟨?_, (Part.rewind_parked _ _).trans padded_parked⟩
  rw [band_rewind_self (by rw [padded_length]; exact hb), band_padded_self hb hS]
  rfl

/-- A band with less than a track of room is closed. -/
theorem parked_of_full (hwp : (p.band b).wp ≠ 0) (hroom : p.leftAfter b pol < (pairGeo p.bm.geom (b / 2)).S) :
    (p.parked b pol).band b = closedAt p.sv.header.hours (p.parkedBand b pol) ∧
      (p.parked b pol).bm.parked = p.bm.parked.map fun l => l.filter fun y => decide (y ≠ b) := by
  unfold Part.parked
  rw [dispose_of_full (mt (wp_padded_eq_zero hb hS).1 hwp) (by rw [room_padded hb hS, size_padded hb hS]; exact hroom)]
  refine ⟨?_, by rw [closeBand_parked, padded_parked]⟩
  rw [band_closeBand_self (by rw [padded_length]; exact hb), band_padded_self hb hS, padded_sv]
  rfl

/-- Any other band becomes the newest of its class's parked list. -/
theorem parked_of_room (hwp : (p.band b).wp ≠ 0) (hroom : (pairGeo p.bm.geom (b / 2)).S ≤ p.leftAfter b pol)
    (hmem : b ∉ p.parkedList (p.band b).cls) (hc : (p.band b).cls - 1 < p.bm.parked.length) :
    let q := p.parked b pol
    let L := p.parkedList (p.band b).cls
    q.band b = { p.parkedBand b pol with state := .parked } ∧
    (L.length < 4 → q.parkedList (p.band b).cls = L ++ [b] ∧ ∀ c, c ≠ b → q.band c = p.band c) ∧
    (∀ o more, 4 ≤ L.length → L = o :: more → o < p.bm.bands.length →
      q.parkedList (p.band b).cls = (L.filter fun y => decide (y ≠ o)) ++ [b] ∧
      q.band o = closedAt p.sv.header.hours (p.band o) ∧ ∀ c, c ≠ b → c ≠ o → q.band c = p.band c) := by
  dsimp only
  have hq : p.parked b pol = (p.padded b pol).joinParked b Part.closeBand :=
    dispose_of_room (mt (wp_padded_eq_zero hb hS).1 hwp) (by rw [room_padded hb hS, size_padded hb hS]; exact hroom)
  obtain ⟨hself, hshort, hfull⟩ := joinParked_spec (p := p.padded b pol) (b := b) (by rw [padded_length]; exact hb)
    (by rw [cls_padded hb hS, parkedList_padded]; exact hmem) (by rw [cls_padded hb hS, padded_parked]; exact hc)
  rw [cls_padded hb hS, parkedList_padded, padded_length, padded_sv] at hfull
  rw [cls_padded hb hS, parkedList_padded] at hshort
  rw [hq]
  refine ⟨hself.trans (by rw [band_padded_self hb hS]; rfl), fun h => ?_, fun o more h4 hl ho => ?_⟩
  · obtain ⟨hlist, hothers⟩ := hshort h
    exact ⟨hlist, fun c hcb => (hothers c hcb).trans (band_padded_other hcb)⟩
  · obtain ⟨hlist, hold, hothers⟩ := hfull o more h4 hl ho
    have hob : o ≠ b := fun h => hmem (by rw [hl, ← h]; exact List.mem_cons_self)
    exact ⟨hlist, hold.trans (by rw [band_padded_other hob]), fun c hcb hco =>
      (hothers c hcb hco).trans (band_padded_other hcb)⟩

end

/-- Settles O39. -/
theorem locateAndStreamRequestsEndAtTheHead : Obligations.LocateAndStreamRequestsEndAtTheHead := by
  refine ⟨fun s h hh => ?_, fun p b hb => ?_⟩
  · dsimp only
    refine ⟨fun a n hreq => ?_, fun i a c v d hreq hfree => ?_, fun i a c v d hreq hbusy => ?_, fun i hreq hfree => ?_,
      fun i hreq hf hband => ?_, fun i b hreq ha hb => ?_⟩
    · refine (taken_eq_after hh.hears fun p => p.admitHead .locate).trans ?_
      rw [admitHead_locate hh hreq]
      rfl
    · refine (taken_eq_after hh.hears fun p => p.admitHead .streamOpen).trans ?_
      rw [admitHead_streamOpen hh hreq, if_pos hfree]
      rfl
    · refine (taken_eq_after hh.hears fun p => p.admitHead .streamOpen).trans ?_
      rw [admitHead_streamOpen hh hreq, if_neg hbusy]
      rfl
    · refine (taken_eq_after hh.hears fun p => p.admitHead .streamClose).trans ?_
      rw [admitHead_streamClose hh hreq, closeStream_of_free hfree]
      rfl
    · refine (taken_eq_after hh.hears fun p => p.admitHead .streamClose).trans ?_
      rw [admitHead_streamClose hh hreq, closeStream_of_bandless hf hband]
      rfl
    · refine (taken_eq_after hh.hears fun p => p.admitHead .streamClose).trans ?_
      rw [admitHead_streamClose hh hreq, closeStream_of_band ha hb]
      rfl
  · dsimp only
    refine ⟨fun h => if_pos h, fun h => if_neg h, ⟨band_closeBand_self hb, fun c hc => band_closeBand_other hc,
      closeBand_parked p b, closeBand_su p b, congrArg RelocEngine.chans (closeBand_re p b)⟩,
      fun pol h => park_of_not_opened h, fun pol h hS => ?_⟩
    rw [park_eq h hS]
    refine ⟨rfl, parked_owners hb hS, fun hwp => span_padded hb hS hwp, fun hwp => parked_of_unwritten hb hS hwp,
      fun hwp hroom => parked_of_full hb hS hwp hroom, fun hwp hroom hmem hc => ?_⟩
    obtain ⟨hself, hshort, hfull⟩ := parked_of_room hb hS hwp hroom hmem hc
    refine ⟨hself, hshort, fun o more h4 hl ho hunowned => ?_⟩
    exact hfull o more h4 hl ho

end Sys2Proof.Machine
end

section
/-! SUPPORT. Numbers as characters and back (R176): the fields of a body that is made of fields. -/

namespace Sys2Proof.Machine

open Sys2Proof Sys2Proof.Spec

variable {i n v : Nat} {a b : List Byte}

/-! ### A number and its characters -/

theorem natChars_succ (n v : Nat) : natChars (n + 1) v = natChars n (v / 256) ++ [BitVec.ofNat 8 v] := by
  unfold natChars
  rw [List.range_succ_eq_map, List.map_cons, List.map_map, List.reverse_cons, Nat.pow_zero, Nat.div_one]
  refine congrArg (fun l => List.reverse l ++ [BitVec.ofNat 8 v]) (List.map_congr_left fun k _ => ?_)
  rw [Function.comp_apply, Nat.pow_succ', Nat.div_div_eq_div_mul]

@[simp] theorem length_natChars (n v : Nat) : (natChars n v).length = n := by
  simp [natChars]

theorem natChars_one (v : Nat) : natChars 1 v = [BitVec.ofNat 8 v] := by
  simp [natChars]

theorem charsNat_concat (l : List Byte) (c : Byte) : charsNat (l ++ [c]) = 256 * charsNat l + c.toNat := by
  simp [charsNat, List.foldl_append]

theorem charsNat_pair (x y : Byte) : charsNat [x, y] = 256 * x.toNat + y.toNat := by
  simp [charsNat]

theorem charsNat_natChars (n v : Nat) : charsNat (natChars n v) = v % 256 ^ n := by
  induction n generalizing v with
  | zero => exact (Nat.mod_one v).symm
  | succ n ih =>
    have hmod : v % (256 * 256 ^ n) = v % 256 + 256 * (v / 256 % 256 ^ n) := Nat.mod_mul
    rw [natChars_succ, charsNat_concat, ih, BitVec.toNat_ofNat]
    exact (Nat.add_comm _ _).trans (hmod.symm.trans (congrArg (v % ·) (Nat.pow_succ' (m := 256) (n := n)).symm))

theorem charsNat_natChars_of_lt (h : v < 256 ^ n) : charsNat (natChars n v) = v := by
  rw [charsNat_natChars, Nat.mod_eq_of_lt h]

/-! ### The fields of a body -/

/-- A field that lies behind a first part of the body. -/
theorem field_append (h : a.length ≤ i) : field (a ++ b) i n = field b (i - a.length) n := by
  unfold field
  refine congrArg charsNat (List.map_congr_left fun k _ => ?_)
  rw [List.getD_eq_getElem?_getD, List.getD_eq_getElem?_getD, List.getElem?_append_right (by omega),
    Nat.sub_add_comm h]

/-- A field that is the first part of the body. -/
theorem field_of_length (h : a.length = n) : field (a ++ b) 0 n = charsNat a := by
  unfold field
  refine congrArg charsNat (List.ext_getElem (by simp [h]) fun k hk hk' => ?_)
  simp only [List.length_map, List.length_range] at hk
  simp [List.getElem?_append_left (by omega : k < a.length), hk']

/-- The first number of a body. -/
theorem field_natChars (h : v < 256 ^ n) : field (natChars n v ++ b) 0 n = v := by
  rw [field_of_length (length_natChars n v), charsNat_natChars_of_lt h]

/-- The only number of a body. -/
theorem field_natChars_last (h : v < 256 ^ n) : field (natChars n v) 0 n = v := by
  rw [← List.append_nil (natChars n v), field_natChars h]

/-- A number behind the first one of a body. -/
theorem field_skip {m : Nat} (h : m ≤ i) : field (natChars m v ++ b) i n = field b (i - m) n := by
  rw [field_append (by rw [length_natChars]; exact h), length_natChars]

theorem flagOf_natChars (c : Bool) : flagOf (natChars 1 c.toNat ++ b) 0 = c := by
  unfold flagOf
  rw [field_natChars (by cases c <;> decide)]
  cases c <;> rfl

theorem flagOf_skip {m : Nat} (h : m ≤ i) : flagOf (natChars m v ++ b) i = flagOf b (i - m) := by
  unfold flagOf
  rw [field_skip h]

theorem eventsOf_natChars (e : EventBits) : eventsOf (natChars 2 e.toNat ++ b) 0 = e := by
  unfold eventsOf
  rw [field_natChars (by have := e.isLt; omega)]
  exact BitVec.eq_of_toNat_eq (by simp)

theorem eventsOf_skip {m : Nat} (h : m ≤ i) : eventsOf (natChars m v ++ b) i = eventsOf b (i - m) := by
  unfold eventsOf
  rw [field_skip h]

/-! ### Records of a body -/

theorem recordsOf_succ {α : Type} (count size i : Nat) (f : Nat → α) :
    recordsOf (count + 1) size i f = f i :: recordsOf count size (i + size) f := by
  unfold recordsOf
  rw [List.range_succ_eq_map, List.map_cons, List.map_map]
  refine congrArg₂ List.cons (by rw [Nat.mul_zero, Nat.add_zero]) (List.map_congr_left fun k _ => ?_)
  rw [Function.comp_apply]
  exact congrArg f (by rw [Nat.mul_succ]; omega)

/-- The records of a body are those it was made of: each is read from its characters, wherever they stand. -/
theorem recordsOf_flatten {α : Type} {size : Nat} {f : List Byte → Nat → α} {g : α → List Byte} {l : List α}
    (hlen : ∀ x ∈ l, (g x).length = size) (hread : ∀ x ∈ l, ∀ post, f (g x ++ post) 0 = x)
    (hskip : ∀ pre body j, f (pre ++ body) (pre.length + j) = f body j) (pre post : List Byte) :
    recordsOf l.length size pre.length (f (pre ++ ((l.map g).flatten ++ post))) = l := by
  induction l generalizing pre with
  | nil => rfl
  | cons x xs ih =>
    rw [List.length_cons, recordsOf_succ, List.map_cons, List.flatten_cons]
    refine congrArg₂ List.cons ?_ ?_
    · have hx := hskip pre (g x ++ (xs.map g).flatten ++ post) 0
      rw [Nat.add_zero] at hx
      rw [hx, List.append_assoc, hread x List.mem_cons_self]
    · have hrest := ih (fun y hy => hlen y (List.mem_cons_of_mem x hy)) (fun y hy => hread y (List.mem_cons_of_mem x hy))
        (pre ++ g x)
      rw [List.length_append, hlen x List.mem_cons_self] at hrest
      simpa only [List.append_assoc] using hrest

end Sys2Proof.Machine
end

section
/-! SUPPORT. The receivers of the two links (R163, R164): what they make of the characters of a frame. -/

namespace Sys2Proof.Machine

open Sys2Proof Sys2Proof.Spec

variable {s : State} {l full : List Byte} {n : Nat}

/-! ### The characters of a frame that have come so far -/

theorem assembled_of_short (h : l.length < 2) : assembled l = (.assembling l, .nothing) := if_pos h

theorem assembled_of_oversize (h : 2 ≤ l.length) (hn : 6449 < frameLen l) : assembled l = (.hunting, .discard .oversize) :=
  (if_neg (Nat.not_lt.2 h)).trans (if_pos hn)

theorem assembled_of_partial (h : 2 ≤ l.length) (hn : frameLen l ≤ 6449) (hl : l.length < frameLen l + 6) :
    assembled l = (.assembling l, .nothing) :=
  (if_neg (Nat.not_lt.2 h)).trans ((if_neg (Nat.not_lt.2 hn)).trans (if_pos hl))

theorem frameLen_append {rest : List Byte} (h : 2 ≤ l.length) : frameLen (l ++ rest) = frameLen l := by
  unfold frameLen
  rw [List.take_append_of_le_length h]

theorem Receiver.takeAll_concat (r : Receiver) (cs : List LineChar) (c : LineChar) : r.takeAll (cs ++ [c]) =
    (((r.takeAll cs).1.take c).1, if ((r.takeAll cs).1.take c).2 = .nothing then (r.takeAll cs).2
      else (r.takeAll cs).2 ++ [((r.takeAll cs).1.take c).2]) := by
  unfold Receiver.takeAll
  rw [List.foldl_append]
  rfl

/-- A frame's characters up to its last are kept. -/
theorem takeAll_of_prefix (hcap : frameLen full ≤ 6449) (l rest : List Byte) (hl : full = l ++ rest)
    (hlen : l.length < frameLen full + 6) :
    Receiver.hunting.takeAll ((0xC3#8 :: l).map .byte) = (.assembling l, []) := by
  induction l using List.reverseRecOn generalizing rest with
  | nil => rfl
  | append_singleton l c ih =>
    have hprev := ih (c :: rest) (by rw [hl, List.append_assoc]; rfl) (by rw [List.length_append] at hlen; omega)
    have hsplit : (0xC3#8 :: (l ++ [c])).map LineChar.byte = (0xC3#8 :: l).map .byte ++ [.byte c] := by simp
    have hkept : assembled (l ++ [c]) = (.assembling (l ++ [c]), .nothing) := by
      rcases Nat.lt_or_ge (l ++ [c]).length 2 with h | h
      · exact assembled_of_short h
      · have hn : frameLen full = frameLen (l ++ [c]) := by rw [hl, frameLen_append h]
        rw [hn] at hcap hlen
        exact assembled_of_partial h hcap hlen
    have htake : (Receiver.assembling l).take (.byte c) = (.assembling (l ++ [c]), .nothing) := hkept
    rw [hsplit, Receiver.takeAll_concat, hprev, htake]
    rfl

/-- With its last character a frame is passed on, or discarded. -/
theorem takeAll_of_complete (hcap : frameLen full ≤ 6449) (hlen : full.length = frameLen full + 6)
    (hdone : (assembled full).2 ≠ .nothing) :
    Receiver.hunting.takeAll ((0xC3#8 :: full).map .byte) = ((assembled full).1, [(assembled full).2]) := by
  obtain ⟨l, c, rfl⟩ := full.eq_nil_or_concat'.resolve_left fun h => by simp [h] at hlen
  have hprev := takeAll_of_prefix hcap l [c] rfl (by rw [List.length_append, List.length_singleton] at hlen; omega)
  have hsplit : (0xC3#8 :: (l ++ [c])).map LineChar.byte = (0xC3#8 :: l).map .byte ++ [.byte c] := by simp
  have htake : (Receiver.assembling l).take (.byte c) = assembled (l ++ [c]) := rfl
  rw [hsplit, Receiver.takeAll_concat, hprev, htake, if_neg hdone]
  rfl

/-! ### A frame and its check -/

/-- The characters of a frame that its check covers. -/
def coveredChars (k t : Byte) (body : List Byte) : List Byte := natChars 2 body.length ++ [k, t] ++ body

section
variable {k t x y : Byte} {body : List Byte} (h : body.length ≤ 6449)
include h

theorem frameLen_covered (rest : List Byte) : frameLen (coveredChars k t body ++ rest) = body.length := by
  unfold frameLen coveredChars
  rw [List.append_assoc, List.append_assoc, List.take_left' (length_natChars _ _)]
  exact charsNat_natChars_of_lt (by omega)

omit h in
theorem length_covered : (coveredChars k t body).length = body.length + 4 := by
  simp [coveredChars]
  omega

/-- What a whole frame comes to. -/
theorem assembled_frame : assembled (coveredChars k t body ++ [x, y]) =
    if (crc16 (coveredChars k t body)).toNat = 256 * x.toNat + y.toNat then
      (.hunting, .frame k.toNat t.toNat body)
    else (.hunting, .discard .badCheck) := by
  have hlen := length_covered (k := k) (t := t) (body := body)
  have hn := frameLen_covered (k := k) (t := t) h [x, y]
  have htake : (coveredChars k t body ++ [x, y]).take (body.length + 4) = coveredChars k t body := List.take_left' hlen
  have hdrop : (coveredChars k t body ++ [x, y]).drop (body.length + 4) = [x, y] := List.drop_left' hlen
  unfold assembled
  dsimp only
  rw [hn, htake, hdrop, charsNat_pair, if_neg (by simp [hlen]), if_neg (show ¬Config.bodyCap < body.length from Nat.not_lt.2 h),
    if_neg (by simp [hlen])]
  have hkind : (coveredChars k t body).drop 2 = k :: t :: body := by
    unfold coveredChars
    rw [List.append_assoc]
    exact List.drop_left' (length_natChars _ _)
  have htag : (coveredChars k t body).drop 3 = t :: body := by
    rw [← List.drop_drop (i := 1) (j := 2), hkind]
    rfl
  have hbody : (coveredChars k t body).drop 4 = body := by
    rw [← List.drop_drop (i := 2) (j := 2), hkind]
    rfl
  rw [hkind, htag, hbody]
  simp [charsNat]

/-- A receiver that takes all characters of a frame. -/
theorem takeAll_frame : Receiver.hunting.takeAll ((0xC3#8 :: coveredChars k t body ++ [x, y]).map .byte) =
    (.hunting, [if (crc16 (coveredChars k t body)).toNat = 256 * x.toNat + y.toNat then .frame k.toNat t.toNat body
      else .discard .badCheck]) := by
  have hn := frameLen_covered (k := k) (t := t) h [x, y]
  have hall := takeAll_of_complete (full := coveredChars k t body ++ [x, y]) (by rw [hn]; exact h)
    (by rw [hn, List.length_append, length_covered]; rfl)
    (by rw [assembled_frame h]; split <;> nofun)
  refine hall.trans ?_
  rw [assembled_frame h]
  split <;> rfl

end

theorem takeAll_frameChars {kind tag : Nat} {body : List Byte} (hk : kind < 256) (ht : tag < 256) (h : body.length ≤ 6449) :
    Receiver.hunting.takeAll ((frameChars kind tag body).map .byte) = (.hunting, [.frame kind tag body]) := by
  have hcovered : natChars 2 body.length ++ natChars 1 kind ++ natChars 1 tag ++ body =
      coveredChars (BitVec.ofNat 8 kind) (BitVec.ofNat 8 tag) body := by
    rw [natChars_one, natChars_one]
    simp [coveredChars]
  have hframe : frameChars kind tag body = 0xC3#8 :: coveredChars (BitVec.ofNat 8 kind) (BitVec.ofNat 8 tag) body ++
      natChars 2 (crc16 (coveredChars (BitVec.ofNat 8 kind) (BitVec.ofNat 8 tag) body)).toNat := by
    unfold frameChars
    rw [hcovered]
    rfl
  have hcheck : ∀ c : Check16, natChars 2 c.toNat = [BitVec.ofNat 8 (c.toNat / 256), BitVec.ofNat 8 c.toNat] := fun c => by
    rw [natChars_succ, natChars_one]
    rfl
  have hvalue : ∀ c : Check16, c.toNat = 256 * (BitVec.ofNat 8 (c.toNat / 256)).toNat + (BitVec.ofNat 8 c.toNat).toNat :=
    fun c => by
      rw [← charsNat_pair, ← hcheck]
      exact (charsNat_natChars_of_lt c.isLt).symm
  rw [hframe, hcheck, takeAll_frame h, if_pos (hvalue _), BitVec.toNat_ofNat, BitVec.toNat_ofNat,
    Nat.mod_eq_of_lt hk, Nat.mod_eq_of_lt ht]

/-! ### The sequencer's frames (Table 10-9) -/

/-- The status of a REPORT's first character. -/
theorem reportStatusOf_cases (st : Byte) :
    (st = 0#8 ∧ reportStatusOf st.toNat = some .ok) ∨ (st = 1#8 ∧ reportStatusOf st.toNat = some .fault) ∨
    (st = 2#8 ∧ reportStatusOf st.toNat = some .cancelled) ∨
    (st ≠ 0#8 ∧ st ≠ 1#8 ∧ st ≠ 2#8 ∧ reportStatusOf st.toNat = none) := by
  by_cases h0 : st = 0#8
  · exact .inl ⟨h0, by rw [h0]; rfl⟩
  by_cases h1 : st = 1#8
  · exact .inr (.inl ⟨h1, by rw [h1]; rfl⟩)
  by_cases h2 : st = 2#8
  · exact .inr (.inr (.inl ⟨h2, by rw [h2]; rfl⟩))
  refine .inr (.inr (.inr ⟨h0, h1, h2, ?_⟩))
  unfold reportStatusOf
  split
  · next h => exact absurd (BitVec.eq_of_toNat_eq h) h0
  · next h => exact absurd (BitVec.eq_of_toNat_eq h) h1
  · next h => exact absurd (BitVec.eq_of_toNat_eq h) h2
  · rfl

/-- The command of a REPORT's status and its count. -/
def reportCommand (tag : Nat) (r : Option ReportStatus) (done : Nat) : Instr :=
  match r with
  | some st => .report tag st done
  | none => .mediaFrameDiscard .badKind

/-- A REPORT's frame with its three characters. -/
theorem mediaCommand_report (tag : Nat) (st x y : Byte) : mediaCommand 0x68 tag [st, x, y] =
    if st = 0#8 then .report tag .ok (256 * x.toNat + y.toNat)
    else if st = 1#8 then .report tag .fault (256 * x.toNat + y.toNat)
    else if st = 2#8 then .report tag .cancelled (256 * x.toNat + y.toNat)
    else .mediaFrameDiscard .badKind := by
  have hst : field [st, x, y] 0 1 = st.toNat := by simp [field, charsNat]
  have hdone : field [st, x, y] 1 2 = 256 * x.toNat + y.toNat := by simp [field, charsNat, List.range_succ]
  have hcmd : mediaCommand 0x68 tag [st, x, y] =
      reportCommand tag (reportStatusOf (field [st, x, y] 0 1)) (field [st, x, y] 1 2) := rfl
  rw [hcmd, hst, hdone]
  rcases reportStatusOf_cases st with ⟨rfl, h⟩ | ⟨rfl, h⟩ | ⟨rfl, h⟩ | ⟨h0, h1, h2, h⟩
  · rw [h, if_pos rfl]
    rfl
  · rw [h, if_neg (by decide), if_pos rfl]
    rfl
  · rw [h, if_neg (by decide), if_neg (by decide), if_pos rfl]
    rfl
  · rw [h, if_neg h0, if_neg h1, if_neg h2]
    rfl

theorem mediaCommand_of_length {kind tag n : Nat} {body : List Byte} (hk : mediaBodyLen kind = some n) (h : body.length ≠ n) :
    mediaCommand kind tag body = .mediaFrameDiscard .badLength := by
  unfold mediaCommand
  rw [hk]
  exact if_pos h

theorem mediaBodyLen_eq_none {kind : Nat} (h8 : kind ≠ 0x68) (h9 : kind ≠ 0x69) (hA : kind ≠ 0x6A) (hB : kind ≠ 0x6B) :
    mediaBodyLen kind = none := by
  unfold mediaBodyLen
  split
  · exact absurd rfl h8
  · exact absurd rfl h9
  · exact absurd rfl hA
  · exact absurd rfl hB
  · rfl

theorem mediaCommand_of_kind {kind tag : Nat} {body : List Byte} (hk : mediaBodyLen kind = none) :
    mediaCommand kind tag body = .mediaFrameDiscard .badKind := by
  unfold mediaCommand
  rw [hk]

/-- Settles O8. -/
theorem discardedFramesAreCounted : Obligations.DiscardedFramesAreCounted := by
  refine ⟨fun s hs => ⟨fun cause => heard_eq_tell hs _, fun cause => heard_eq_tell hs _⟩,
    fun kind tag body hk ht hb => takeAll_frameChars hk ht hb, fun b => rfl, rfl, fun l => rfl, fun a b h => ?_,
    fun k t x y body hb => ?_, fun cause => rfl, ⟨rfl, rfl, rfl⟩, fun kind tag body => ?_⟩
  · have hover : assembled [a, b] = (.hunting, .discard .oversize) :=
      assembled_of_oversize (le_refl 2) (by rw [frameLen]; exact (charsNat_pair a b).symm ▸ h)
    have hall := Receiver.takeAll_concat .hunting [.byte 0xC3#8, .byte a] (.byte b)
    refine hall.trans ?_
    have htake : (Receiver.assembling [a]).take (.byte b) = (.hunting, .discard .oversize) := hover
    rw [show Receiver.hunting.takeAll [.byte 0xC3#8, .byte a] = (.assembling [a], []) from rfl, htake]
    rfl
  · intro covered hcheck
    refine (takeAll_frame (k := k) (t := t) (x := x) (y := y) hb).trans ?_
    exact congrArg (fun r => (Receiver.hunting, [r])) (if_neg (Ne.symm hcheck))
  · by_cases h8 : kind = 0x68
    · subst h8
      rw [if_pos rfl]
      refine congrArg some ?_
      split
      · exact mediaCommand_report _ _ _ _
      · next hshape =>
        refine mediaCommand_of_length rfl fun hlen => ?_
        obtain ⟨st, x, y, rfl⟩ := List.length_eq_three.1 hlen
        exact hshape st x y rfl
    · rw [if_neg h8]
      refine congrArg some ?_
      by_cases h9 : kind = 0x69 ∨ kind = 0x6A ∨ kind = 0x6B
      · rw [if_pos h9]
        have hlen : mediaBodyLen kind = some 0 := by rcases h9 with rfl | rfl | rfl <;> rfl
        by_cases hb : body = []
        · subst hb
          rcases h9 with rfl | rfl | rfl <;> rfl
        · rw [if_pos hb]
          exact mediaCommand_of_length hlen fun h => hb (List.length_eq_zero_iff.1 h)
      · rw [if_neg h9]
        push Not at h9
        exact mediaCommand_of_kind (mediaBodyLen_eq_none h8 h9.1 h9.2.1 h9.2.2)

end Sys2Proof.Machine
end

section
/-! SUPPORT. Request frames and the commands they bring (R165, Tables 10-6, 10-7 and 10-10): the decoder reads back what
a body was made of. -/

namespace Sys2Proof.Machine

open Sys2Proof Sys2Proof.Spec

variable {s : State} {a b : List Byte} {i n v : Nat}

/-! ### Numbers that fit their characters -/

theorem lt_of_fits (h : fits n v = true) : v < 256 ^ n := of_decide_eq_true h

theorem field_fits (h : fits n v = true) : field (natChars n v ++ b) 0 n = v := field_natChars (lt_of_fits h)

theorem field_fits_last (h : fits n v = true) : field (natChars n v) 0 n = v := field_natChars_last (lt_of_fits h)

theorem fits_form : fits 1 1 = true ∧ fits 1 2 = true ∧ fits 2 0 = true := by decide

theorem flagOf_natChars_last (c : Bool) : flagOf (natChars 1 c.toNat) 0 = c := by
  rw [← List.append_nil (natChars 1 c.toNat), flagOf_natChars]

theorem eventsOf_natChars_last (e : EventBits) : eventsOf (natChars 2 e.toNat) 0 = e := by
  rw [← List.append_nil (natChars 2 e.toNat), eventsOf_natChars]

theorem classBits_natChars (c : ClassBits) : BitVec.ofNat 16 (field (natChars 2 c.toNat ++ b) 0 2) = c := by
  rw [field_natChars c.isLt]
  exact BitVec.eq_of_toNat_eq (by simp)

/-! ### Records -/

/-- The characters of a record of REGION. -/
def regionChars (r : Region) : List Byte :=
  natChars 5 r.start ++ natChars 5 r.len ++ natChars 1 r.cls ++ natChars 1 r.tail ++ natChars 1 r.verify

theorem length_regionChars (r : Region) : (regionChars r).length = 13 := by
  simp [regionChars]

theorem regionAt_regionChars {r : Region} (h : r.wf = true) (post : List Byte) : regionAt (regionChars r ++ post) 0 = r := by
  simp only [Region.wf, Bool.and_eq_true] at h
  obtain ⟨⟨⟨⟨hs, hl⟩, hc⟩, ht⟩, hv⟩ := h
  unfold regionAt regionChars
  simp [field_skip, field_fits, *]

theorem regionAt_append (pre body : List Byte) (j : Nat) : regionAt (pre ++ body) (pre.length + j) = regionAt body j := by
  unfold regionAt
  simp [field_append, Nat.add_assoc]

/-- The characters of a zone record. -/
def zoneChars (z : Zone) : List Byte := natChars 3 z.first ++ natChars 2 z.pairs ++ natChars 2 z.T ++ natChars 2 z.S

theorem length_zoneChars (z : Zone) : (zoneChars z).length = 9 := by
  simp [zoneChars]

theorem zoneOf_zoneChars {z : Zone} (h : z.wf = true) (post : List Byte) : zoneOf (zoneChars z ++ post) 0 = z := by
  simp only [Zone.wf, Bool.and_eq_true] at h
  obtain ⟨⟨⟨hf, hp⟩, ht⟩, hs⟩ := h
  unfold zoneOf zoneChars
  simp [field_skip, field_fits, *]

theorem zoneOf_append (pre body : List Byte) (j : Nat) : zoneOf (pre ++ body) (pre.length + j) = zoneOf body j := by
  unfold zoneOf
  simp [field_append, Nat.add_assoc]

/-! ### The tables of FORMAT and RESTORE (Table 10-10) -/

/-- The characters between the zone records and the retired tracks. -/
def middleChars (g : Geometry) (l : List Nat) : List Byte :=
  natChars 3 g.stgFirst ++ natChars 3 g.stgCount ++ natChars 2 g.stgS ++ natChars 5 g.L ++ natChars 2 l.length

theorem length_middleChars (g : Geometry) (l : List Nat) : (middleChars g l).length = 15 := by
  simp [middleChars]

theorem length_flatten_of_length {α : Type} {size : Nat} {g : α → List Byte} {l : List α}
    (h : ∀ x ∈ l, (g x).length = size) : (l.map g).flatten.length = size * l.length := by
  induction l with
  | nil => rfl
  | cons x xs ih =>
    rw [List.map_cons, List.flatten_cons, List.length_append, h x List.mem_cons_self,
      ih fun y hy => h y (List.mem_cons_of_mem x hy), List.length_cons, Nat.mul_succ]
    exact Nat.add_comm _ _

theorem tablesChars_eq (g : Geometry) (l : List Nat) : frameOf.tablesChars g l =
    (natChars 1 g.K ++ natChars 1 g.zones.length) ++ ((g.zones.map zoneChars).flatten ++
      (middleChars g l ++ (l.map (natChars 3)).flatten)) := by
  unfold frameOf.tablesChars middleChars
  simp only [List.append_assoc]
  rfl

section
variable {g : Geometry} {l : List Nat}

theorem length_zones (g : Geometry) : ((g.zones.map zoneChars).flatten).length = 9 * g.zones.length :=
  length_flatten_of_length fun z _ => length_zoneChars z

/-- A field behind the zone records. -/
theorem field_behind_zones (j n : Nat) : field (frameOf.tablesChars g l) (2 + 9 * g.zones.length + j) n =
    field (middleChars g l ++ (l.map (natChars 3)).flatten) j n := by
  have hhead : (natChars 1 g.K ++ natChars 1 g.zones.length).length = 2 := by simp
  rw [tablesChars_eq, field_append (by omega), field_append (by rw [length_zones]; omega), hhead, length_zones]
  exact congrArg (field _ · n) (by omega)

theorem zones_of_tables (h : g.zones.all Zone.wf = true) :
    recordsOf g.zones.length 9 2 (zoneOf (frameOf.tablesChars g l)) = g.zones := by
  rw [tablesChars_eq]
  exact recordsOf_flatten (pre := natChars 1 g.K ++ natChars 1 g.zones.length) (fun z _ => length_zoneChars z)
    (fun z hz post => zoneOf_zoneChars (List.all_eq_true.1 h z hz) post) zoneOf_append _

theorem retired_of_tables (h : l.all (fits 3) = true) :
    recordsOf l.length 3 (2 + 9 * g.zones.length + 15) (fun j => field (frameOf.tablesChars g l) j 3) = l := by
  have hbody : frameOf.tablesChars g l = (natChars 1 g.K ++ natChars 1 g.zones.length ++ (g.zones.map zoneChars).flatten ++
      middleChars g l) ++ ((l.map (natChars 3)).flatten ++ []) := by
    rw [tablesChars_eq]
    simp only [List.append_assoc, List.append_nil]
  have hpre : (natChars 1 g.K ++ natChars 1 g.zones.length ++ (g.zones.map zoneChars).flatten ++
      middleChars g l).length = 2 + 9 * g.zones.length + 15 := by
    rw [List.length_append, List.length_append, length_zones, length_middleChars]
    simp
  rw [hbody, ← hpre]
  exact recordsOf_flatten (f := fun body j => field body j 3) (fun t _ => length_natChars 3 t)
    (fun t ht post => field_fits (List.all_eq_true.1 h t ht))
    (fun pre body j => (field_append (Nat.le_add_right _ _)).trans (congrArg (field body · 3) (Nat.add_sub_cancel_left _ _))) _ _

/-- The tables that a FORMAT's or RESTORE's body was made of. -/
theorem tablesOf_tablesChars (h : tablesWf g l = true) : tablesOf (frameOf.tablesChars g l) = (g, l) := by
  simp only [tablesWf, Geometry.wf, Bool.and_eq_true] at h
  obtain ⟨⟨⟨⟨⟨⟨⟨⟨hK, hcount⟩, hzones⟩, hfirst⟩, hstg⟩, hS⟩, hL⟩, hlen⟩, hl⟩ := h
  have hcountRead : field (frameOf.tablesChars g l) 1 1 = g.zones.length := by
    rw [tablesChars_eq, List.append_assoc, field_skip (le_refl 1), field_fits hcount]
  have hKRead : field (frameOf.tablesChars g l) 0 1 = g.K := by
    rw [tablesChars_eq, List.append_assoc, field_fits hK]
  have hfirstRead := field_behind_zones (g := g) (l := l) 0 3
  have hstgRead := field_behind_zones (g := g) (l := l) 3 3
  have hSRead := field_behind_zones (g := g) (l := l) 6 2
  have hLRead := field_behind_zones (g := g) (l := l) 8 5
  have hlenRead := field_behind_zones (g := g) (l := l) 13 2
  simp only [middleChars, List.append_assoc] at hfirstRead hstgRead hSRead hLRead hlenRead
  simp only [Nat.add_zero, field_skip, field_fits, hfirst, hstg, hS, hL, hlen, Nat.reduceLeDiff, Nat.reduceSub]
    at hfirstRead hstgRead hSRead hLRead hlenRead
  unfold tablesOf
  simp only [hcountRead, hKRead, hfirstRead, hstgRead, hSRead, hLRead, hlenRead, zones_of_tables hzones, retired_of_tables hl]

end

/-! ### The commands of the frames -/

/-- The frame of a request brings it back. -/
def Decodes (i : Instr) (k : Nat) (body : List Byte) (q : Req) : Prop :=
  q.bodyLen = body.length → requestCommand k q.tag body = i

theorem req_eta {q : Req} (h : q.bodyLen = n) : ({ tag := q.tag, bodyLen := n } : Req) = q := by rw [← h]

section
variable {tag f : Nat} {body : List Byte}

theorem requestCommand_eventsRead (h : field body 0 1 = f) (h1 : f ≠ 1) (h2 : f ≠ 2) :
    requestCommand 0x03 tag body = .eventsRead { tag := tag, bodyLen := body.length } f := by
  simp [requestCommand, h]

theorem requestCommand_eventsClear (h : field body 0 1 = 1) :
    requestCommand 0x03 tag body = .eventsClear { tag := tag, bodyLen := body.length } (eventsOf body 1) := by
  simp [requestCommand, h]

theorem requestCommand_eventsMask (h : field body 0 1 = 2) :
    requestCommand 0x03 tag body = .eventsMask { tag := tag, bodyLen := body.length } (eventsOf body 1) := by
  simp [requestCommand, h]

theorem requestCommand_triggerSet (h : field body 1 1 = f) (h1 : f ≠ 1) :
    requestCommand 0x06 tag body = .triggerSet { tag := tag, bodyLen := body.length } (field body 0 1) f := by
  simp [requestCommand, h]

theorem requestCommand_triggerClear (h : field body 1 1 = 1) :
    requestCommand 0x06 tag body = .triggerClear { tag := tag, bodyLen := body.length } (field body 0 1) := by
  simp [requestCommand, h]

theorem requestCommand_classRead (h : field body 1 1 = f) (h1 : f ≠ 1) :
    requestCommand 0x12 tag body = .classRead { tag := tag, bodyLen := body.length } (field body 0 1) f := by
  simp [requestCommand, h]

theorem requestCommand_classWrite (h : field body 1 1 = 1) : requestCommand 0x12 tag body =
    .classWrite { tag := tag, bodyLen := body.length } (field body 0 1) (classArgsOf body) := by
  simp [requestCommand, h]

theorem requestCommand_regionRead (h : field body 0 1 = f) (h1 : f ≠ 1) :
    requestCommand 0x13 tag body = .regionRead { tag := tag, bodyLen := body.length } f := by
  simp [requestCommand, h]

theorem requestCommand_regionWrite (h : field body 0 1 = 1) : requestCommand 0x13 tag body =
    .regionWrite { tag := tag, bodyLen := body.length } (recordsOf (field body 1 1) 13 2 (regionAt body)) := by
  simp [requestCommand, h]

theorem requestCommand_scoringRead (h : field body 0 1 = f) (h1 : f ≠ 1) (h2 : f ≠ 2) :
    requestCommand 0x14 tag body = .scoringRead { tag := tag, bodyLen := body.length } f (flagOf body 1) := by
  simp [requestCommand, h]

theorem requestCommand_scoringWrite (h : field body 0 1 = 1) : requestCommand 0x14 tag body =
    .scoringWrite { tag := tag, bodyLen := body.length } (flagOf body 1) (field body 2 1) := by
  simp [requestCommand, h]

theorem requestCommand_scoringEvaluate (h : field body 0 1 = 2) : requestCommand 0x14 tag body =
    .scoringEvaluate { tag := tag, bodyLen := body.length } (flagOf body 1) (field body 2 2) := by
  simp [requestCommand, h]

theorem requestCommand_channelRead (h : field body 1 1 = f) (h1 : f ≠ 1) :
    requestCommand 0x15 tag body = .channelRead { tag := tag, bodyLen := body.length } (field body 0 1) f := by
  simp [requestCommand, h]

theorem requestCommand_channelWrite (h : field body 1 1 = 1) : requestCommand 0x15 tag body =
    .channelWrite { tag := tag, bodyLen := body.length } (field body 0 1) (channelArgsOf body) := by
  simp [requestCommand, h]

theorem requestCommand_timersRead (h : field body 0 1 = f) (h1 : f ≠ 1) :
    requestCommand 0x16 tag body = .timersRead { tag := tag, bodyLen := body.length } f := by
  simp [requestCommand, h]

theorem requestCommand_timersWrite (h : field body 0 1 = 1) :
    requestCommand 0x16 tag body = .timersWrite { tag := tag, bodyLen := body.length } (timerArgsOf body) := by
  simp [requestCommand, h]

end

/-! ### The arguments of the bodies with several fields -/

/-- The body of a CLASS that writes. -/
def classChars (c : Nat) (v : ClassArgs) : List Byte :=
  natChars 1 c ++ natChars 1 1 ++ natChars 1 v.firstZone ++ natChars 1 v.lastZone ++ natChars 2 v.quota ++
    natChars 1 v.weight ++ natChars 1 v.slot

theorem read_classChars {c : Nat} {v : ClassArgs} (hc : fits 1 c = true) (h : v.wf = true) :
    field (classChars c v) 0 1 = c ∧ field (classChars c v) 1 1 = 1 ∧ classArgsOf (classChars c v) = v := by
  simp only [ClassArgs.wf, Bool.and_eq_true] at h
  obtain ⟨⟨⟨⟨hf, hl⟩, hq⟩, hw⟩, hs⟩ := h
  unfold classArgsOf classChars
  simp [field_skip, field_fits, field_fits_last, fits_form, *]

/-- The body of a CHANNEL that writes. -/
def channelChars (c : Nat) (v : ChannelArgs) : List Byte :=
  natChars 1 c ++ natChars 1 1 ++ natChars 1 v.enable ++ natChars 1 v.job ++ natChars 1 v.source ++ natChars 1 v.mode ++
    natChars 2 v.count ++ natChars 1 v.destClass ++ natChars 2 v.victims.toNat ++ natChars 4 v.handle ++
    natChars 4 v.compareHour ++ natChars 4 v.period ++ natChars 2 v.freeLow

theorem read_channelChars {c : Nat} {v : ChannelArgs} (hc : fits 1 c = true) (h : v.wf = true) :
    field (channelChars c v) 0 1 = c ∧ field (channelChars c v) 1 1 = 1 ∧ channelArgsOf (channelChars c v) = v := by
  simp only [ChannelArgs.wf, Bool.and_eq_true] at h
  obtain ⟨⟨⟨⟨⟨⟨⟨⟨⟨he, hj⟩, hs⟩, hm⟩, hn⟩, hd⟩, hh⟩, ho⟩, hp⟩, hf⟩ := h
  unfold channelArgsOf channelChars
  simp [field_skip, field_fits, field_fits_last, fits_form, classBits_natChars, -BitVec.ofNat_toNat, *]

/-- The body of a TIMERS that writes. -/
def timerChars (v : TimerArgs) : List Byte :=
  natChars 1 1 ++ natChars 2 v.orderTimeout ++ natChars 2 v.idleDelay ++ natChars 1 v.burst ++ natChars 1 v.reserve ++
    natChars 1 v.suspect ++ natChars 1 v.highMark ++ natChars 2 v.digestMinutes ++ natChars 2 v.eventFreeLow

theorem read_timerChars {v : TimerArgs} (h : v.wf = true) :
    field (timerChars v) 0 1 = 1 ∧ timerArgsOf (timerChars v) = v := by
  simp only [TimerArgs.wf, Bool.and_eq_true] at h
  obtain ⟨⟨⟨⟨⟨⟨⟨ho, hi⟩, hb⟩, hr⟩, hs⟩, hm⟩, hd⟩, he⟩ := h
  unfold timerArgsOf timerChars
  simp [field_skip, field_fits, field_fits_last, fits_form, *]

/-- The body of a PLACE. -/
def placeChars (hold : Bool) (a : PlaceArgs) : List Byte :=
  natChars 1 hold.toNat ++ natChars 1 a.stream ++ natChars 1 a.cls ++ natChars 1 a.tail ++ natChars 1 a.verify ++
    natChars 5 a.start ++ natChars 2 a.len ++ natChars 4 a.handle

theorem read_placeChars {hold : Bool} {a : PlaceArgs} (h : a.wf = true) :
    flagOf (placeChars hold a) 0 = hold ∧ placeArgsOf (placeChars hold a) = a := by
  simp only [PlaceArgs.wf, Bool.and_eq_true] at h
  obtain ⟨⟨⟨⟨⟨⟨hs, hc⟩, ht⟩, hv⟩, hst⟩, hl⟩, hh⟩ := h
  unfold placeArgsOf placeChars
  simp [field_skip, field_fits, field_fits_last, flagOf_natChars, *]

/-- The body of a REGION that writes. -/
def regionListChars (l : List Region) : List Byte :=
  natChars 1 1 ++ natChars 1 l.length ++ (l.map regionChars).flatten

theorem read_regionListChars {l : List Region} (hn : fits 1 l.length = true) (h : l.all Region.wf = true) :
    field (regionListChars l) 0 1 = 1 ∧
      recordsOf (field (regionListChars l) 1 1) 13 2 (regionAt (regionListChars l)) = l := by
  have hcount : field (regionListChars l) 1 1 = l.length := by
    unfold regionListChars
    rw [List.append_assoc, field_skip (le_refl 1), field_fits hn]
  refine ⟨?_, ?_⟩
  · unfold regionListChars
    rw [List.append_assoc, field_fits fits_form.1]
  · rw [hcount]
    unfold regionListChars
    have hread := recordsOf_flatten (pre := natChars 1 1 ++ natChars 1 l.length) (post := [])
      (fun r _ => length_regionChars r) (fun r hr post => regionAt_regionChars (List.all_eq_true.1 h r hr) post) regionAt_append
    rwa [List.append_nil] at hread

/-! ### Every request comes back from its frame -/

theorem decodes_of_frame (i : Instr) (hw : i.wf = true) :
    ∀ x, frameOf i = some x → ∀ q, reqOf i = some q → Decodes i x.1 x.2 q := by
  cases i with
  | status q =>
    rintro _ ⟨⟩ _ ⟨⟩ hlen
    exact congrArg Instr.status (req_eta hlen)
  | cancel q t =>
    rintro _ ⟨⟩ _ ⟨⟩ hlen
    obtain ⟨-, ht⟩ := Bool.and_eq_true_iff.1 hw
    exact congrArg₂ Instr.cancel (req_eta hlen) (field_fits_last ht)
  | eventsRead q f =>
    rintro _ ⟨⟩ _ ⟨⟩ hlen
    simp only [Instr.wf, Bool.and_eq_true, bne_iff_ne] at hw
    obtain ⟨⟨⟨-, hf⟩, h1⟩, h2⟩ := hw
    exact (requestCommand_eventsRead (field_fits hf) h1 h2).trans (congrArg (Instr.eventsRead · f) (req_eta hlen))
  | eventsClear q e =>
    rintro _ ⟨⟩ _ ⟨⟩ hlen
    refine (requestCommand_eventsClear (field_fits fits_form.1)).trans (congrArg₂ Instr.eventsClear (req_eta hlen) ?_)
    exact (eventsOf_skip (le_refl 1)).trans (eventsOf_natChars_last e)
  | eventsMask q e =>
    rintro _ ⟨⟩ _ ⟨⟩ hlen
    refine (requestCommand_eventsMask (field_fits fits_form.2.1)).trans (congrArg₂ Instr.eventsMask (req_eta hlen) ?_)
    exact (eventsOf_skip (le_refl 1)).trans (eventsOf_natChars_last e)
  | tally q slot clear =>
    rintro _ ⟨⟩ _ ⟨⟩ hlen
    obtain ⟨-, hs⟩ := Bool.and_eq_true_iff.1 hw
    exact congr (congrArg₂ Instr.tally (req_eta hlen) (field_fits hs))
      ((flagOf_skip (le_refl 1)).trans (flagOf_natChars_last clear))
  | band q b =>
    rintro _ ⟨⟩ _ ⟨⟩ hlen
    obtain ⟨-, hb⟩ := Bool.and_eq_true_iff.1 hw
    exact congrArg₂ Instr.band (req_eta hlen) (field_fits_last hb)
  | triggerSet q c a =>
    rintro _ ⟨⟩ _ ⟨⟩ hlen
    simp only [Instr.wf, Bool.and_eq_true, bne_iff_ne] at hw
    obtain ⟨⟨⟨-, hc⟩, ha⟩, h1⟩ := hw
    refine (requestCommand_triggerSet ((field_skip (le_refl 1)).trans (field_fits_last ha)) h1).trans ?_
    exact congrArg₂ (Instr.triggerSet · · a) (req_eta hlen) (field_fits hc)
  | triggerClear q c =>
    rintro _ ⟨⟩ _ ⟨⟩ hlen
    obtain ⟨-, hc⟩ := Bool.and_eq_true_iff.1 hw
    refine (requestCommand_triggerClear ((field_skip (le_refl 1)).trans (field_fits_last fits_form.1))).trans ?_
    exact congrArg₂ Instr.triggerClear (req_eta hlen) (field_fits hc)
  | reset q =>
    rintro _ ⟨⟩ _ ⟨⟩ hlen
    exact congrArg Instr.reset (req_eta hlen)
  | format q g l =>
    rintro _ ⟨⟩ _ ⟨⟩ hlen
    obtain ⟨-, ht⟩ := Bool.and_eq_true_iff.1 hw
    have hread := tablesOf_tablesChars ht
    exact congr (congrArg₂ Instr.format (req_eta hlen) (congrArg Prod.fst hread)) (congrArg Prod.snd hread)
  | retire q t =>
    rintro _ ⟨⟩ _ ⟨⟩ hlen
    obtain ⟨-, ht⟩ := Bool.and_eq_true_iff.1 hw
    exact congrArg₂ Instr.retire (req_eta hlen) (field_fits_last ht)
  | classRead q c f =>
    rintro _ ⟨⟩ _ ⟨⟩ hlen
    simp only [Instr.wf, Bool.and_eq_true, bne_iff_ne] at hw
    obtain ⟨⟨⟨-, hc⟩, hf⟩, h1⟩ := hw
    refine (requestCommand_classRead ((field_skip (le_refl 1)).trans (field_fits_last hf)) h1).trans ?_
    exact congrArg₂ (Instr.classRead · · f) (req_eta hlen) (field_fits hc)
  | classWrite q c v =>
    rintro _ ⟨⟩ _ ⟨⟩ hlen
    simp only [Instr.wf, Bool.and_eq_true] at hw
    obtain ⟨⟨-, hc⟩, hv⟩ := hw
    obtain ⟨hcls, hform, hargs⟩ := read_classChars hc hv
    exact (requestCommand_classWrite hform).trans (congr (congrArg₂ Instr.classWrite (req_eta hlen) hcls) hargs)
  | regionRead q f =>
    rintro _ ⟨⟩ _ ⟨⟩ hlen
    simp only [Instr.wf, Bool.and_eq_true, bne_iff_ne] at hw
    obtain ⟨⟨-, hf⟩, h1⟩ := hw
    exact (requestCommand_regionRead (field_fits_last hf) h1).trans (congrArg (Instr.regionRead · f) (req_eta hlen))
  | regionWrite q l =>
    rintro _ ⟨⟩ _ ⟨⟩ hlen
    simp only [Instr.wf, Bool.and_eq_true] at hw
    obtain ⟨⟨-, hn⟩, hl⟩ := hw
    obtain ⟨hform, hrecords⟩ := read_regionListChars hn hl
    exact (requestCommand_regionWrite hform).trans (congrArg₂ Instr.regionWrite (req_eta hlen) hrecords)
  | scoringRead q f clear =>
    rintro _ ⟨⟩ _ ⟨⟩ hlen
    simp only [Instr.wf, Bool.and_eq_true, bne_iff_ne] at hw
    obtain ⟨⟨⟨-, hf⟩, h1⟩, h2⟩ := hw
    refine (requestCommand_scoringRead (field_fits hf) h1 h2).trans ?_
    exact congrArg₂ (Instr.scoringRead · f ·) (req_eta hlen) ((flagOf_skip (le_refl 1)).trans (flagOf_natChars_last clear))
  | scoringWrite q clear m =>
    rintro _ ⟨⟩ _ ⟨⟩ hlen
    obtain ⟨-, hm⟩ := Bool.and_eq_true_iff.1 hw
    rw [List.append_assoc] at hlen ⊢
    refine (requestCommand_scoringWrite (field_fits fits_form.1)).trans (congr (congrArg₂ Instr.scoringWrite (req_eta hlen) ?_) ?_)
    · exact (flagOf_skip (le_refl 1)).trans (flagOf_natChars clear)
    · simp [field_skip, field_fits_last, hm]
  | scoringEvaluate q clear b =>
    rintro _ ⟨⟩ _ ⟨⟩ hlen
    obtain ⟨-, hb⟩ := Bool.and_eq_true_iff.1 hw
    rw [List.append_assoc] at hlen ⊢
    refine (requestCommand_scoringEvaluate (field_fits fits_form.2.1)).trans
      (congr (congrArg₂ Instr.scoringEvaluate (req_eta hlen) ?_) ?_)
    · exact (flagOf_skip (le_refl 1)).trans (flagOf_natChars clear)
    · simp [field_skip, field_fits_last, hb]
  | channelRead q c f =>
    rintro _ ⟨⟩ _ ⟨⟩ hlen
    simp only [Instr.wf, Bool.and_eq_true, bne_iff_ne] at hw
    obtain ⟨⟨⟨-, hc⟩, hf⟩, h1⟩ := hw
    refine (requestCommand_channelRead ((field_skip (le_refl 1)).trans (field_fits_last hf)) h1).trans ?_
    exact congrArg₂ (Instr.channelRead · · f) (req_eta hlen) (field_fits hc)
  | channelWrite q c v =>
    rintro _ ⟨⟩ _ ⟨⟩ hlen
    simp only [Instr.wf, Bool.and_eq_true] at hw
    obtain ⟨⟨-, hc⟩, hv⟩ := hw
    obtain ⟨hchan, hform, hargs⟩ := read_channelChars hc hv
    exact (requestCommand_channelWrite hform).trans (congr (congrArg₂ Instr.channelWrite (req_eta hlen) hchan) hargs)
  | timersRead q f =>
    rintro _ ⟨⟩ _ ⟨⟩ hlen
    simp only [Instr.wf, Bool.and_eq_true, bne_iff_ne] at hw
    obtain ⟨⟨-, hf⟩, h1⟩ := hw
    exact (requestCommand_timersRead (field_fits_last hf) h1).trans (congrArg (Instr.timersRead · f) (req_eta hlen))
  | timersWrite q v =>
    rintro _ ⟨⟩ _ ⟨⟩ hlen
    obtain ⟨-, hv⟩ := Bool.and_eq_true_iff.1 hw
    obtain ⟨hform, hargs⟩ := read_timerChars hv
    exact (requestCommand_timersWrite hform).trans (congrArg₂ Instr.timersWrite (req_eta hlen) hargs)
  | mount q hold =>
    rintro _ ⟨⟩ _ ⟨⟩ hlen
    exact congrArg₂ Instr.mount (req_eta hlen) (flagOf_natChars_last hold)
  | quiesce q hold =>
    rintro _ ⟨⟩ _ ⟨⟩ hlen
    exact congrArg₂ Instr.quiesce (req_eta hlen) (flagOf_natChars_last hold)
  | restore q g l =>
    rintro _ ⟨⟩ _ ⟨⟩ hlen
    obtain ⟨-, ht⟩ := Bool.and_eq_true_iff.1 hw
    have hread := tablesOf_tablesChars ht
    exact congr (congrArg₂ Instr.restore (req_eta hlen) (congrArg Prod.fst hread)) (congrArg Prod.snd hread)
  | place q hold a =>
    rintro _ ⟨⟩ _ ⟨⟩ hlen
    obtain ⟨-, ha⟩ := Bool.and_eq_true_iff.1 hw
    obtain ⟨hflag, hargs⟩ := read_placeChars (hold := hold) ha
    exact congr (congrArg₂ Instr.place (req_eta hlen) hflag) hargs
  | fetch q hold a m h =>
    rintro _ ⟨⟩ _ ⟨⟩ hlen
    simp only [Instr.wf, Bool.and_eq_true] at hw
    obtain ⟨⟨⟨-, ha⟩, hm⟩, hh⟩ := hw
    rw [List.append_assoc, List.append_assoc] at hlen ⊢
    refine congr (congr (congr (congrArg₂ Instr.fetch (req_eta hlen) (flagOf_natChars hold)) ?_) ?_) ?_
    all_goals simp [field_skip, field_fits, field_fits_last, ha, hm, hh]
  | discard q hold a m =>
    rintro _ ⟨⟩ _ ⟨⟩ hlen
    simp only [Instr.wf, Bool.and_eq_true] at hw
    obtain ⟨⟨-, ha⟩, hm⟩ := hw
    rw [List.append_assoc] at hlen ⊢
    refine congr (congr (congrArg₂ Instr.discard (req_eta hlen) (flagOf_natChars hold)) ?_) ?_
    all_goals simp [field_skip, field_fits, field_fits_last, ha, hm]
  | locate q a m =>
    rintro _ ⟨⟩ _ ⟨⟩ hlen
    simp only [Instr.wf, Bool.and_eq_true] at hw
    obtain ⟨⟨-, ha⟩, hm⟩ := hw
    refine congr (congrArg₂ Instr.locate (req_eta hlen) (field_fits ha)) ?_
    exact (field_skip (le_refl 5)).trans (field_fits_last hm)
  | streamOpen q i c t v m =>
    rintro _ ⟨⟩ _ ⟨⟩ hlen
    simp only [Instr.wf, Bool.and_eq_true] at hw
    obtain ⟨⟨⟨⟨⟨-, hi⟩, hc⟩, ht⟩, hv⟩, hm⟩ := hw
    refine congr (congr (congr (congr (congrArg₂ Instr.streamOpen (req_eta hlen) ?_) ?_) ?_) ?_) ?_
    all_goals simp [field_skip, field_fits, field_fits_last, hi, hc, ht, hv, hm]
  | streamClose q i =>
    rintro _ ⟨⟩ _ ⟨⟩ hlen
    obtain ⟨-, hi⟩ := Bool.and_eq_true_iff.1 hw
    exact congrArg₂ Instr.streamClose (req_eta hlen) (field_fits_last hi)
  | _ => rintro _ ⟨⟩

/-- A frame of a kind that is no request. -/
theorem requestCommand_of_unknown {k tag : Nat} {body : List Byte} (h : isRequestCode k = false) :
    requestCommand k tag body = .badKindRequest tag k := by
  unfold requestCommand
  dsimp only
  split
  case h_24 => rfl
  all_goals exact absurd h (by decide)

/-- The part when a frame of no request's kind has been refused. -/
def Part.kindRefused (p : Part) (tag code : Nat) : Part :=
  if p.li.canReserve 1 then p.say (replyMsg tag .badKind (.unknown code) []) else p.sayRefusal tag .queueFull (.unknown code)

theorem exec_badKindRequest (hs : Hears s) (tag code : Nat) :
    exec (.badKindRequest tag code) s = .next (tell s (s.part.kindRefused tag code)) :=
  heard_eq_tell hs fun p => p.kindRefused tag code

/-- Settles O9. -/
theorem badKindIsRefused : Obligations.BadKindIsRefused := by
  refine ⟨fun i k body q hw hf hq hlen => congrArg some (decodes_of_frame i hw _ hf q hq hlen),
    fun k tag body h => congrArg some (requestCommand_of_unknown h), fun s tag code hs => ?_⟩
  rw [exec_badKindRequest hs]
  have hfull : ¬Room s.part 1 → s.part.kindRefused tag code = s.part.sayRefusal tag .queueFull (.unknown code) :=
    fun hroom => if_neg (by simp [canReserve_eq_false.2 hroom])
  refine ⟨fun hroom => ?_, fun hroom hfree => ?_, fun hroom htaken => ?_⟩
  · rw [Part.kindRefused, if_pos (canReserve_eq_true.2 hroom)]
    rfl
  · rw [hfull hroom, Part.sayRefusal, if_neg (by simpa [refusalTaken_eq_true] using hfree)]
    rfl
  · rw [hfull hroom, Part.sayRefusal, if_pos (refusalTaken_eq_true.2 htaken)]
    rfl

end Sys2Proof.Machine
end

section
/-! SUPPORT. The reset steps of the Band Table (R41): what they make of each band and of the parked lists. -/

namespace Sys2Proof.Machine

open Sys2Proof Sys2Proof.Spec

variable {p q r : Part} {b x : Nat}

/-! ### The parked lists -/

/-- A band stands on a parked list. -/
def Part.Listed (p : Part) (b : Nat) : Prop := ∃ l ∈ p.bm.parked, b ∈ l

/-- A band that a reset has closed. -/
def closedOff (H : Nat) (r : Band) : Band := { r with state := .closed, closedHour := H }

theorem mem_of_mem_modify {α : Type} {l : List α} {k : Nat} {f : α → α} {y : α} (h : y ∈ l.modify k f) :
    y ∈ l ∨ ∃ z, l[k]? = some z ∧ y = f z := by
  obtain ⟨i, hi, rfl⟩ := List.getElem_of_mem h
  have hi' : i < l.length := by simpa using hi
  rw [List.getElem_modify]
  split
  · next hk =>
    subst hk
    exact .inr ⟨_, List.getElem?_eq_getElem hi', rfl⟩
  · exact .inl (List.getElem_mem hi')

theorem not_listed_closeOnly (p : Part) (b : Nat) : ¬(p.closeOnly b).Listed b := by
  rintro ⟨l, hl, hb⟩
  obtain ⟨l', -, rfl⟩ := List.mem_map.1 hl
  simp [without] at hb

theorem listed_of_closeOnly (h : (p.closeOnly x).Listed b) : p.Listed b := by
  obtain ⟨l, hl, hb⟩ := h
  obtain ⟨l', hl', rfl⟩ := List.mem_map.1 hl
  exact ⟨l', hl', (List.mem_filter.1 hb).1⟩

theorem listed_of_parkedList {c : Nat} (h : b ∈ p.parkedList c) : p.Listed b := by
  unfold Part.parkedList at h
  rw [List.getD_eq_getElem?_getD] at h
  cases hl : p.bm.parked[c - 1]? with
  | none => simp [hl] at h
  | some l =>
    rw [hl] at h
    exact ⟨l, List.mem_of_getElem? hl, h⟩

theorem band_closeOnly_self (h : b < p.bm.bands.length) : (p.closeOnly b).band b = closedOff p.hours (p.band b) :=
  band_modBand_self (p := p.unpark b) h

theorem band_closeOnly_other (h : x ≠ b) : (p.closeOnly b).band x = p.band x :=
  (Part.band_modBand (p.unpark b) b x _).trans (if_neg fun hc => h hc.1)

theorem closeOnly_length (p : Part) (b : Nat) : (p.closeOnly b).bm.bands.length = p.bm.bands.length := by
  rw [Part.closeOnly_bm]
  exact List.length_modify _ _ _

/-! ### What the parking of another band does to a band (R41 step 2) -/

/-- The steps for other bands lead from q to r: band b stays, or is pushed off its list and closed. -/
structure Part.PushedOff (b : Nat) (q r : Part) : Prop where
  length : r.bm.bands.length = q.bm.bands.length
  hours : r.hours = q.hours
  band : (r.band b = q.band b ∧ (r.Listed b → q.Listed b)) ∨
    (q.Listed b ∧ r.band b = closedOff q.hours (q.band b) ∧ ¬r.Listed b)

theorem Part.PushedOff.refl (b : Nat) (q : Part) : Part.PushedOff b q q := ⟨rfl, rfl, .inl ⟨rfl, id⟩⟩

theorem Part.PushedOff.trans (h : Part.PushedOff b p q) (k : Part.PushedOff b q r) : Part.PushedOff b p r := by
  refine ⟨k.length.trans h.length, k.hours.trans h.hours, ?_⟩
  rcases h.band with ⟨hsame, hlist⟩ | ⟨hlisted, hclosed, hoff⟩
  · rcases k.band with ⟨ksame, klist⟩ | ⟨klisted, kclosed, koff⟩
    · exact .inl ⟨ksame.trans hsame, fun hl => hlist (klist hl)⟩
    · exact .inr ⟨hlist klisted, by rw [kclosed, hsame, h.hours], koff⟩
  · rcases k.band with ⟨ksame, klist⟩ | ⟨klisted, -, -⟩
    · exact .inr ⟨hlisted, ksame.trans hclosed, fun hl => hoff (klist hl)⟩
    · exact absurd klisted hoff

/-- A band that is on no list is not touched by the steps for others. -/
theorem Part.PushedOff.of_not_listed (h : Part.PushedOff b q r) (hl : ¬q.Listed b) : r.band b = q.band b ∧ ¬r.Listed b := by
  rcases h.band with ⟨hsame, hlist⟩ | ⟨hlisted, -, -⟩
  · exact ⟨hsame, fun hr => hl (hlist hr)⟩
  · exact absurd hlisted hl

theorem Part.PushedOff.of_bands (hb : r.bm.bands.length = q.bm.bands.length) (hh : r.hours = q.hours)
    (hband : r.band b = q.band b) (hl : r.bm.parked = q.bm.parked) : Part.PushedOff b q r :=
  ⟨hb, hh, .inl ⟨hband, fun ⟨l, hm, hx⟩ => ⟨l, hl ▸ hm, hx⟩⟩⟩

/-- The close of a band on a list, seen from a band that exists. -/
theorem pushedOff_closeOnly (hb : b < q.bm.bands.length) (h : x = b → q.Listed b) : Part.PushedOff b q (q.closeOnly x) := by
  refine ⟨closeOnly_length q x, rfl, ?_⟩
  by_cases hx : x = b
  · subst hx
    exact .inr ⟨h rfl, band_closeOnly_self hb, not_listed_closeOnly q x⟩
  · exact .inl ⟨band_closeOnly_other (Ne.symm hx), listed_of_closeOnly⟩

/-- How a band joins the list of its class: first the oldest of four may be closed. -/
theorem joinParked_cases (p : Part) (b : Nat) (close : Part → Nat → Part) :
    ∃ q, ((p.parkedList (p.band b).cls).length < 4 ∧ q = p ∨
        ∃ o rest, p.parkedList (p.band b).cls = o :: rest ∧ q = close p o) ∧
      p.joinParked b close = (((q.modBand b fun r => { r with state := .parked }).modParked (p.band b).cls
        fun l => l ++ [b]).note .parkJoined) := by
  unfold Part.joinParked
  dsimp only
  cases hl : p.parkedList (p.band b).cls with
  | nil => exact ⟨p, .inl ⟨Nat.zero_lt_succ _, rfl⟩, rfl⟩
  | cons o rest =>
    dsimp only
    by_cases h4 : (o :: rest).length ≥ Config.parkedCap
    · rw [if_pos h4]
      exact ⟨close p o, .inr ⟨o, rest, rfl, rfl⟩, rfl⟩
    · rw [if_neg h4]
      exact ⟨p, .inl ⟨Nat.lt_of_not_le h4, rfl⟩, rfl⟩

theorem listed_of_joined {c : Nat} (h : ((q.modBand x fun r => { r with state := .parked }).modParked c
    fun l => l ++ [x]).Listed b) : q.Listed b ∨ b = x := by
  obtain ⟨l, hl, hb⟩ := h
  rcases mem_of_mem_modify hl with hl | ⟨z, hz, rfl⟩
  · exact .inl ⟨l, hl, hb⟩
  · rcases List.mem_append.1 hb with hb | hb
    · exact .inl ⟨z, List.mem_of_getElem? hz, hb⟩
    · exact .inr (List.mem_singleton.1 hb)

/-- The part into which a band joins its list, as a band that exists sees it. -/
theorem joinParked_closeOnly (hb : b < q.bm.bands.length) (x : Nat) : ∃ w, Part.PushedOff b q w ∧
    q.joinParked x Part.closeOnly = (((w.modBand x fun r => { r with state := .parked }).modParked (q.band x).cls
      fun l => l ++ [x]).note .parkJoined) := by
  obtain ⟨w, hw, heq⟩ := joinParked_cases q x Part.closeOnly
  refine ⟨w, ?_, heq⟩
  rcases hw with ⟨-, rfl⟩ | ⟨o, rest, hl, rfl⟩
  · exact .refl b w
  · refine pushedOff_closeOnly hb fun ho => listed_of_parkedList (c := (q.band x).cls) ?_
    rw [hl, ho]
    exact List.mem_cons_self

theorem pushedOff_joinParked (hb : b < q.bm.bands.length) (hx : x ≠ b) :
    Part.PushedOff b q (q.joinParked x Part.closeOnly) := by
  obtain ⟨w, hroom, heq⟩ := joinParked_closeOnly hb x
  refine hroom.trans ?_
  rw [heq]
  refine ⟨List.length_modify _ _ _, rfl, .inl ⟨?_, fun hl => (listed_of_joined hl).resolve_right hx.symm⟩⟩
  exact (Part.band_modBand w x b _).trans (if_neg fun hc => hx hc.1.symm)

theorem hours_resetPark (q : Part) (x : Nat) : (q.resetPark x).hours = q.hours := by
  obtain ⟨e, a, d, hsv⟩ := (tableStep_resetPark (b := x) (TableStep.refl q)).sv
  unfold Part.hours
  rw [hsv]

theorem resetPark_of_not_opened (h : (q.band x).state ≠ .opened) : q.resetPark x = q := if_neg h

theorem resetPark_of_opened (h : (q.band x).state = .opened) : q.resetPark x = q.dispose x Part.closeOnly := if_pos h

/-- What the reset does with an OPEN band (R41 step 2). -/
theorem resetPark_cases (h : (q.band x).state = .opened) :
    ((q.band x).wp = 0 ∧ q.resetPark x = q.rewind x) ∨
    ((q.band x).wp ≠ 0 ∧ (q.resetPark x = q.closeOnly x ∨ q.resetPark x = q.joinParked x Part.closeOnly)) := by
  rw [resetPark_of_opened h]
  unfold Part.dispose
  split
  · next hwp => exact .inl ⟨hwp, rfl⟩
  · next hwp =>
    refine .inr ⟨hwp, ?_⟩
    split
    · exact .inl rfl
    · exact .inr rfl

theorem pushedOff_resetPark (hb : b < q.bm.bands.length) (hx : x ≠ b) : Part.PushedOff b q (q.resetPark x) := by
  by_cases ho : (q.band x).state = .opened
  · have hh := hours_resetPark q x
    rcases resetPark_cases ho with ⟨-, h⟩ | ⟨-, h | h⟩
    · rw [h] at hh ⊢
      exact .of_bands (Part.rewind_length q x) hh (band_rewind_other hx.symm) (Part.rewind_parked q x)
    · rw [h]
      exact pushedOff_closeOnly hb fun hxb => absurd hxb hx
    · rw [h]
      exact pushedOff_joinParked hb hx
  · rw [resetPark_of_not_opened ho]
    exact .refl b q

theorem pushedOff_foldl : ∀ (l : List Nat) {q : Part}, b < q.bm.bands.length → b ∉ l →
    Part.PushedOff b q (l.foldl Part.resetPark q)
  | [], q, _, _ => .refl b q
  | x :: l, q, hb, hl => by
    have hstep : Part.PushedOff b q (q.resetPark x) := pushedOff_resetPark hb fun h => hl (h ▸ List.mem_cons_self)
    exact hstep.trans (pushedOff_foldl l (hstep.length ▸ hb) fun h => hl (List.mem_cons_of_mem x h))

/-! ### What the reset leaves of a band's record -/

/-- What no reset step changes of a band. -/
structure Band.Steady (x y : Band) : Prop where
  valid : y.valid = x.valid
  errors : y.errors = x.errors
  flag : y.suspectFlag = x.suspectFlag
  quiet : x = quiet x → y = Spec.quiet y

theorem Band.Steady.refl (x : Band) : x.Steady x := ⟨rfl, rfl, rfl, id⟩

theorem Band.Steady.trans {x y z : Band} (h : x.Steady y) (k : y.Steady z) : x.Steady z :=
  ⟨k.valid.trans h.valid, k.errors.trans h.errors, k.flag.trans h.flag, fun hx => k.quiet (h.quiet hx)⟩

/-- A change of a band's state and closed hour alone. -/
theorem steady_of_state (x : Band) (st : BandState) (H : Nat) : x.Steady { x with state := st, closedHour := H } := by
  refine ⟨rfl, rfl, rfl, fun h => ?_⟩
  have hq := congrArg (fun y : Band => { y with state := st, closedHour := H }) h
  exact hq

theorem steady_rewound (x : Band) : x.Steady (rewound x) := by
  unfold rewound
  split
  · exact ⟨rfl, rfl, rfl, fun h => (congrArg (fun y : Band => { y with state := .retired, wp := 0, owner := none }) h :)⟩
  · exact ⟨rfl, rfl, rfl, fun h => (congrArg (fun y : Band =>
      { y with state := .free, wp := 0, owner := none, cls := 0, closedHour := 0 }) h :)⟩

theorem steady_released (x : Band) : x.Steady (released x) := by
  unfold released
  split
  · exact steady_rewound x
  · exact .refl x

theorem Part.PushedOff.steady (h : Part.PushedOff b q r) : (q.band b).Steady (r.band b) := by
  rcases h.band with ⟨hsame, -⟩ | ⟨-, hclosed, -⟩
  · rw [hsame]
    exact .refl _
  · rw [hclosed]
    exact steady_of_state _ _ _

theorem state_rewound (x : Band) : (rewound x).state = if x.suspectFlag then .retired else .free := by
  unfold rewound
  split <;> rfl

/-! ### The parking of the band itself (R41 step 2) -/

/-- An OPEN band after its own step, wherever it stood. -/
theorem resetPark_self (hb : b < q.bm.bands.length) : (q.band b).Steady ((q.resetPark b).band b) ∧
    ((q.resetPark b).band b).state ≠ .opened ∧ (q.resetPark b).bm.bands.length = q.bm.bands.length := by
  by_cases ho : (q.band b).state = .opened
  · rcases resetPark_cases ho with ⟨-, h⟩ | ⟨-, h | h⟩
    · rw [h, band_rewind_self hb]
      refine ⟨steady_rewound _, ?_, Part.rewind_length q b⟩
      rw [state_rewound]
      split <;> nofun
    · rw [h, band_closeOnly_self hb]
      exact ⟨steady_of_state _ _ _, nofun, closeOnly_length q b⟩
    · obtain ⟨w, hpush, heq⟩ := joinParked_closeOnly hb b
      rw [h, heq]
      have hw : ((w.modBand b fun r => { r with state := .parked }).band b) = { w.band b with state := .parked } :=
        band_modBand_self (hpush.length ▸ hb)
      refine ⟨?_, ?_, (List.length_modify _ _ _).trans hpush.length⟩
      · refine hpush.steady.trans ?_
        exact (steady_of_state (w.band b) .parked (w.band b).closedHour).trans (by rw [← hw]; exact .refl _)
      · exact fun hc => nomatch (congrArg Band.state hw).symm.trans hc
  · rw [resetPark_of_not_opened ho]
    exact ⟨.refl _, ho, rfl⟩

/-- An OPEN band on no list after its own step. -/
theorem resetPark_self_of_not_listed (hb : b < q.bm.bands.length) (ho : (q.band b).state = .opened) (hl : ¬q.Listed b) :
    ((q.band b).wp = 0 → (q.resetPark b).band b = rewound (q.band b) ∧ ¬(q.resetPark b).Listed b) ∧
    ((q.band b).wp ≠ 0 → ((q.resetPark b).band b = closedOff q.hours (q.band b) ∧ ¬(q.resetPark b).Listed b) ∨
      (q.resetPark b).band b = { q.band b with state := .parked }) := by
  rcases resetPark_cases ho with ⟨hwp, h⟩ | ⟨hwp, h | h⟩
  · refine ⟨fun _ => ?_, fun hne => absurd hwp hne⟩
    rw [h]
    refine ⟨band_rewind_self hb, fun ⟨l, hm, hx⟩ => hl ⟨l, ?_, hx⟩⟩
    rw [← Part.rewind_parked q b]
    exact hm
  · refine ⟨fun h0 => absurd h0 hwp, fun _ => .inl ?_⟩
    rw [h]
    exact ⟨band_closeOnly_self hb, not_listed_closeOnly q b⟩
  · refine ⟨fun h0 => absurd h0 hwp, fun _ => .inr ?_⟩
    obtain ⟨w, hpush, heq⟩ := joinParked_closeOnly hb b
    have hw : ((w.modBand b fun r => { r with state := .parked }).band b) = { w.band b with state := .parked } :=
      band_modBand_self (hpush.length ▸ hb)
    rw [h, heq]
    refine (show _ = _ from hw).trans ?_
    rw [(hpush.of_not_listed hl).1]

/-! ### The parking of all bands -/

/-- The bands before and after one of them, in the order of the steps. -/
theorem range_split {n : Nat} (h : b < n) : ∃ rest, List.range n = List.range b ++ b :: rest ∧ b ∉ rest := by
  refine ⟨(List.range (n - b - 1)).map (b + 1 + ·), ?_, ?_⟩
  · have hn : n = b + (1 + (n - b - 1)) := by omega
    conv_lhs => rw [hn, List.range_add, List.range_add]
    simp [Nat.add_assoc]
  · intro hmem
    obtain ⟨k, -, hk⟩ := List.mem_map.1 hmem
    omega

/-- What the parking of all bands makes of one (R41 step 2). -/
theorem parkAll_spec {n : Nat} (hn : b < n) (hb : b < p.bm.bands.length) :
    let y := ((List.range n).foldl Part.resetPark p).band b
    let x := p.band b
    x.Steady y ∧ y.state ≠ .opened ∧
    (x.state ≠ .opened → ¬p.Listed b → y = x) ∧
    (x.state = .parked → y = x ∨ y = closedOff p.hours x) ∧
    (x.state = .opened → ¬p.Listed b → (x.wp = 0 → y = rewound x) ∧
      (x.wp ≠ 0 → y = { x with state := .parked } ∨ y = closedOff p.hours x)) := by
  obtain ⟨rest, hrange, hrest⟩ := range_split hn
  dsimp only
  rw [hrange, List.foldl_append, List.foldl_cons]
  have hbefore : Part.PushedOff b p ((List.range b).foldl Part.resetPark p) :=
    pushedOff_foldl _ hb (by simp)
  generalize (List.range b).foldl Part.resetPark p = q at hbefore
  have hq : b < q.bm.bands.length := hbefore.length ▸ hb
  obtain ⟨hsteady, hstate, hlen⟩ := resetPark_self hq
  have hafter : Part.PushedOff b (q.resetPark b) (rest.foldl Part.resetPark (q.resetPark b)) :=
    pushedOff_foldl _ (hlen ▸ hq) hrest
  have hhours := hours_resetPark q b
  generalize rest.foldl Part.resetPark (q.resetPark b) = r at hafter
  have hwhole : (p.band b).state ≠ .opened → Part.PushedOff b p r := fun hne => by
    have hqne : (q.band b).state ≠ .opened := by
      rcases hbefore.band with ⟨hsame, -⟩ | ⟨-, hclosed, -⟩
      · rw [hsame]
        exact hne
      · rw [hclosed]
        nofun
    rw [resetPark_of_not_opened hqne] at hafter
    exact hbefore.trans hafter
  refine ⟨hbefore.steady.trans (hsteady.trans hafter.steady), ?_, fun hne hl => ((hwhole hne).of_not_listed hl).1,
    fun hp => ?_, fun ho hl => ?_⟩
  · rcases hafter.band with ⟨hsame, -⟩ | ⟨-, hclosed, -⟩
    · rw [hsame]
      exact hstate
    · rw [hclosed]
      nofun
  · rcases (hwhole (by rw [hp]; nofun)).band with ⟨hsame, -⟩ | ⟨-, hclosed, -⟩
    · exact .inl hsame
    · exact .inr hclosed
  · obtain ⟨hsame, hql⟩ := hbefore.of_not_listed hl
    obtain ⟨hunwritten, hwritten⟩ := resetPark_self_of_not_listed hq (by rw [hsame]; exact ho) hql
    rw [hsame, hbefore.hours] at hwritten
    rw [hsame] at hunwritten
    refine ⟨fun hwp => ?_, fun hwp => ?_⟩
    · obtain ⟨hself, hoff⟩ := hunwritten hwp
      exact (hafter.of_not_listed hoff).1.trans hself
    · rcases hwritten hwp with ⟨hself, hoff⟩ | hself
      · exact .inr ((hafter.of_not_listed hoff).1.trans hself)
      · rcases hafter.band with ⟨hsame', -⟩ | ⟨-, hclosed, -⟩
        · exact .inl (hsame'.trans hself)
        · refine .inr ?_
          rw [hclosed, hself, hhours, hbefore.hours]
          rfl

end Sys2Proof.Machine
end

section
/-! SUPPORT. The Band Table after all reset steps (R41). -/

namespace Sys2Proof.Machine

open Sys2Proof Sys2Proof.Spec

variable {p q : Part} {b x n : Nat}

/-! ### Steps that each change one band by a rule of its own -/

/-- A step for a band that changes that band alone, by a rule of its record. -/
structure OneBandEach (f : Part → Nat → Part) (g : Band → Band) : Prop where
  length : ∀ q b, (f q b).bm.bands.length = q.bm.bands.length
  parked : ∀ q b, (f q b).bm.parked = q.bm.parked
  self : ∀ q b, b < q.bm.bands.length → (f q b).band b = g (q.band b)
  other : ∀ q b x, x ≠ b → (f q b).band x = q.band x

theorem OneBandEach.foldl_tables {f : Part → Nat → Part} {g : Band → Band} (h : OneBandEach f g) (l : List Nat) (q : Part) :
    (l.foldl f q).bm.bands.length = q.bm.bands.length ∧ (l.foldl f q).bm.parked = q.bm.parked := by
  induction l generalizing q with
  | nil => exact ⟨rfl, rfl⟩
  | cons x l ih =>
    obtain ⟨hlen, hparked⟩ := ih (f q x)
    exact ⟨hlen.trans (h.length q x), hparked.trans (h.parked q x)⟩

theorem OneBandEach.foldl_other {f : Part → Nat → Part} {g : Band → Band} (h : OneBandEach f g) {l : List Nat} (hb : b ∉ l)
    (q : Part) : (l.foldl f q).band b = q.band b := by
  induction l generalizing q with
  | nil => rfl
  | cons x l ih =>
    refine (ih (fun hm => hb (List.mem_cons_of_mem x hm)) (f q x)).trans (h.other q x b ?_)
    exact fun hx => hb (hx ▸ List.mem_cons_self)

/-- The steps for all bands change each by the rule. -/
theorem OneBandEach.foldl_range {f : Part → Nat → Part} {g : Band → Band} (h : OneBandEach f g) (hn : b < n)
    (hb : b < p.bm.bands.length) : ((List.range n).foldl f p).band b = g (p.band b) := by
  obtain ⟨rest, hrange, hrest⟩ := range_split hn
  have hself : b ∉ List.range b := by simp
  rw [hrange, List.foldl_append, List.foldl_cons, h.foldl_other hrest,
    h.self _ b ((h.foldl_tables (List.range b) p).1 ▸ hb), h.foldl_other hself]

/-! ### The return of victims and the release (R41 steps 3 and 4) -/

/-- A RECLAIMING band goes back to CLOSED or SUSPECT. -/
def returned (y : Band) : Band :=
  if y.state = .reclaiming then { y with state := if y.suspectFlag then .suspect else .closed } else y

/-- A CLOSED or SUSPECT band without a valid block is rewound. -/
def swept (y : Band) : Band := if (y.state = .closed ∨ y.state = .suspect) ∧ y.valid = 0 then rewound y else y

theorem returnOnly_bm (q : Part) (b : Nat) : (q.returnOnly b).bm =
    (q.modBand b fun r => { r with state := if (q.band b).suspectFlag then .suspect else .closed }).bm := by
  cases h : (q.band b).suspectFlag with
  | true =>
    rw [returnOnly_of_suspect h, Part.raise_bm]
    rfl
  | false =>
    rw [returnOnly_of_closed h]
    rfl

theorem oneBandEach_return : OneBandEach Part.resetReturn returned := by
  have hskip : ∀ (q : Part) (b : Nat), (q.band b).state ≠ .reclaiming → q.resetReturn b = q := fun q b h => if_neg h
  have htake : ∀ (q : Part) (b : Nat), (q.band b).state = .reclaiming → q.resetReturn b = q.returnOnly b := fun q b h => if_pos h
  refine ⟨fun q b => ?_, fun q b => ?_, fun q b hb => ?_, fun q b x hx => ?_⟩ <;>
    by_cases h : (q.band b).state = .reclaiming
  · rw [htake q b h, returnOnly_bm, Part.modBand_length]
  · rw [hskip q b h]
  · rw [htake q b h, returnOnly_bm, Part.modBand_parked]
  · rw [hskip q b h]
  · rw [htake q b h, band_returnOnly, band_modBand_self hb, returned, if_pos h]
  · rw [hskip q b h, returned, if_neg h]
  · rw [htake q b h, band_returnOnly, Part.band_modBand, if_neg fun hc => hx hc.1]
  · rw [hskip q b h]

theorem oneBandEach_release : OneBandEach Part.resetRelease swept := by
  have hrule : ∀ (q : Part) (b : Nat), q.resetRelease b =
      if ((q.band b).state = .closed ∨ (q.band b).state = .suspect) ∧ (q.band b).valid = 0 then q.rewind b else q :=
    fun q b => rfl
  refine ⟨fun q b => ?_, fun q b => ?_, fun q b hb => ?_, fun q b x hx => ?_⟩ <;> rw [hrule]
  · split
    · exact Part.rewind_length q b
    · rfl
  · split
    · exact Part.rewind_parked q b
    · rfl
  · unfold swept
    split
    · exact band_rewind_self hb
    · rfl
  · split
    · exact band_rewind_other hx
    · rfl

theorem steady_returned (x : Band) : x.Steady (returned x) := by
  unfold returned
  split
  · exact steady_of_state x _ x.closedHour
  · exact .refl x

theorem steady_swept (x : Band) : x.Steady (swept x) := by
  unfold swept
  split
  · exact steady_rewound x
  · exact .refl x

theorem state_returned (x : Band) : (returned x).state ≠ .reclaiming := by
  unfold returned
  split
  · dsimp only
    split <;> nofun
  · next h => exact h

theorem returned_of_state {y : Band} (h : y.state ≠ .reclaiming) : returned y = y := if_neg h

theorem swept_of_state {y : Band} (h : ¬(y.state = .closed ∨ y.state = .suspect)) : swept y = y :=
  if_neg fun hc => h hc.1

/-- A band that is CLOSED or SUSPECT is released as the statement says. -/
theorem swept_of_closed {y : Band} (h : y.state = .closed ∨ y.state = .suspect) : swept y = released y := by
  unfold swept released
  by_cases hv : y.valid = 0
  · rw [if_pos ⟨h, hv⟩, if_pos hv]
  · rw [if_neg fun hc => hv hc.2, if_neg hv]

/-- No band is left OPEN or RECLAIMING, and none CLOSED or SUSPECT without a valid block. -/
theorem swept_returned_state {y : Band} (h : y.state ≠ .opened) : (swept (returned y)).state ≠ .opened ∧
    (swept (returned y)).state ≠ .reclaiming ∧
    ((swept (returned y)).state = .closed ∨ (swept (returned y)).state = .suspect → 1 ≤ (swept (returned y)).valid) := by
  have hne : (returned y).state ≠ .opened := by
    unfold returned
    split
    · dsimp only
      split <;> nofun
    · exact h
  have hrec := state_returned y
  generalize returned y = z at hne hrec
  unfold swept
  split
  · rw [state_rewound]
    split <;> exact ⟨nofun, nofun, by simp⟩
  · next hc => exact ⟨hne, hrec, fun hs => Nat.pos_of_ne_zero fun hv => hc ⟨hs, hv⟩⟩

/-! ### The lists (R30) -/

/-- The lists keep their number, and their bound of four. -/
structure ListsKept (l k : List (List Nat)) : Prop where
  length : k.length = l.length
  bound : (∀ x ∈ l, x.length ≤ 4) → ∀ x ∈ k, x.length ≤ 4

theorem ListsKept.refl (l : List (List Nat)) : ListsKept l l := ⟨rfl, id⟩

theorem ListsKept.trans {l k m : List (List Nat)} (h : ListsKept l k) (h' : ListsKept k m) : ListsKept l m :=
  ⟨h'.length.trans h.length, fun hl => h'.bound (h.bound hl)⟩

theorem listsKept_closeOnly (q : Part) (x : Nat) : ListsKept q.bm.parked (q.closeOnly x).bm.parked := by
  rw [Part.closeOnly_bm]
  refine ⟨List.length_map _, fun h l hl => ?_⟩
  obtain ⟨l', hl', rfl⟩ := List.mem_map.1 hl
  exact (List.length_filter_le _ _).trans (h l' hl')

/-- There is room on the list that a band joins. -/
theorem parkedList_closeOnly_lt {c o : Nat} {rest : List Nat} (hl : q.parkedList c = o :: rest) :
    ((q.closeOnly o).parkedList c).length < (q.parkedList c).length := by
  have hfilter : (q.closeOnly o).parkedList c = without (q.parkedList c) o := by
    unfold Part.parkedList
    rw [Part.closeOnly_bm, List.getD_eq_getElem?_getD, List.getD_eq_getElem?_getD, List.getElem?_map]
    cases q.bm.parked[c - 1]? <;> rfl
  rw [hfilter, hl]
  unfold without
  rw [List.filter_cons_of_neg (by simp)]
  exact Nat.lt_succ_of_le (List.length_filter_le _ _)

theorem listsKept_joinParked (q : Part) (x : Nat) : ListsKept q.bm.parked (q.joinParked x Part.closeOnly).bm.parked := by
  obtain ⟨w, hw, heq⟩ := joinParked_cases q x Part.closeOnly
  have hkept : ListsKept q.bm.parked w.bm.parked := by
    rcases hw with ⟨-, rfl⟩ | ⟨o, rest, -, rfl⟩
    · exact .refl _
    · exact listsKept_closeOnly q o
  rw [heq]
  refine ⟨(List.length_modify _ _ _).trans hkept.length, fun h l hl => ?_⟩
  rcases mem_of_mem_modify hl with hl | ⟨z, hz, rfl⟩
  · exact hkept.bound h l hl
  · have hzlist : w.parkedList (q.band x).cls = z := by
      unfold Part.parkedList
      rw [List.getD_eq_getElem?_getD, show w.bm.parked[(q.band x).cls - 1]? = some z from hz]
      rfl
    have hroom : z.length < 4 := by
      rcases hw with ⟨hlt, rfl⟩ | ⟨o, rest, hlist, rfl⟩
      · rw [← hzlist]
        exact hlt
      · rw [← hzlist]
        refine Nat.lt_of_lt_of_le (parkedList_closeOnly_lt hlist) ?_
        unfold Part.parkedList
        rw [List.getD_eq_getElem?_getD]
        cases hg : q.bm.parked[(q.band x).cls - 1]? with
        | none => exact Nat.zero_le _
        | some l => exact h l (List.mem_of_getElem? hg)
    rw [List.length_append]
    exact hroom

theorem listsKept_resetPark (q : Part) (x : Nat) : ListsKept q.bm.parked (q.resetPark x).bm.parked := by
  by_cases ho : (q.band x).state = .opened
  · rcases resetPark_cases ho with ⟨-, h⟩ | ⟨-, h | h⟩ <;> rw [h]
    · rw [Part.rewind_parked]
      exact .refl _
    · exact listsKept_closeOnly q x
    · exact listsKept_joinParked q x
  · rw [resetPark_of_not_opened ho]
    exact .refl _

theorem resetPark_length (q : Part) (x : Nat) : (q.resetPark x).bm.bands.length = q.bm.bands.length := by
  by_cases ho : (q.band x).state = .opened
  · rcases resetPark_cases ho with ⟨-, h⟩ | ⟨-, h | h⟩ <;> rw [h]
    · exact Part.rewind_length q x
    · exact closeOnly_length q x
    · obtain ⟨w, hw, heq⟩ := joinParked_cases q x Part.closeOnly
      rw [heq]
      refine (List.length_modify _ _ _).trans ?_
      rcases hw with ⟨-, rfl⟩ | ⟨o, rest, -, rfl⟩
      · rfl
      · exact closeOnly_length q o
  · rw [resetPark_of_not_opened ho]

theorem parkAll_tables (l : List Nat) (q : Part) : (l.foldl Part.resetPark q).bm.bands.length = q.bm.bands.length ∧
    ListsKept q.bm.parked (l.foldl Part.resetPark q).bm.parked := by
  induction l generalizing q with
  | nil => exact ⟨rfl, .refl _⟩
  | cons x l ih =>
    obtain ⟨hlen, hkept⟩ := ih (q.resetPark x)
    exact ⟨hlen.trans (resetPark_length q x), (listsKept_resetPark q x).trans hkept⟩

/-! ### All steps (R41) -/

/-- The bands when they have been parked. -/
def Part.allParked (p : Part) : Part := (bandNumbers p.bm).foldl Part.resetPark p.clearBandCounts

theorem bandResetSteps_eq (p : Part) : p.bandResetSteps = (bandNumbers p.bm).foldl Part.resetRelease
    ((bandNumbers p.bm).foldl Part.resetReturn p.allParked) := rfl

theorem clearBandCounts_length (p : Part) : p.clearBandCounts.bm.bands.length = p.bm.bands.length := List.length_map _

theorem band_clearBandCounts (hb : b < p.bm.bands.length) : p.clearBandCounts.band b = quiet (p.band b) := by
  unfold Part.band Part.clearBandCounts Part.modBm
  rw [List.getD_eq_getElem?_getD, List.getD_eq_getElem?_getD]
  dsimp only
  rw [List.getElem?_map, List.getElem?_eq_getElem hb]
  rfl

theorem bandResetSteps_tables (p : Part) : p.bandResetSteps.bm.bands.length = p.bm.bands.length ∧
    ListsKept p.bm.parked p.bandResetSteps.bm.parked := by
  rw [bandResetSteps_eq]
  obtain ⟨hlen4, hlist4⟩ := oneBandEach_release.foldl_tables (bandNumbers p.bm)
    ((bandNumbers p.bm).foldl Part.resetReturn p.allParked)
  obtain ⟨hlen3, hlist3⟩ := oneBandEach_return.foldl_tables (bandNumbers p.bm) p.allParked
  obtain ⟨hlen2, hlist2⟩ := parkAll_tables (bandNumbers p.bm) p.clearBandCounts
  refine ⟨hlen4.trans (hlen3.trans (hlen2.trans (clearBandCounts_length p))), ?_⟩
  rw [hlist4, hlist3]
  exact hlist2

/-- A band after all reset steps, by its record when the bands have been parked. -/
theorem band_bandResetSteps (hb : b < p.bm.bands.length) :
    p.bandResetSteps.band b = swept (returned (p.allParked.band b)) := by
  have hlen2 : p.allParked.bm.bands.length = p.bm.bands.length :=
    (parkAll_tables _ _).1.trans (clearBandCounts_length p)
  have hlen3 := (oneBandEach_return.foldl_tables (bandNumbers p.bm) p.allParked).1
  rw [bandResetSteps_eq]
  unfold bandNumbers at hlen3 ⊢
  rw [oneBandEach_release.foldl_range hb (by rw [hlen3, hlen2]; exact hb),
    oneBandEach_return.foldl_range hb (by rw [hlen2]; exact hb)]

theorem steady_bandResetSteps (hb : b < p.bm.bands.length) : (quiet (p.band b)).Steady (p.bandResetSteps.band b) := by
  have hparked := (parkAll_spec (p := p.clearBandCounts) hb (by rw [clearBandCounts_length]; exact hb)).1
  rw [band_clearBandCounts hb] at hparked
  rw [band_bandResetSteps hb]
  exact (hparked.trans (steady_returned _)).trans (steady_swept _)

theorem state_closedOff (H : Nat) (r : Band) : (closedOff H r).state = .closed := rfl

/-- What the reset steps make of a band, by its state and its list. -/
theorem bandAfterReset (hb : b < p.bm.bands.length) :
    BandAfterReset p.hours (p.Listed b) (p.band b) (p.bandResetSteps.band b) := by
  obtain ⟨-, -, hstays, hparked, hopened⟩ := parkAll_spec (p := p.clearBandCounts) hb
    (by rw [clearBandCounts_length]; exact hb)
  rw [band_clearBandCounts hb] at hstays hparked hopened
  have hy : p.bandResetSteps.band b = swept (returned (((List.range p.bm.bands.length).foldl Part.resetPark
    p.clearBandCounts).band b)) := band_bandResetSteps hb
  have hstate : ∀ st, (p.band b).state = st → (quiet (p.band b)).state = st := fun st h => h
  have hclosed : swept (returned (closedOff p.hours (quiet (p.band b)))) =
      released { quiet (p.band b) with state := .closed, closedHour := p.hours } :=
    (congrArg swept (returned_of_state (by rw [state_closedOff]; nofun))).trans (swept_of_closed (.inl rfl))
  rw [hy]
  unfold BandAfterReset
  dsimp only
  cases hst : (p.band b).state with
  | free =>
    intro hl
    rw [hstays (by rw [hstate _ hst]; nofun) hl, returned_of_state (by rw [hstate _ hst]; nofun),
      swept_of_state (by rw [hstate _ hst]; nofun)]
  | retired =>
    intro hl
    rw [hstays (by rw [hstate _ hst]; nofun) hl, returned_of_state (by rw [hstate _ hst]; nofun),
      swept_of_state (by rw [hstate _ hst]; nofun)]
  | closed =>
    intro hl
    rw [hstays (by rw [hstate _ hst]; nofun) hl, returned_of_state (by rw [hstate _ hst]; nofun),
      swept_of_closed (.inl (hstate _ hst))]
  | suspect =>
    intro hl
    rw [hstays (by rw [hstate _ hst]; nofun) hl, returned_of_state (by rw [hstate _ hst]; nofun),
      swept_of_closed (.inr (hstate _ hst))]
  | reclaiming =>
    intro hl
    rw [hstays (by rw [hstate _ hst]; nofun) hl, returned, if_pos (hstate _ hst)]
    refine swept_of_closed ?_
    dsimp only
    split
    · exact .inr rfl
    · exact .inl rfl
  | parked =>
    rcases hparked (hstate _ hst) with h | h
    · refine .inl ?_
      rw [h, returned_of_state (by rw [hstate _ hst]; nofun), swept_of_state (by rw [hstate _ hst]; nofun)]
    · exact .inr (by rw [h]; exact hclosed)
  | opened =>
    intro hl
    obtain ⟨hunwritten, hwritten⟩ := hopened (hstate _ hst) hl
    refine ⟨fun hwp => ?_, fun hwp => ?_⟩
    · rw [hunwritten hwp, returned_of_state (by rw [state_rewound]; split <;> nofun),
        swept_of_state (by rw [state_rewound]; split <;> nofun)]
    · rcases hwritten hwp with h | h
      · refine .inl ?_
        rw [h, returned_of_state (by nofun), swept_of_state (by nofun)]
      · exact .inr (by rw [h]; exact hclosed)

/-- What the reset steps of the Band Table can change. -/
theorem tableStep_bandResetSteps (p : Part) : TableStep p p.bandResetSteps :=
  TableStep.foldl (fun _ _ h => tableStep_resetRelease h) _ (TableStep.foldl (fun _ _ h => tableStep_resetReturn h) _
    (TableStep.foldl (fun _ _ h => tableStep_resetPark h) _ (tableStep_modBm (TableStep.refl p) rfl)))

/-- The Band Table after the reset steps is as the statements have it. -/
theorem bandsReset (p : Part) : BandsReset p.sv.header.hours p.bm p.bandResetSteps.bm := by
  obtain ⟨hlen, hlists⟩ := bandResetSteps_tables p
  have hband : ∀ {b : Nat} {y : Band}, p.bandResetSteps.bm.bands[b]? = some y →
      b < p.bm.bands.length ∧ p.bandResetSteps.band b = y := fun {b y} hy => by
    obtain ⟨hb, rfl⟩ := List.getElem?_eq_some_iff.1 hy
    exact ⟨hlen ▸ hb, List.getD_eq_getElem _ _ hb⟩
  refine ⟨?_, hlen, fun b x y hx hy => ?_, fun y hy => ?_, hlists.length, hlists.bound⟩
  · exact (tableStep_bandResetSteps p).geom
  · obtain ⟨hb, rfl⟩ := hband hy
    have hxb : p.band b = x := by
      obtain ⟨hb', rfl⟩ := List.getElem?_eq_some_iff.1 hx
      exact List.getD_eq_getElem _ _ hb'
    have hsteady := steady_bandResetSteps hb
    rw [hxb] at hsteady
    refine ⟨hsteady.valid, hsteady.errors, hsteady.flag, ?_⟩
    have hafter := bandAfterReset hb
    rw [hxb] at hafter
    exact hafter
  · obtain ⟨b, hb, rfl⟩ := List.getElem_of_mem hy
    obtain ⟨hb', hyb⟩ := hband (List.getElem?_eq_getElem hb)
    have hquiet := (steady_bandResetSteps hb').quiet rfl
    have hopened := (parkAll_spec (p := p.clearBandCounts) hb' (by rw [clearBandCounts_length]; exact hb')).2.1
    have hstate := swept_returned_state hopened
    have hfinal : p.bandResetSteps.band b = swept (returned (((List.range p.bm.bands.length).foldl Part.resetPark
      p.clearBandCounts).band b)) := band_bandResetSteps hb'
    rw [← hfinal, hyb] at hstate
    rw [hyb] at hquiet
    exact ⟨by rw [hquiet]; rfl, by rw [hquiet]; rfl, by rw [hquiet]; rfl, by rw [hquiet]; rfl, hstate⟩

end Sys2Proof.Machine
end

section
/-! SUPPORT. The reset steps of all stored tables (R41, R63, R100), and the flags that stand after them (R186). -/

namespace Sys2Proof.Machine

open Sys2Proof Sys2Proof.Spec

variable {p q : Part} {b : Nat}

/-! ### The Run List (R100) -/

theorem resetPark_sl (q : Part) (b : Nat) : (q.resetPark b).sl = q.sl := by
  by_cases ho : (q.band b).state = .opened
  · rcases resetPark_cases ho with ⟨-, h⟩ | ⟨-, h | h⟩ <;> rw [h]
    · exact Part.rewind_sl q b
    · rfl
    · obtain ⟨w, hw, heq⟩ := joinParked_cases q b Part.closeOnly
      rw [heq]
      rcases hw with ⟨-, rfl⟩ | ⟨o, rest, -, rfl⟩ <;> rfl
  · rw [resetPark_of_not_opened ho]

theorem resetReturn_sl (q : Part) (b : Nat) : (q.resetReturn b).sl = q.sl := by
  unfold Part.resetReturn Part.returnOnly
  split
  · split
    · exact Part.raise_sl _ _
    · rfl
  · rfl

theorem resetRelease_sl (q : Part) (b : Nat) : (q.resetRelease b).sl = q.sl := by
  unfold Part.resetRelease
  dsimp only
  split
  · exact Part.rewind_sl q b
  · rfl

theorem foldl_sl {f : Part → Nat → Part} (h : ∀ q b, (f q b).sl = q.sl) (l : List Nat) (q : Part) : (l.foldl f q).sl = q.sl :=
  List.foldlRecOn (motive := fun r => r.sl = q.sl) l f rfl fun r hr b _ => (h r b).trans hr

theorem bandResetSteps_sl (p : Part) : p.bandResetSteps.sl = p.sl :=
  (foldl_sl resetRelease_sl _ _).trans ((foldl_sl resetReturn_sl _ _).trans (foldl_sl resetPark_sl _ p.clearBandCounts))

theorem dropWhile_congr {α : Type} {f g : α → Bool} {l : List α} (h : ∀ x ∈ l, f x = g x) : l.dropWhile f = l.dropWhile g := by
  induction l with
  | nil => rfl
  | cons x l ih =>
    have hrest := ih fun y hy => h y (List.mem_cons_of_mem x hy)
    rw [List.dropWhile_cons, List.dropWhile_cons, h x List.mem_cons_self, hrest]

/-- The log without flags, pins and holds. -/
def logQuiet (l : LogUnit) : LogUnit :=
  { l with runs := l.runs.map fun r => { r with inFlight := false, pins := 0, hold := 0 }, held := false }

theorem logTrimmed_logQuiet (l : LogUnit) : logTrimmed (logQuiet l) = logAfterReset l := by
  have hrest : (logQuiet l).runs.dropWhile (fun r => decide (r.live = 0 ∧ r.inFlight = false ∧ r.pins = 0 ∧ r.hold = 0)) =
      (logQuiet l).runs.dropWhile fun r => decide (r.live = 0) := by
    refine dropWhile_congr fun r hr => ?_
    obtain ⟨r', -, rfl⟩ := List.mem_map.1 hr
    simp
  unfold logTrimmed
  rw [hrest]
  rfl

theorem logResetSteps_sl (p : Part) : p.logResetSteps.sl = logAfterReset p.sl :=
  (tailCheck_sl _).trans (logTrimmed_logQuiet p.sl)

/-! ### Flags that stand -/

theorem Part.Flagged.ne_zero {f : EventBits} (h : p.Flagged f) (hf : f ≠ 0) : p.sv.events &&& f ≠ 0 := by
  rw [show p.sv.events &&& f = f from h]
  exact hf

theorem flagged_of_events {f : EventBits} (h : p.Flagged f) (he : q.sv.events = p.sv.events) : q.Flagged f := by
  unfold Part.Flagged
  rw [he]
  exact h

theorem flagged_levelChecks {f : EventBits} (old : Part) (h : p.Flagged f) : (p.levelChecks old).Flagged f := by
  refine flagged_of_events (p := p.stageHighRaised old) ?_ (congrArg Supervisor.events (levelChecks_sv p old))
  unfold Part.stageHighRaised
  split
  · exact flagged_raise _ h
  · exact h

theorem flagged_logResetSteps {f : EventBits} (h : p.Flagged f) : p.logResetSteps.Flagged f := by
  unfold Part.logResetSteps Part.tailCheck
  dsimp only
  split
  · exact h
  · exact flagged_levelChecks _ h

theorem flagged_resetLevels {f : EventBits} (h : p.Flagged f) : p.resetLevels.Flagged f := by
  unfold Part.resetLevels
  split
  · exact flagged_raise (p := p) _ h
  · exact h

theorem flagged_freeLowNow {f : EventBits} (h : p.Flagged f) : p.freeLowNow.Flagged f := by
  unfold Part.freeLowNow
  split
  · exact flagged_raise _ h
  · exact h

theorem flagged_stageHigh (h : p.fillHigh = true) : p.resetLevels.Flagged evStageHigh := by
  unfold Part.resetLevels
  rw [if_pos h]
  exact flagged_raise_self p _

theorem flagged_mapHigh (h : Config.mapHigh ≤ p.entries) : p.mapHighNow.Flagged evMapHigh := by
  unfold Part.mapHighNow
  rw [if_pos h]
  exact flagged_raise_self p _

theorem flagged_freeLow (hm : p.sv.header.mark = true) (h : freeCount p.bm ≤ p.settings.eventFreeLow) :
    p.freeLowNow.Flagged evFreeLow := by
  unfold Part.freeLowNow
  rw [if_pos ⟨hm, h⟩]
  exact flagged_raise_self p _

theorem resetLevels_settings (p : Part) : p.resetLevels.sv.settings = p.sv.settings := by
  unfold Part.resetLevels
  split
  · exact (congrArg Supervisor.settings (Part.raise_sv p evStageHigh) :)
  · rfl

/-! ### What each block is after the steps -/

theorem resetLevels_bm (p : Part) : p.resetLevels.bm = p.bm := by
  unfold Part.resetLevels
  split
  · exact Part.raise_bm _ _
  · rfl

theorem resetLevels_sl (p : Part) : p.resetLevels.sl = p.sl := by
  unfold Part.resetLevels
  split
  · exact Part.raise_sl _ _
  · rfl

theorem resetLevels_favoured (p : Part) : p.resetLevels.mp.favoured = laneFor p.urgent := rfl

theorem mapHighNow_bm (p : Part) : p.mapHighNow.bm = p.bm := by
  unfold Part.mapHighNow
  split
  · exact Part.raise_bm _ _
  · rfl

theorem mapHighNow_sl (p : Part) : p.mapHighNow.sl = p.sl := by
  unfold Part.mapHighNow
  split
  · exact Part.raise_sl _ _
  · rfl

theorem freeLowNow_bm (p : Part) : p.freeLowNow.bm = p.bm := by
  unfold Part.freeLowNow
  split
  · exact Part.raise_bm _ _
  · rfl

theorem freeLowNow_sl (p : Part) : p.freeLowNow.sl = p.sl := by
  unfold Part.freeLowNow
  split
  · exact Part.raise_sl _ _
  · rfl

theorem freeLowNow_mp (p : Part) : p.freeLowNow.mp = p.mp := by
  unfold Part.freeLowNow
  split
  · exact Part.raise_mp _ _
  · rfl

/-- The part without remaps and reserves. -/
def Part.unreserved (p : Part) : Part := p.modTu fun t => { t with remaps := [], reserveTotal := 0 }

/-- The reset steps with the FREE count's level, of a part with a valid mark. -/
def Part.tablesReset (p : Part) : Part := p.tableResetSteps.freeLowNow

theorem tableResetSteps_of_mark (h : p.sv.header.mark = true) :
    p.tableResetSteps = (p.unreserved.bandResetSteps.mapHighNow.logResetSteps).resetLevels := if_pos h

/-- What the reset steps can change at all. -/
theorem tableStep_tablesReset (p : Part) : TableStep p.unreserved p.tablesReset :=
  tableStep_freeLowNow (tableStep_tableResetSteps p)

theorem header_tablesReset (p : Part) : ∃ d, p.tablesReset.sv.header = { p.sv.header with digest := d } := by
  obtain ⟨e, a, d, h⟩ := (tableStep_tablesReset p).sv
  exact ⟨d, congrArg Supervisor.header h⟩

theorem settings_tableResetSteps (p : Part) : p.tableResetSteps.sv.settings = p.sv.settings := by
  obtain ⟨e, a, d, h⟩ := (tableStep_tableResetSteps p).sv
  exact (congrArg Supervisor.settings h :)

theorem mark_tableResetSteps (p : Part) : p.tableResetSteps.sv.header.mark = p.sv.header.mark := by
  obtain ⟨e, a, d, h⟩ := (tableStep_tableResetSteps p).sv
  exact (congrArg (fun v : Supervisor => v.header.mark) h :)

theorem tablesReset_unmarked (h : p.sv.header.mark = false) : p.tablesReset = p.unreserved := by
  unfold Part.tablesReset
  rw [tableResetSteps_unformatted h]
  exact if_neg (by simp [h])

section
variable (h : p.sv.header.mark = true)
include h

theorem tablesReset_bm : p.tablesReset.bm = p.unreserved.bandResetSteps.bm := by
  unfold Part.tablesReset
  rw [freeLowNow_bm, tableResetSteps_of_mark h, resetLevels_bm, Part.logResetSteps, Part.tailCheck_bm]
  exact mapHighNow_bm _

theorem tablesReset_sl : p.tablesReset.sl = logAfterReset p.sl := by
  unfold Part.tablesReset
  rw [freeLowNow_sl, tableResetSteps_of_mark h, resetLevels_sl, logResetSteps_sl, mapHighNow_sl, bandResetSteps_sl]
  rfl

theorem bandsReset_tablesReset : BandsReset p.sv.header.hours p.bm p.tablesReset.bm := by
  rw [tablesReset_bm h]
  exact bandsReset p.unreserved

/-- The levels that the reset steps look at are those of the tables they leave. -/
theorem fillAt_tablesReset (m : Nat) : FillAt p.tablesReset m ↔
    FillAt p.unreserved.bandResetSteps.mapHighNow.logResetSteps m := by
  unfold Part.tablesReset FillAt
  rw [freeLowNow_bm, freeLowNow_sl, tableResetSteps_of_mark h, resetLevels_bm, resetLevels_sl]

theorem tablesReset_favoured : p.tablesReset.mp.favoured = if FillAt p.tablesReset 15 then .background else .foreground := by
  have hurgent : p.tablesReset.mp.favoured = laneFor p.unreserved.bandResetSteps.mapHighNow.logResetSteps.urgent := by
    unfold Part.tablesReset
    rw [freeLowNow_mp, tableResetSteps_of_mark h, resetLevels_favoured]
  rw [hurgent]
  unfold laneFor
  exact if_congr (urgent_eq_true.trans (fillAt_tablesReset h 15).symm) rfl rfl

theorem tablesReset_stageHigh (hf : FillAt p.tablesReset p.sv.settings.highMark) : p.tablesReset.Flagged evStageHigh := by
  have hsettings : p.unreserved.bandResetSteps.mapHighNow.logResetSteps.sv.settings = p.sv.settings := by
    rw [← settings_tableResetSteps p, tableResetSteps_of_mark h, resetLevels_settings]
  have hhigh : p.unreserved.bandResetSteps.mapHighNow.logResetSteps.fillHigh = true := by
    rw [fillHigh_eq_true, hsettings]
    exact (fillAt_tablesReset h _).1 hf
  unfold Part.tablesReset
  rw [tableResetSteps_of_mark h]
  exact flagged_freeLowNow (flagged_stageHigh hhigh)

theorem tablesReset_mapHigh (hm : 245760 ≤ p.tu.extents.length) : p.tablesReset.Flagged evMapHigh := by
  have htu : p.unreserved.bandResetSteps.tu = p.unreserved.tu := (tableStep_bandResetSteps p.unreserved).tu
  have hentries : Config.mapHigh ≤ p.unreserved.bandResetSteps.entries := by
    unfold Part.entries
    rw [htu]
    exact hm
  unfold Part.tablesReset
  rw [tableResetSteps_of_mark h]
  exact flagged_freeLowNow (flagged_resetLevels (flagged_logResetSteps (flagged_mapHigh hentries)))

theorem tablesReset_freeLow (hf : (p.tablesReset.bm.bands.countP fun b => decide (b.state = .free)) ≤
    p.sv.settings.eventFreeLow) : p.tablesReset.Flagged evFreeLow := by
  unfold Part.tablesReset at hf ⊢
  rw [freeLowNow_bm] at hf
  refine flagged_freeLow ((mark_tableResetSteps p).trans h) ?_
  unfold Part.settings
  rw [settings_tableResetSteps]
  exact hf

end

end Sys2Proof.Machine
end

section
/-! SUPPORT. The cold start (R175, R178, R185): the part that the stored contents make, and the steps it takes. -/

namespace Sys2Proof.Machine

open Sys2Proof Sys2Proof.Spec

variable {s : State} {p q r t : Part}

/-! ### The contents that a cold start finds -/

theorem found_of_no_updates (h : p.store.updates = []) : p.found = p.image := by
  unfold Part.found
  rw [h]
  rfl

theorem foundMarked_of_settled (h : p.store.updates = []) (hf : p.sv.format = none) : p.foundMarked = p.image := by
  unfold Part.foundMarked
  rw [found_of_no_updates h, hf]
  exact congrArg (fun m => ({ p.image with header := { p.image.header with mark := m } } : Image)) (Bool.and_true _)

/-- The part with the stored contents, before the steps on the tables. -/
def Part.coldPart (p : Part) : Part :=
  let q := (Part.ofImage p.image (p.fresh + 1)).modStore fun x => { x with next := p.store.next }
  { q with sv := { q.sv with mask := if p.sv.header.mark then p.sv.mask else 0 } }

theorem coldPart_eq (p : Part) :
    let q := (Part.ofImage p.image (p.fresh + 1)).modStore fun x => { x with next := p.store.next }
    (if p.image.header.mark then q else q.modSv fun v => { v with mask := 0 }) = p.coldPart := by
  unfold Part.coldPart
  dsimp only
  cases h : p.sv.header.mark with
  | true => exact if_pos h
  | false => exact if_neg (by rw [show p.image.header.mark = false from h]; nofun)

theorem coldStart_eq (p : Part) : p.coldStart p.image = p.coldPart.tablesReset.modDevice p.coldPart.restState := by
  rw [← coldPart_eq]
  rfl

/-! ### The part when the cold start has been taken -/

/-- A part that has started: what the steps on the tables left of it, in its device state. -/
structure StartedFrom (r t : Part) (d : DeviceState) : Prop where
  bm : t.bm = r.bm
  tu : t.tu = r.tu
  sl : t.sl = r.sl
  su : t.su = r.su
  re : t.re = r.re
  sc : t.sc = r.sc
  mp : t.mp = r.mp
  tx : t.tx = r.tx
  sv : t.sv = { r.sv with device := d }
  li : ∃ x, t.li = { r.li with sending := x }

/-- A part that has nothing running has nothing to stop. -/
structure Part.Unstarted (p : Part) : Prop where
  su : p.su = List.replicate 16 Stream.blank
  orders : p.mp.orders = []
  idle : p.mp.idle = .stopped
  digest : p.sv.digestTimer = .stopped

theorem startedFrom_startUpdate {d : DeviceState} (h : StartedFrom r t d) (m : Image) : StartedFrom r (t.startUpdate m) d := by
  unfold Part.startUpdate
  dsimp only
  split
  · exact h
  · exact ⟨h.bm, h.tu, h.sl, h.su, h.re, h.sc, h.mp, h.tx, h.sv, h.li⟩

theorem startedFrom_silence {d : DeviceState} (h : StartedFrom r t d) (hu : r.Unstarted) : StartedFrom r t.silence .halted := by
  have hsu : t.silence.su = r.su := by
    refine (congrArg (fun l : List Stream => l.map fun x => { x with idle := .stopped }) (h.su.trans hu.su)).trans ?_
    exact hu.su.symm
  have hmp : t.silence.mp = r.mp := by
    have hstop : t.silence.mp = { t.mp with
        idle := .stopped, orders := t.mp.orders.map fun o => { o with timer := .stopped } } := rfl
    rw [hstop, h.mp, hu.orders, ← hu.idle]
    exact congrArg (fun l => ({ r.mp with orders := l } : MediaPort)) hu.orders.symm
  have hsv : t.silence.sv = { r.sv with device := .halted } := by
    have hstop : t.silence.sv = { t.sv with digestTimer := .stopped, device := .halted } := rfl
    rw [hstop, h.sv, ← hu.digest]
  obtain ⟨x, hli⟩ := h.li
  refine ⟨h.bm, h.tu, h.sl, hsu, h.re, h.sc, hmp, h.tx, hsv, false, ?_⟩
  have hstop : t.silence.li = { t.li with sending := false } := rfl
  rw [hstop, hli]

theorem unstarted_tablesReset (p : Part) : p.coldPart.tablesReset.Unstarted := by
  have hstep := tableStep_tablesReset p.coldPart
  obtain ⟨f, n, hmp, -⟩ := hstep.mp
  obtain ⟨e, a, d, hsv⟩ := hstep.sv
  refine ⟨hstep.su, ?_, ?_, ?_⟩
  · rw [hmp]
    rfl
  · rw [hmp]
    rfl
  · rw [hsv]
    rfl

theorem restState_coldPart (p : Part) :
    p.coldPart.restState = if p.sv.header.mark then DeviceState.stopped else .unformatted := rfl

/-- The part when the cold start's update has begun. -/
def Part.begun (p : Part) : Part :=
  let q := (p.coldStart p.image).noNotes.beginSending
  if p.image.header.mark then q.startUpdate p.image else q

theorem started_eq (h : p.store.updates = []) (hf : p.sv.format = none) (pwrfail : Bool) :
    p.started pwrfail = if pwrfail then p.begun.silence else p.begun := by
  unfold Part.started
  rw [foundMarked_of_settled h hf]
  rfl

theorem startedFrom_beginSending (r : Part) (d : DeviceState) : StartedFrom r ((r.modDevice d).noNotes.beginSending) d :=
  ⟨rfl, rfl, rfl, rfl, rfl, rfl, rfl, rfl, rfl, _, rfl⟩

theorem startedFrom_begun (p : Part) : StartedFrom p.coldPart.tablesReset p.begun p.coldPart.restState := by
  unfold Part.begun
  rw [coldStart_eq]
  dsimp only
  split
  · exact startedFrom_startUpdate (startedFrom_beginSending _ _) _
  · exact startedFrom_beginSending _ _

/-- What a cold start makes of a part with nothing left to write. -/
theorem startedFrom_started (h : p.store.updates = []) (hf : p.sv.format = none) (pwrfail : Bool) :
    StartedFrom p.coldPart.tablesReset (p.started pwrfail) (if pwrfail then .halted
      else if p.sv.header.mark then .stopped else .unformatted) := by
  have hbegun := startedFrom_begun p
  rw [started_eq h hf]
  cases pwrfail with
  | true => exact startedFrom_silence hbegun (unstarted_tablesReset p)
  | false =>
    rw [restState_coldPart] at hbegun
    exact hbegun

/-- ALERT stands at the level of the flags. -/
theorem alert_tablesReset (p : Part) : p.coldPart.tablesReset.AlertOk := by
  have hkept : (p.coldStart p.image).Kept := kept_coldStart
  rw [coldStart_eq] at hkept
  exact hkept.alert

/-! ### The stored tables -/

theorem bandsReset_of_stored {H : Nat} {m n : BandManager}
    (h : BandsReset H { m with bands := m.bands.map Band.stored } n) : BandsReset H m n := by
  refine ⟨h.geom, h.bands.trans (List.length_map _), fun b x y hx hy => ?_, h.rest, h.lists⟩
  have hstored : (m.bands.map Band.stored)[b]? = some (quiet x) := by
    rw [List.getElem?_map, hx]
    rfl
  exact h.each b (quiet x) y hstored hy

theorem logAfterReset_stored (l : LogUnit) : logAfterReset (logQuiet l) = logAfterReset l := by
  have hruns : (logQuiet l).runs.map (fun r : Run => { r with inFlight := false, pins := 0, hold := 0 }) = (logQuiet l).runs := by
    unfold logQuiet
    rw [List.map_map]
    rfl
  unfold logAfterReset
  rw [hruns]
  rfl

theorem coldPart_sl (p : Part) : p.coldPart.sl = logQuiet p.sl := rfl

theorem fillAt_congr {m : Nat} (hb : q.bm = p.bm) (hs : q.sl = p.sl) : FillAt q m ↔ FillAt p m := by
  unfold FillAt
  rw [hb, hs]

theorem flags_ne_zero : evStageHigh ≠ 0 ∧ evMapHigh ≠ 0 ∧ evFreeLow ≠ 0 := by decide

/-- Settles O5. -/
theorem coldStartKeepsTheStoreAndClearsTheRest : Obligations.ColdStartKeepsTheStoreAndClearsTheRest := by
  intro s straps hu hf
  have ht := startedFrom_started hu hf s.pins.pwrfail
  have hstep := tableStep_tablesReset s.part.coldPart
  have halert := alert_tablesReset s.part
  have hunstarted := unstarted_tablesReset s.part
  have hunmarked := tablesReset_unmarked (p := s.part.coldPart)
  have hbands := bandsReset_tablesReset (p := s.part.coldPart)
  have hlog := tablesReset_sl (p := s.part.coldPart)
  have hfavoured := tablesReset_favoured (p := s.part.coldPart)
  have hstage := tablesReset_stageHigh (p := s.part.coldPart)
  have hmap := tablesReset_mapHigh (p := s.part.coldPart)
  have hfree := tablesReset_freeLow (p := s.part.coldPart)
  refine ⟨_, rfl, rfl, rfl, rfl, ?_⟩
  dsimp only
  generalize s.part.coldPart.tablesReset = r at *
  generalize s.part.started s.pins.pwrfail = t at *
  obtain ⟨e, a, d, hsv⟩ := hstep.sv
  obtain ⟨f, n, hmp, hn⟩ := hstep.mp
  obtain ⟨l, g, hli, hg⟩ := hstep.li
  obtain ⟨x, htli⟩ := ht.li
  have hdevice := congrArg Supervisor.device ht.sv
  generalize hdev : (if s.pins.pwrfail = true then DeviceState.halted
    else if s.part.sv.header.mark = true then .stopped else .unformatted) = dev at *
  have htsv := ht.sv.trans (congrArg (fun v : Supervisor => { v with device := dev }) hsv)
  have htmp := ht.mp.trans hmp
  have hli' := htli.trans (congrArg (fun v : LinkIface => { v with sending := x }) hli)
  have htu := ht.tu.trans hstep.tu
  have hre := ht.re.trans hstep.re
  have hevents : t.sv.events = r.sv.events := (congrArg Supervisor.events ht.sv :)
  have hgathered : g = 0 := hg rfl
  have hcount : n = 0 := hn.elim id id
  have hfill : ∀ m, FillAt t m ↔ FillAt r m := fun m => fillAt_congr ht.bm ht.sl
  refine ⟨hdevice, (congrArg (fun v : Supervisor => v.header.mark) htsv :),
    (congrArg (fun v : Supervisor => v.header.hours) htsv :), (congrArg BandManager.geom ht.bm).trans hstep.geom,
    (congrArg TransUnit.extents htu :), (congrArg TransUnit.regions htu :), (congrArg RelocEngine.setups hre :),
    (congrArg Supervisor.classes htsv :), (congrArg Supervisor.settings htsv :), ht.sc.trans hstep.sc,
    (congrArg Supervisor.mask htsv :), (congrArg TransUnit.remaps htu :), (congrArg TransUnit.reserveTotal htu :),
    ht.su.trans hstep.su, (congrArg RelocEngine.chans hre :), ht.tx.trans hstep.tx, (congrArg MediaPort.orders htmp :),
    (congrArg MediaPort.writeWait htmp :), (congrArg MediaPort.waiting htmp :), (congrArg MediaPort.ready htmp :),
    (congrArg MediaPort.runCount htmp).trans hcount, (congrArg MediaPort.lastChan htmp :), (congrArg MediaPort.stray htmp :),
    (congrArg MediaPort.linkErrors htmp :), (congrArg LinkIface.reserved hli' :), (congrArg LinkIface.frameErrors hli' :),
    (congrArg LinkIface.unanswered hli' :), (congrArg LinkIface.gathered hli').trans hgathered,
    (congrArg Supervisor.tallies htsv :), (congrArg Supervisor.hourAcc htsv :), (congrArg Supervisor.reset htsv :),
    (congrArg Supervisor.mount htsv :), (congrArg Supervisor.quiesce htsv :), (congrArg Supervisor.restore htsv :), ?_,
    fun hmark => ?_, (congrArg Supervisor.format htsv :), (congrArg Supervisor.digestTimer htsv :),
    (congrArg MediaPort.idle htmp :), (congrArg MediaPort.tx htmp :), (congrArg MediaPort.told htmp :),
    (congrArg MediaPort.awaitAll htmp :), (congrArg MediaPort.rx htmp :), (congrArg LinkIface.rx hli' :), ?_,
    fun hmark => ⟨?_, ?_, fun hf => ?_, fun hm => ?_, fun hf => ?_⟩, fun hmark => ?_⟩
  · rw [ht.sv]
    exact halert
  · have hr := hunmarked hmark
    rw [hevents, htli, hr]
    exact ⟨rfl, rfl⟩
  · rw [ht.mp]
    cases hmark : s.part.sv.header.mark with
    | true =>
      rw [hfavoured hmark]
      exact if_congr (by rw [hfill]; simp) rfl rfl
    | false =>
      rw [hunmarked hmark, if_neg (by simp)]
      rfl
  · rw [ht.bm]
    exact bandsReset_of_stored (hbands hmark)
  · rw [ht.sl, hlog hmark]
    exact logAfterReset_stored s.part.sl
  · rw [hevents]
    exact (hstage hmark ((hfill _).1 hf)).ne_zero flags_ne_zero.1
  · rw [hevents]
    exact (hmap hmark hm).ne_zero flags_ne_zero.2.1
  · rw [hevents]
    exact (hfree hmark (ht.bm ▸ hf)).ne_zero flags_ne_zero.2.2
  · have hr := hunmarked hmark
    rw [ht.bm, ht.sl, hr]
    exact ⟨rfl, rfl⟩

end Sys2Proof.Machine
end

section
/-! SUPPORT. The RESET request's completion (R148, R175): the steps on the tables, and what is left in the transmit
queue. -/

namespace Sys2Proof.Machine

open Sys2Proof Sys2Proof.Spec

variable {s : State} {p q r t : Part} {b : Nat} {l : LinkIface} {m : Message}

/-! ### The message being sent -/

/-- The transmitter goes on with the same message. -/
structure LinkIface.SameHead (l k : LinkIface) : Prop where
  sending : k.sending = l.sending
  reserved : k.reserved = l.reserved
  head : l.sending = true → l.queue ≠ [] → k.queue.head? = l.queue.head?

theorem LinkIface.SameHead.refl (l : LinkIface) : l.SameHead l := ⟨rfl, rfl, fun _ _ => rfl⟩

theorem LinkIface.SameHead.trans {k n : LinkIface} (h : l.SameHead k) (h' : k.SameHead n) : l.SameHead n := by
  refine ⟨h'.sending.trans h.sending, h'.reserved.trans h.reserved, fun hs hq => ?_⟩
  have hhead := h.head hs hq
  refine (h'.head (h.sending.trans hs) fun hk => hq ?_).trans hhead
  rw [hk] at hhead
  exact List.head?_eq_none_iff.1 hhead.symm

/-- A NOTICE is queued behind the message being sent, or joins one behind it. -/
theorem sameHead_announce (l : LinkIface) (f : EventBits) : l.SameHead (l.announce f) := by
  unfold LinkIface.announce
  cases hq : l.queue with
  | nil => exact ⟨rfl, rfl, fun _ h => absurd hq h⟩
  | cons m rest =>
    dsimp only
    split
    · exact ⟨rfl, rfl, fun _ _ => by simp [hq]⟩
    · next hm =>
      split
      · refine ⟨rfl, rfl, fun hs _ => ?_⟩
        have hnot : m.isNotice = false := by simpa [hs] using hm
        simp [hnot, hq]
      · refine ⟨rfl, rfl, fun _ _ => ?_⟩
        simp [LinkIface.put, hq]

theorem mem_announce (h : m ∈ l.queue) (hm : m.isNotice = false) (f : EventBits) : m ∈ (l.announce f).queue := by
  unfold LinkIface.announce
  split
  · next hq => simp [hq] at h
  · next x rest hq =>
    split
    · exact h
    · split
      · refine List.mem_map.2 ⟨m, hq ▸ h, ?_⟩
        rw [if_neg (by simp [hm])]
      · exact List.mem_append_left _ h

theorem sameHead_raise (h : l.SameHead q.li) (f : EventBits) : l.SameHead (q.raise f).li := by
  unfold Part.raise Part.announce
  dsimp only
  split
  · exact h
  · exact h.trans (sameHead_announce _ _)

theorem sameHead_reportFree (h : l.SameHead q.li) (n : Nat) : l.SameHead (q.reportFree n).li := by
  unfold Part.reportFree
  dsimp only
  split
  · exact h
  · split
    · exact sameHead_raise h _
    · exact h

theorem sameHead_rewind (h : l.SameHead q.li) (b : Nat) : l.SameHead (q.rewind b).li := by
  unfold Part.rewind
  dsimp only
  split
  · refine sameHead_raise ?_ _
    rw [Part.retireTracks_li]
    exact h
  · exact sameHead_reportFree (by exact h) _

theorem sameHead_resetPark (h : l.SameHead q.li) (b : Nat) : l.SameHead (q.resetPark b).li := by
  by_cases ho : (q.band b).state = .opened
  · rcases resetPark_cases ho with ⟨-, hq⟩ | ⟨-, hq | hq⟩ <;> rw [hq]
    · exact sameHead_rewind h b
    · exact h
    · obtain ⟨w, hw, heq⟩ := joinParked_cases q b Part.closeOnly
      rw [heq]
      rcases hw with ⟨-, rfl⟩ | ⟨o, rest, -, rfl⟩
      · exact h
      · exact h
  · rw [resetPark_of_not_opened ho]
    exact h

theorem sameHead_resetReturn (h : l.SameHead q.li) (b : Nat) : l.SameHead (q.resetReturn b).li := by
  unfold Part.resetReturn Part.returnOnly
  split
  · split
    · exact sameHead_raise (by exact h) _
    · exact h
  · exact h

theorem sameHead_resetRelease (h : l.SameHead q.li) (b : Nat) : l.SameHead (q.resetRelease b).li := by
  unfold Part.resetRelease
  dsimp only
  split
  · exact sameHead_rewind h b
  · exact h

theorem sameHead_foldl {f : Part → Nat → Part} (hf : ∀ {q : Part}, l.SameHead q.li → ∀ b, l.SameHead (f q b).li) (ns : List Nat)
    (h : l.SameHead q.li) : l.SameHead (ns.foldl f q).li :=
  List.foldlRecOn (motive := fun r => l.SameHead r.li) ns f h fun _ hr b _ => hf hr b

theorem sameHead_bandResetSteps (p : Part) : p.li.SameHead p.bandResetSteps.li :=
  sameHead_foldl (fun h b => sameHead_resetRelease h b) _ (sameHead_foldl (fun h b => sameHead_resetReturn h b) _
    (sameHead_foldl (fun h b => sameHead_resetPark h b) _ (.refl _)))

theorem sameHead_levelChecks (h : l.SameHead q.li) (old : Part) : l.SameHead (q.levelChecks old).li := by
  rw [levelChecks_li]
  unfold Part.stageHighRaised
  split
  · exact sameHead_raise h _
  · exact h

theorem sameHead_logResetSteps (h : l.SameHead q.li) : l.SameHead q.logResetSteps.li := by
  unfold Part.logResetSteps Part.tailCheck
  dsimp only
  split
  · exact h
  · exact sameHead_levelChecks (by exact h) _

theorem sameHead_tablesReset (p : Part) : p.li.SameHead p.tablesReset.li := by
  cases hmark : p.sv.header.mark with
  | false =>
    rw [tablesReset_unmarked hmark]
    exact .refl _
  | true =>
    have hmap : p.li.SameHead p.unreserved.bandResetSteps.mapHighNow.li := by
      unfold Part.mapHighNow
      split
      · exact sameHead_raise (sameHead_bandResetSteps p.unreserved) _
      · exact sameHead_bandResetSteps p.unreserved
    have hlevels : ∀ {q : Part}, p.li.SameHead q.li → p.li.SameHead q.resetLevels.li := fun {q} h => by
      unfold Part.resetLevels
      split
      · exact sameHead_raise h _
      · exact h
    have hfree : ∀ {q : Part}, p.li.SameHead q.li → p.li.SameHead q.freeLowNow.li := fun {q} h => by
      unfold Part.freeLowNow
      split
      · exact sameHead_raise h _
      · exact h
    unfold Part.tablesReset
    rw [tableResetSteps_of_mark hmark]
    exact hfree (hlevels (sameHead_logResetSteps hmap))

/-! ### The completion -/

/-- The REPLY of a reset that has been carried out. -/
def resetReply (w : ResetWork) : Message := { tag := w.tag, place := .ordinary, payload := .reply .ok .reset [item 2 w.count] }

/-- The part of a reset that is complete, from the tables that its steps left, before the NOTICE. -/
def Part.resetSettled (r : Part) (w : ResetWork) : Part :=
  { r with
    su := List.replicate 16 Stream.blank
    re := { r.re with chans := List.replicate 4 Chan.blank }
    mp := { r.mp with
      orders := [], waiting := [], told := [], writeWait := [], favoured := laneFor (r.sv.header.mark && r.urgent)
      runCount := 0, lastChan := 3, idle := if r.mp.ready then Timer.start r.settings.idleDelay else .stopped
      awaitAll := false }
    tx := { queue := [], txns := [] }
    li := { r.li with queue := (if r.li.sending then r.li.queue.take 1 else []) ++ [resetReply w], reserved := 0 }
    sv := { r.sv with reset := none, mount := none, quiesce := none, device := r.restState, digestTimer := .stopped }
    store := { r.store with
      updates := r.store.updates.map fun u => { u with follows := u.follows.filter Follow.outlivesReset } } }

/-- The part when the NOTICE of what is pending has been queued too. -/
def Part.resetDone (r : Part) (w : ResetWork) : Part :=
  { (r.resetSettled w).announce ((r.resetSettled w).sv.events &&& ~~~(r.resetSettled w).sv.mask) with notes := [] }

/-- The blocks of a completed reset, before its requests and messages are dropped. -/
def Part.resetCleared (r : Part) : Part := (r.dropFollows.modSu fun _ => List.replicate 16 Stream.blank).clearChannels.mediaCleared

/-- What a completed reset makes of the blocks, but for the requests and the messages. -/
theorem resetCleared_eq (r : Part) : r.resetCleared = { r with
    su := List.replicate 16 Stream.blank
    re := { r.re with chans := List.replicate 4 Chan.blank }
    mp := { r.mp with
      orders := [], waiting := [], told := [], writeWait := [], favoured := laneFor (r.sv.header.mark && r.urgent)
      runCount := 0, lastChan := 3, idle := if r.mp.ready then Timer.start r.settings.idleDelay else .stopped
      awaitAll := false }
    store := { r.store with
      updates := r.store.updates.map fun u => { u with follows := u.follows.filter Follow.outlivesReset } } } := by
  have hurgent : ((r.dropFollows.modSu fun _ => List.replicate 16 Stream.blank).clearChannels).urgent = r.urgent :=
    congrArg₂ (fun (m : BandManager) (l : LogUnit) =>
      ({ r with bm := m, sl := l } : Part).urgent) (rfl : r.bm = r.bm) (rfl : r.sl = r.sl)
  unfold Part.resetCleared Part.mediaCleared
  rw [hurgent]
  rfl

/-- The requests and messages dropped, the activities forgotten, and the REPLY queued. -/
def Part.requestsDropped (x : Part) (w : ResetWork) : Part :=
  (((x.modTx fun _ => { queue := [], txns := [] }).modLi LinkIface.discardWaiting).modSv fun v =>
    { v with reset := none, mount := none, quiesce := none, device := x.restState, digestTimer := .stopped }).say
      (replyMsg w.tag .ok .reset [item 2 w.count])

theorem requestsDropped_eq (x : Part) (w : ResetWork) : x.requestsDropped w = { x with
    tx := { queue := [], txns := [] }
    li := { x.li with queue := (if x.li.sending then x.li.queue.take 1 else []) ++ [resetReply w], reserved := 0 }
    sv := { x.sv with reset := none, mount := none, quiesce := none, device := x.restState, digestTimer := .stopped } } :=
  rfl

theorem resetSettled_eq (r : Part) (w : ResetWork) : r.resetCleared.requestsDropped w = r.resetSettled w := by
  rw [requestsDropped_eq, resetCleared_eq]
  exact Eq.refl (r.resetSettled w)

theorem completeReset_eq_dropped (p : Part) (w : ResetWork) :
    p.completeReset w = { (p.tablesReset.resetCleared.requestsDropped w).announce
      ((p.tablesReset.resetCleared.requestsDropped w).sv.events &&&
        ~~~(p.tablesReset.resetCleared.requestsDropped w).sv.mask) with notes := [] } := rfl

theorem completeReset_eq (p : Part) (w : ResetWork) : p.completeReset w = p.tablesReset.resetDone w := by
  unfold Part.resetDone
  rw [completeReset_eq_dropped, resetSettled_eq]

end Sys2Proof.Machine
end

section
/-! SUPPORT. CANCELLED ALL (R146, R148), and the part after a completed reset as the statements read it. -/

namespace Sys2Proof.Machine

open Sys2Proof Sys2Proof.Spec

variable {s : State} {p q r t : Part} {w : ResetWork} {m : Message} {l : LinkIface} {f : EventBits}

/-! ### The state after an event that has made no report -/

/-- A part after the Map Store update of an event has begun. -/
structure WrittenFrom (q t : Part) : Prop where
  bm : t.bm = q.bm
  tu : t.tu = q.tu
  sl : t.sl = q.sl
  su : t.su = q.su
  re : t.re = q.re
  sc : t.sc = q.sc
  mp : t.mp = q.mp
  tx : t.tx = q.tx
  sv : t.sv = q.sv
  li : ∃ x, t.li = { q.li with sending := x }
  updates : ∀ u ∈ t.store.updates, u ∈ q.store.updates ∨ u.follows = q.store.follows

theorem writtenFrom_startUpdate (h : WrittenFrom q t) (hf : t.store.follows = q.store.follows) (m : Image) :
    WrittenFrom q (t.startUpdate m) := by
  unfold Part.startUpdate
  dsimp only
  split
  · exact h
  · refine ⟨h.bm, h.tu, h.sl, h.su, h.re, h.sc, h.mp, h.tx, h.sv, h.li, fun u hu => ?_⟩
    rcases List.mem_append.1 hu with hu | hu
    · exact h.updates u hu
    · rw [List.mem_singleton.1 hu]
      exact .inr hf

theorem writtenFrom_commit (s : State) (q : Part) : WrittenFrom q (commit s q).part :=
  writtenFrom_startUpdate (q := q) (t := q.beginSending) ⟨rfl, rfl, rfl, rfl, rfl, rfl, rfl, rfl, rfl, ⟨_, rfl⟩, fun _ h => .inl h⟩ rfl _

/-! ### The NOTICE after the REPLY (R167) -/

/-- The link after what is pending has been handed to it. -/
def LinkIface.shown (l : LinkIface) (f : EventBits) : LinkIface := if f = 0 then l else l.announce f

theorem announce_li (p : Part) (f : EventBits) : (p.announce f).li = p.li.shown f := by
  unfold Part.announce LinkIface.shown
  split <;> rfl

theorem shown_counts (l : LinkIface) (f : EventBits) : (l.shown f).reserved = l.reserved ∧
    (l.shown f).frameErrors = l.frameErrors ∧ (l.shown f).unanswered = l.unanswered := by
  unfold LinkIface.shown
  split
  · exact ⟨rfl, rfl, rfl⟩
  · obtain ⟨x, g, h, -⟩ := announce_queue l f
    rw [h]
    exact ⟨rfl, rfl, rfl⟩

theorem mem_shown (h : m ∈ l.queue) (hm : m.isNotice = false) (f : EventBits) : m ∈ (l.shown f).queue := by
  unfold LinkIface.shown
  split
  · exact h
  · exact mem_announce h hm f

/-- Behind a REPLY that waits, what is pending is queued in a NOTICE, but where a NOTICE is being sent. -/
theorem shown_queue {kept : List Message} (hq : l.queue = kept ++ [m]) (hm : m.place ≠ .notice)
    (hkept : kept = [] ∨ l.sending = true ∧ ∃ x, kept = [x]) : (l.shown f).queue = l.queue ++
      (if f = 0 ∨ ∃ x ∈ kept, x.place = .notice then []
        else [{ tag := 0, place := .notice, payload := .notice f }]) := by
  unfold LinkIface.shown
  by_cases hf : f = 0
  · rw [if_pos hf, if_pos (.inl hf), List.append_nil]
  · rw [if_neg hf]
    unfold LinkIface.announce
    rw [hq]
    have hbits : ¬f = 0#12 := hf
    rcases hkept with rfl | ⟨hs, x, rfl⟩
    · simp [Message.isNotice, hm, hbits, LinkIface.put, hq]
    · by_cases hx : x.place = .notice
      · simp [Message.isNotice, hx, hs]
      · simp [Message.isNotice, hm, hx, hbits, LinkIface.put, hq]

/-! ### What a completed reset leaves -/

theorem resetDone_blocks (r : Part) (w : ResetWork) : (r.resetDone w).bm = r.bm ∧ (r.resetDone w).tu = r.tu ∧
    (r.resetDone w).sl = r.sl ∧ (r.resetDone w).sc = r.sc ∧ (r.resetDone w).su = (r.resetSettled w).su ∧
    (r.resetDone w).re = (r.resetSettled w).re ∧ (r.resetDone w).mp = (r.resetSettled w).mp ∧
    (r.resetDone w).tx = (r.resetSettled w).tx ∧ (r.resetDone w).sv = (r.resetSettled w).sv ∧
    (r.resetDone w).store = (r.resetSettled w).store :=
  ⟨Part.announce_bm _ _, Part.announce_tu _ _, Part.announce_sl _ _, Part.announce_sc _ _, Part.announce_su _ _,
    Part.announce_re _ _, Part.announce_mp _ _, Part.announce_tx _ _, Part.announce_sv _ _, Part.announce_store _ _⟩

theorem resetDone_li (r : Part) (w : ResetWork) : (r.resetDone w).li =
    (r.resetSettled w).li.shown ((r.resetSettled w).sv.events &&& ~~~(r.resetSettled w).sv.mask) := announce_li _ _

theorem outlives_eq_true {x : Follow} (h : x.outlivesReset = true) : ∃ l b, x = .checks l b := by
  cases x with
  | checks l b => exact ⟨l, b, rfl⟩
  | _ => nomatch h

theorem take_one_of_head {k n : LinkIface} (h : k.SameHead n) (hq : k.sending = true → k.queue ≠ []) :
    (if n.sending then n.queue.take 1 else []) = if k.sending then k.queue.take 1 else [] := by
  rw [h.sending]
  cases hs : k.sending with
  | false => rfl
  | true =>
    rw [if_pos rfl, if_pos rfl, List.take_one, List.take_one, h.head hs (hq hs)]

/-- At most the message being sent is kept. -/
theorem kept_cases (l : LinkIface) : (if l.sending then l.queue.take 1 else []) = [] ∨
    l.sending = true ∧ ∃ x, (if l.sending then l.queue.take 1 else []) = [x] := by
  cases hs : l.sending with
  | false => exact .inl rfl
  | true =>
    cases hq : l.queue with
    | nil => exact .inl rfl
    | cons x rest => exact .inr ⟨rfl, x, rfl⟩

/-! ### CANCELLED ALL -/

/-- The part when CANCELLED ALL has been taken with a reset in progress. -/
def Part.allTaken (p : Part) (w : ResetWork) : Part :=
  { p with
    mp := { p.mp with orders := [], awaitAll := false }
    sv := { p.sv with reset := some { tag := w.tag, count := w.count, allTaken := true } } }

theorem cancelledAll_of_stray (h : p.mp.awaitAll = false) : p.cancelledAll = p.strayReport := if_neg (by simp [h])

theorem cancelledAll_of_reset (h : p.mp.awaitAll = true) (hw : p.sv.reset = some w) :
    p.cancelledAll = (p.allTaken w).tryCompleteReset := by
  refine (if_pos h).trans (congrArg Part.tryCompleteReset ?_)
  exact congrArg (fun x : Option ResetWork => ({ p with
    mp := { p.mp with orders := [], awaitAll := false }
    sv := { p.sv with reset := x.map fun w => { w with allTaken := true } } } : Part)) hw

theorem tryCompleteReset_of_busy (h : p.sv.format ≠ none ∨ p.sv.restore ≠ none) :
    (p.allTaken w).tryCompleteReset = p.allTaken w := by
  have hbusy : (p.allTaken w).tablesBusy = true := by
    unfold Part.tablesBusy
    rw [Bool.or_eq_true]
    exact h.imp Option.isSome_iff_ne_none.2 Option.isSome_iff_ne_none.2
  exact if_neg (by simp [hbusy])

theorem tryCompleteReset_of_free (hf : p.sv.format = none) (hr : p.sv.restore = none) : (p.allTaken w).tryCompleteReset =
    (p.allTaken w).tablesReset.resetDone { tag := w.tag, count := w.count, allTaken := true } := by
  have hfree : (p.allTaken w).tablesBusy = false := by
    unfold Part.tablesBusy
    rw [show (p.allTaken w).sv.format = none from hf, show (p.allTaken w).sv.restore = none from hr]
    rfl
  rw [← completeReset_eq]
  exact if_pos ⟨rfl, by simp [hfree]⟩

/-- Settles O30. -/
theorem cancelledAllCompletesTheReset : Obligations.CancelledAllCompletesTheReset := by
  intro s hs hr
  refine ⟨fun h => taken_of_sameStored hs hr (cancelledAll_of_stray h) ⟨rfl, rfl, rfl⟩, fun w h hw hbusy => ?_,
    fun w h hw hf hrest => ?_⟩
  · exact taken_of_sameStored (p := s.part.allTaken w) hs hr
      ((cancelledAll_of_reset h hw).trans (tryCompleteReset_of_busy hbusy)) ⟨rfl, rfl, rfl⟩
  have hdone := (cancelledAll_of_reset h hw).trans (tryCompleteReset_of_free (w := w) hf hrest)
  generalize hw' : ({ tag := w.tag, count := w.count, allTaken := true } : ResetWork) = w' at hdone
  have hstep := tableStep_tablesReset (s.part.allTaken w)
  have hunmarked := tablesReset_unmarked (p := s.part.allTaken w)
  have hbands := bandsReset_tablesReset (p := s.part.allTaken w)
  have hlog := tablesReset_sl (p := s.part.allTaken w)
  have hstage := tablesReset_stageHigh (p := s.part.allTaken w)
  have hmap := tablesReset_mapHigh (p := s.part.allTaken w)
  have hfree := tablesReset_freeLow (p := s.part.allTaken w)
  have hhead := sameHead_tablesReset (s.part.allTaken w)
  generalize (s.part.allTaken w).tablesReset = r at *
  refine ⟨commit s (r.resetDone w'), (taken_eq_after hs _).trans ?_, rfl, rfl, ?_⟩
  · rw [hdone]
    exact congrArg _ (after_eq_commit rfl)
  have ht := writtenFrom_commit s (r.resetDone w')
  have hline : (commit s (r.resetDone w')).line = s.line := rfl
  rw [hline]
  generalize (commit s (r.resetDone w')).part = t at *
  obtain ⟨dbm, dtu, dsl, dsc, dsu, dre, dmp, dtx, dsv, dstore⟩ := resetDone_blocks r w'
  have dli := resetDone_li r w'
  obtain ⟨x, tli⟩ := ht.li
  obtain ⟨e, a, d, hsv⟩ := hstep.sv
  obtain ⟨fa, n, hmp, -⟩ := hstep.mp
  obtain ⟨lq, g, hli, -⟩ := hstep.li
  have tbm := ht.bm.trans dbm
  have tsl := ht.sl.trans dsl
  have tsv := ht.sv.trans dsv
  have tmp := ht.mp.trans dmp
  have ttu := (ht.tu.trans dtu).trans hstep.tu
  have tre := (ht.re.trans dre).trans (congrArg (fun v : RelocEngine => { v with chans := List.replicate 4 Chan.blank }) hstep.re)
  have tsv' := tsv.trans (congrArg (fun v : Supervisor =>
    { v with reset := none, mount := none, quiesce := none, device := r.restState, digestTimer := .stopped }) hsv)
  have tmp' := tmp.trans (congrArg (fun v : MediaPort => { v with
    orders := [], waiting := [], told := [], writeWait := [], favoured := laneFor (r.sv.header.mark && r.urgent)
    runCount := 0, lastChan := 3, idle := if r.mp.ready then Timer.start r.settings.idleDelay else .stopped
    awaitAll := false }) hmp)
  have hmark : r.sv.header.mark = s.part.sv.header.mark := (congrArg (fun v : Supervisor => v.header.mark) hsv :)
  have hready : r.mp.ready = s.part.mp.ready := (congrArg MediaPort.ready hmp :)
  have hdelay : r.settings.idleDelay = s.part.sv.settings.idleDelay := (congrArg (fun v : Supervisor => v.settings.idleDelay) hsv :)
  have hevents : t.sv.events = r.sv.events := (congrArg Supervisor.events tsv :)
  have hmask : t.sv.mask = r.sv.mask := (congrArg Supervisor.mask tsv :)
  have hfill : ∀ m, FillAt t m ↔ FillAt r m := fun m => fillAt_congr tbm tsl
  have hshown : (r.resetSettled w').sv.events &&& ~~~(r.resetSettled w').sv.mask = t.sv.events &&& ~~~t.sv.mask := by
    rw [hevents, hmask]
    rfl
  rw [hshown] at dli
  obtain ⟨hreserved, hframes, hunanswered⟩ := shown_counts (r.resetSettled w').li (t.sv.events &&& ~~~t.sv.mask)
  rw [← dli] at hreserved hframes hunanswered
  have hreply : (resetReply w').isNotice = false := rfl
  have hqueue : t.li.queue = ((r.resetSettled w').li.shown (t.sv.events &&& ~~~t.sv.mask)).queue := by
    rw [tli, ← dli]
  have hmessage : resetReply w' = { tag := w.tag, place := .ordinary, payload := .reply .ok .reset [item 2 w.count] } := by
    rw [← hw']
    rfl
  rw [← hmessage]
  refine ⟨?_, (congrArg Supervisor.reset tsv' :), (congrArg Supervisor.mount tsv' :), (congrArg Supervisor.quiesce tsv' :),
    (congrArg Supervisor.digestTimer tsv' :), (congrArg Supervisor.mask tsv' :), (congrArg Supervisor.tallies tsv' :),
    (congrArg Supervisor.classes tsv' :), (congrArg Supervisor.settings tsv' :),
    (congrArg (fun v : Supervisor => v.header.mark) tsv' :), (congrArg (fun v : Supervisor => v.header.hours) tsv' :),
    (congrArg Supervisor.hourAcc tsv' :), ht.su.trans dsu, (congrArg RelocEngine.chans tre :),
    (congrArg RelocEngine.setups tre :), (ht.sc.trans dsc).trans hstep.sc, ht.tx.trans dtx, (congrArg TransUnit.extents ttu :),
    (congrArg TransUnit.regions ttu :), (congrArg TransUnit.remaps ttu :), (congrArg TransUnit.reserveTotal ttu :),
    (congrArg BandManager.geom tbm).trans hstep.geom, (congrArg MediaPort.orders tmp' :), (congrArg MediaPort.writeWait tmp' :),
    (congrArg MediaPort.waiting tmp' :), (congrArg MediaPort.runCount tmp' :), (congrArg MediaPort.lastChan tmp' :),
    (congrArg MediaPort.awaitAll tmp' :), (congrArg MediaPort.ready tmp' :), (congrArg MediaPort.stray tmp' :),
    (congrArg MediaPort.linkErrors tmp' :), ?_, ?_, ?_, ?_, ?_, rfl, (congrArg MediaPort.told tmp' :),
    (congrArg MediaPort.tx tmp' :), ?_, fun hm => ⟨?_, ?_, fun hf => ?_, fun hm => ?_, fun hf => ?_⟩, fun hm => ?_,
    fun u hu fo hfo => ?_, fun hsending => ?_⟩
  · refine (congrArg Supervisor.device tsv').trans ?_
    unfold Part.restState
    rw [← hmark]
  · refine (congrArg MediaPort.idle tmp').trans ?_
    rw [hready, hdelay]
    rfl
  · rw [tli]
    exact hreserved
  · rw [tli]
    exact hframes.trans (congrArg LinkIface.frameErrors hli :)
  · rw [tli]
    exact hunanswered.trans (congrArg LinkIface.unanswered hli :)
  · rw [hqueue]
    exact mem_shown (List.mem_append_right _ (List.mem_singleton_self _)) hreply _
  · refine (congrArg MediaPort.favoured tmp').trans ?_
    unfold laneFor
    exact if_congr (by rw [hfill, Bool.and_eq_true, hmark, urgent_eq_true]) rfl rfl
  · rw [tbm]
    exact hbands hm
  · rw [tsl]
    exact hlog hm
  · rw [hevents]
    exact (hstage hm ((hfill _).1 hf)).ne_zero flags_ne_zero.1
  · rw [hevents]
    exact (hmap ‹_› hm).ne_zero flags_ne_zero.2.1
  · rw [hevents]
    exact (hfree hm (tbm ▸ hf)).ne_zero flags_ne_zero.2.2
  · rw [tbm, tsl, hunmarked hm]
    exact ⟨rfl, rfl⟩
  · rcases ht.updates u hu with hmem | hfollows
    · rw [dstore] at hmem
      obtain ⟨u', -, rfl⟩ := List.mem_map.1 hmem
      exact outlives_eq_true (List.mem_filter.1 hfo).2
    · rw [hfollows, dstore, show (r.resetSettled w').store.follows = s.part.store.follows from
        (congrArg Store.follows hstep.store :), hr.2] at hfo
      exact absurd hfo List.not_mem_nil
  · have hkept := take_one_of_head hhead hsending
    dsimp only
    rw [hqueue, shown_queue rfl (by nofun) ?_]
    · exact congrArg (fun k => k ++ [resetReply w'] ++ (if t.sv.events &&& ~~~t.sv.mask = 0 ∨ ∃ m ∈ k, m.place = .notice then []
        else [{ tag := 0, place := .notice, payload := .notice (t.sv.events &&& ~~~t.sv.mask) }])) hkept
    · exact kept_cases r.li

end Sys2Proof.Machine
end

section
/-! SUPPORT. Bands for requesters: the reservation and the pair law (R12 to R14, R22), and the band request (R25 to
R27). -/

namespace Sys2Proof.Machine

open Sys2Proof Sys2Proof.Spec

variable {p q : Part} {b x c n : Nat} {w : Requester}

/-! ### The pair law (R12, R13) -/

/-- An ordinal among the usable of the first n distances lies among the first n. -/
theorem nthUsable_lt {sk : List Nat} {k : Nat} (h : k + (sk.filter fun r => decide (r < n)).length < n) :
    nthUsable sk k < n := by
  induction sk generalizing k with
  | nil => simpa [nthUsable] using h
  | cons r rs ih =>
    refine ih (k := if r ≤ k then k + 1 else k) ?_
    rw [List.filter_cons] at h
    by_cases hr : r < n
    · rw [if_pos (decide_eq_true hr), List.length_cons] at h
      split <;> omega
    · rw [if_neg (by simpa using hr)] at h
      rw [if_neg (by omega)]
      exact h

theorem nthUsable_lt_of_usableBelow {sk : List Nat} {k : Nat} (h : k < usableBelow sk n) : nthUsable sk k < n :=
  nthUsable_lt (Nat.add_lt_of_lt_sub h)

theorem partner_ne (b : Nat) : partner b ≠ b := by
  unfold partner isUp
  by_cases h : b % 2 = 0
  · rw [if_pos (decide_eq_true h)]
    omega
  · rw [if_neg (by simpa using h)]
    omega

/-- The bands with blocks reserved in one of them. -/
def reservedBm (m : BandManager) (b got : Nat) : BandManager :=
  { m with bands := m.bands.modify b fun x => { x with wp := x.wp + got, inFlight := x.inFlight + 1 } }

theorem wp_reservedBm_self (h : b < p.bm.bands.length) (got : Nat) :
    (bandOf (reservedBm p.bm b got) b).wp = (p.band b).wp + got :=
  congrArg Band.wp (band_modBand_self (p := p) (f := fun x => { x with wp := x.wp + got, inFlight := x.inFlight + 1 }) h)

theorem wp_reservedBm_other (h : x ≠ b) (got : Nat) : (bandOf (reservedBm p.bm b got) x).wp = (bandOf p.bm x).wp :=
  congrArg Band.wp ((Part.band_modBand p b x fun x => { x with wp := x.wp + got, inFlight := x.inFlight + 1 }).trans
    (if_neg fun hc => h hc.1))

theorem span_reservedBm_partner (got : Nat) : span (reservedBm p.bm b got) (partner b) = span p.bm (partner b) := by
  unfold span
  rw [wp_reservedBm_other (partner_ne b)]
  rfl

/-- What is reserved within the room of a band keeps the pair law. -/
theorem pairLaw_of_room (hb : b < p.bm.bands.length) {got : Nat} (hgot : got ≠ 0) (hroom : got ≤ room p.bm b) :
    span (reservedBm p.bm b got) b + span (reservedBm p.bm b got) (partner b) + p.bm.geom.K ≤
      (pairGeo p.bm.geom (b / 2)).T := by
  have hwithin : (p.band b).wp + got ≤ usableBelow (skips p.bm b) (maxSpan p.bm b) * (pairGeo p.bm.geom (b / 2)).S := by
    unfold room at hroom
    rw [bandOf_eq] at hroom
    omega
  have hlast : ((p.band b).wp + got - 1) / (pairGeo p.bm.geom (b / 2)).S < usableBelow (skips p.bm b) (maxSpan p.bm b) :=
    Nat.div_lt_of_lt_mul (by rw [Nat.mul_comm]; omega)
  have hspan : span (reservedBm p.bm b got) b =
      nthUsable (skips p.bm b) (((p.band b).wp + got - 1) / (pairGeo p.bm.geom (b / 2)).S) + 1 := by
    unfold span
    dsimp only
    rw [wp_reservedBm_self hb, if_neg (by omega)]
    rfl
  have hmax := nthUsable_lt_of_usableBelow hlast
  rw [span_reservedBm_partner, hspan]
  unfold maxSpan at hmax
  omega

/-! ### The reservation (R14, R22) -/

theorem reserve_of_refused (h : (p.band b).state ≠ .opened ∨ (p.band b).owner ≠ some w ∨ min n (room p.bm b) = 0) :
    p.reserve w b n = ((p.band b).wp, 0, p) := by
  unfold Part.reserve
  dsimp only
  refine if_pos ?_
  split
  · next ho => exact (h.resolve_left (not_not.2 ho.1)).resolve_left (not_not.2 ho.2)
  · rfl

/-- The part when blocks have been reserved, and the room of the pair's bands has been tested. -/
def Part.reserved (p : Part) (b got : Nat) : Part :=
  ((p.modBand b fun x => { x with wp := x.wp + got, inFlight := x.inFlight + 1 }).closeTest b).closeTest (partner b)

theorem reserve_of_taken (hs : (p.band b).state = .opened) (ho : (p.band b).owner = some w)
    (hg : min n (room p.bm b) ≠ 0) : p.reserve w b n =
      ((p.band b).wp, min n (room p.bm b), p.reserved b (min n (room p.bm b))) := by
  have hgot : (if (p.band b).state = .opened ∧ (p.band b).owner = some w then min n (room p.bm b) else 0) =
      min n (room p.bm b) := if_pos ⟨hs, ho⟩
  unfold Part.reserve
  dsimp only
  rw [hgot]
  exact if_neg hg

theorem reserve_cases (p : Part) (w : Requester) (b n : Nat) : p.reserve w b n = ((p.band b).wp, 0, p) ∨
    p.reserve w b n = ((p.band b).wp, min n (room p.bm b), p.reserved b (min n (room p.bm b))) := by
  by_cases hs : (p.band b).state = .opened
  · by_cases ho : (p.band b).owner = some w
    · by_cases hg : min n (room p.bm b) = 0
      · exact Or.inl (reserve_of_refused (Or.inr (Or.inr hg)))
      · exact Or.inr (reserve_of_taken hs ho hg)
    · exact Or.inl (reserve_of_refused (Or.inr (Or.inl ho)))
  · exact Or.inl (reserve_of_refused (Or.inl hs))

/-! ### The choice of a free band (R26) -/

/-- A band that allocation for a class considers. -/
abbrev Part.Fits (p : Part) (c b : Nat) : Prop := b < p.bm.bands.length ∧ p.allocatable c b = true

/-- A band that no other of a list is better than. -/
structure BestOf (m : BandManager) (l : List Nat) (b : Nat) : Prop where
  mem : b ∈ l
  most : ∀ x ∈ l, unusedTracks m (x / 2) < unusedTracks m (b / 2) ∨
    (unusedTracks m (x / 2) = unusedTracks m (b / 2) ∧ b ≤ x)

theorem BestOf.unique {m : BandManager} {l : List Nat} {b d : Nat} (hb : BestOf m l b) (hd : BestOf m l d) : b = d := by
  have h1 := hb.most d hd.mem
  have h2 := hd.most b hb.mem
  omega

/-- The fold over an ascending list keeps the best band so far. -/
theorem foldl_betterBand {m : BandManager} {l : List Nat} {a : Nat} (hl : ∀ x ∈ l, a < x) (hasc : l.Pairwise (· < ·)) :
    ∃ b, l.foldl (betterBand m) (some a) = some b ∧ BestOf m (a :: l) b := by
  induction l generalizing a with
  | nil => exact ⟨a, rfl, List.mem_cons_self, by simp⟩
  | cons x l ih =>
    obtain ⟨hx, hasc'⟩ := List.pairwise_cons.1 hasc
    have hax := hl x List.mem_cons_self
    rw [List.foldl_cons]
    by_cases hbetter : unusedTracks m (a / 2) < unusedTracks m (x / 2)
    · obtain ⟨b, hb, hbest⟩ := ih (a := x) hx hasc'
      refine ⟨b, ?_, List.mem_cons_of_mem a hbest.mem, fun y hy => ?_⟩
      · rw [← hb]
        exact congrArg (fun o => l.foldl (betterBand m) o) (if_pos hbetter)
      · rcases List.mem_cons.1 hy with rfl | hy
        · have hxb := hbest.most x List.mem_cons_self
          omega
        · exact hbest.most y hy
    · obtain ⟨b, hb, hbest⟩ := ih (a := a) (fun y hy => hl y (List.mem_cons_of_mem x hy)) hasc'
      refine ⟨b, ?_, ?_, fun y hy => ?_⟩
      · rw [← hb]
        exact congrArg (fun o => l.foldl (betterBand m) o) (if_neg hbetter)
      · rcases List.mem_cons.1 hbest.mem with h | h
        · exact h ▸ List.mem_cons_self
        · exact List.mem_cons_of_mem a (List.mem_cons_of_mem x h)
      · have hab := hbest.most a List.mem_cons_self
        rcases List.mem_cons.1 hy with rfl | hy
        · exact hab
        · rcases List.mem_cons.1 hy with rfl | hy
          · omega
          · exact hbest.most y (List.mem_cons_of_mem a hy)

/-- The bands that allocation considers, ascending. -/
def Part.freeBands (p : Part) (c : Nat) : List Nat := (List.range p.bm.bands.length).filter (p.allocatable c)

theorem mem_freeBands : x ∈ p.freeBands c ↔ p.Fits c x := by
  unfold Part.freeBands
  rw [List.mem_filter, List.mem_range]

theorem bestBand_of_best (h : BestOf p.bm (p.freeBands c) b) : p.bestBand c = some b := by
  have hasc : (p.freeBands c).Pairwise (· < ·) := List.Pairwise.filter _ List.pairwise_lt_range
  have hfold : p.bestBand c = (p.freeBands c).foldl (betterBand p.bm) none := rfl
  rw [hfold]
  cases hl : p.freeBands c with
  | nil =>
    have hmem := h.mem
    rw [hl] at hmem
    exact absurd hmem List.not_mem_nil
  | cons a l =>
    rw [hl] at hasc h
    obtain ⟨hal, hasc'⟩ := List.pairwise_cons.1 hasc
    obtain ⟨d, hd, hbest⟩ := foldl_betterBand (m := p.bm) hal hasc'
    rw [List.foldl_cons, show betterBand p.bm none a = some a from rfl, hd, hbest.unique h]

theorem bestBand_of_none (h : ∀ b, ¬p.Fits c b) : p.bestBand c = none := by
  have hfold : p.bestBand c = (p.freeBands c).foldl (betterBand p.bm) none := rfl
  have hnil : p.freeBands c = [] := List.eq_nil_iff_forall_not_mem.2 fun b hb => h b (mem_freeBands.1 hb)
  rw [hfold, hnil]
  rfl

theorem allocatable_eq_true : p.allocatable c b = true ↔ (p.band b).state = .free ∧
    min (p.classRec c).firstZone (p.bm.geom.zones.length - 1) ≤ (pairGeo p.bm.geom (b / 2)).zone ∧
    (pairGeo p.bm.geom (b / 2)).zone ≤ min (p.classRec c).lastZone (p.bm.geom.zones.length - 1) ∧
    (pairGeo p.bm.geom (b / 2)).S ≤ room p.bm b := by
  unfold Part.allocatable zoneInRange
  simp only [Bool.and_eq_true, decide_eq_true_eq, and_assoc]

/-! ### The band request (R25 to R27) -/

theorem ownBand_eq_some : p.ownBand w = some b ↔
    (match w with
      | .stream i => (p.stream i).band
      | .chan k => (p.chan k).owned) = some b ∧ (p.band b).state = .opened ∧ (p.band b).owner = some w := by
  unfold Part.ownBand
  exact Option.filter_eq_some_iff.trans (and_congr Iff.rfl decide_eq_true_iff)

theorem mayAllocate_eq_true : p.mayAllocate w c = true ↔ classCount p.bm c < (p.classRec c).quota ∧
    (match w with
      | .stream _ => p.sv.settings.reserve < p.bm.bands.countP fun b => decide (b.state = .free)
      | .chan _ => True) := by
  cases w with
  | stream i => exact (Bool.and_eq_true_iff).trans (and_congr decide_eq_true_iff decide_eq_true_iff)
  | chan k => exact (Bool.and_eq_true_iff).trans (and_congr decide_eq_true_iff (by simp))

/-- The streams when a band has been given to a requester. -/
def givenStreams (b : Nat) (l : List Stream) : Requester → List Stream
  | .stream i => l.modify (i - 1) fun x => { x with state := .active, band := some b }
  | .chan _ => l

/-- The channels when a band has been given to a requester. -/
def givenChans (b : Nat) (l : List Chan) : Requester → List Chan
  | .stream _ => l
  | .chan k => l.modify k fun x => { x with owned := some b }

/-- A band has been given to a requester, with a class. -/
structure Part.Gives (p q : Part) (w : Requester) (b cls : Nat) : Prop where
  self : b < p.bm.bands.length → q.band b = { p.band b with state := .opened, owner := some w, cls := cls }
  other : ∀ x, x ≠ b → q.band x = p.band x
  su : q.su = givenStreams b p.su w
  chans : q.re.chans = givenChans b p.re.chans w

theorem bm_give : (p.give b w).bm = (p.modBand b fun r => { r with state := .opened, owner := some w }).bm := by
  cases w <;> rfl

theorem gives_give : p.Gives (p.give b w) w b (p.band b).cls where
  self h := (congrArg (fun m : BandManager => m.bands.getD b Band.blank) bm_give).trans (band_modBand_self h)
  other x h := (congrArg (fun m : BandManager => m.bands.getD x Band.blank) bm_give).trans
    ((Part.band_modBand p b x _).trans (if_neg fun hc => h hc.1))
  su := by cases w <;> rfl
  chans := by cases w <;> rfl

/-- A band that is given takes the class that asks. -/
theorem Part.Gives.modBand_cls (h : p.Gives q w b x) (hlen : q.bm.bands.length = p.bm.bands.length) :
    p.Gives (q.modBand b fun r => { r with cls := c }) w b c where
  self hb := by rw [band_modBand_self (by rwa [hlen]), h.self hb]
  other x hx := ((Part.band_modBand q b x _).trans (if_neg fun hc => hx hc.1)).trans (h.other x hx)
  su := h.su
  chans := h.chans

theorem Part.Gives.reportFree (h : p.Gives q w b x) (n : Nat) : p.Gives (q.reportFree n) w b x where
  self hb := (congrArg (fun m : BandManager => m.bands.getD b Band.blank) (Part.reportFree_bm q n)).trans (h.self hb)
  other x hx := (congrArg (fun m : BandManager => m.bands.getD x Band.blank) (Part.reportFree_bm q n)).trans (h.other x hx)
  su := (Part.reportFree_su q n).trans h.su
  chans := (congrArg RelocEngine.chans (Part.reportFree_re q n)).trans h.chans

theorem bandRequest_of_own (h : p.ownBand w = some b) : p.bandRequest w c = (some b, p) := by
  unfold Part.bandRequest
  rw [h]

theorem bandRequest_of_parked {l : List Nat} (ho : p.ownBand w = none) (hl : p.parkedList c = b :: l) :
    p.bandRequest w c = (some b, (p.unpark b).give b w) := by
  unfold Part.bandRequest
  rw [ho, hl]

/-- The part when a free band has been allocated for a class. -/
def Part.allocated (p : Part) (w : Requester) (c b : Nat) : Part :=
  ((p.give b w).modBand b fun r => { r with cls := c }).reportFree (freeCount p.bm)

theorem bandRequest_of_allocation (ho : p.ownBand w = none) (hl : p.parkedList c = []) (hm : p.mayAllocate w c = true)
    (hb : p.bestBand c = some b) : p.bandRequest w c = (some b, p.allocated w c b) := by
  unfold Part.bandRequest
  rw [ho, hl]
  dsimp only
  rw [if_pos hm, hb]
  rfl

theorem bandRequest_of_none (ho : p.ownBand w = none) (hl : p.parkedList c = [])
    (h : p.mayAllocate w c = false ∨ p.bestBand c = none) : p.bandRequest w c = (none, p) := by
  unfold Part.bandRequest
  rw [ho, hl]
  dsimp only
  rcases h with h | h
  · exact if_neg (by simp [h])
  · rw [h]
    exact ite_self _

theorem gives_allocated : p.Gives (p.allocated w c b) w b c :=
  (gives_give.modBand_cls (by rw [bm_give]; exact List.length_modify ..)).reportFree _

theorem allocated_parked : (p.allocated w c b).bm.parked = p.bm.parked := by
  unfold Part.allocated
  rw [Part.reportFree_bm]
  cases w <;> rfl

theorem gives_unpark_give : p.Gives ((p.unpark b).give b w) w b (p.band b).cls where
  self h := (gives_give (p := p.unpark b)).self h
  other x h := (gives_give (p := p.unpark b)).other x h
  su := (gives_give (p := p.unpark b)).su
  chans := (gives_give (p := p.unpark b)).chans

theorem unpark_give_parked : ((p.unpark b).give b w).bm.parked =
    p.bm.parked.map fun l => l.filter fun x => decide (x ≠ b) := by
  cases w <;> rfl

end Sys2Proof.Machine
end

section
/-! SUPPORT. The division of a PLACE (R75 to R77): its steps, what they keep, and the range that its pieces cover. -/

namespace Sys2Proof.Machine

open Sys2Proof Sys2Proof.Spec

variable {p q : Part} {a : PlaceArgs} {d : Division} {i b n k cls start : Nat} {w : Requester}

/-! ### The steps (R75 to R77) -/

theorem streamed_eq_true : p.streamed i = true ↔ 1 ≤ i ∧ i ≤ 16 ∧ (p.stream i).state ≠ .free := by
  unfold Part.streamed isStream
  rw [Bool.and_eq_true, decide_eq_true_eq, decide_eq_true_eq, and_assoc]

theorem goesDirect_eq_true : p.goesDirect a = true ↔
    (p.stream a.stream).nextLba = none ∨ (p.stream a.stream).nextLba = some a.start ∨ 256 ≤ a.len := by
  unfold Part.goesDirect
  cases h : (p.stream a.stream).nextLba with
  | none => simp
  | some x =>
    dsimp only
    rw [decide_eq_true_eq, Option.some.injEq, eq_comm]
    exact ⟨Or.inr, fun h => h.resolve_left nofun⟩

theorem divide_of_direct (hs : p.streamed a.stream = true) (hd : p.goesDirect a = true) : p.divide a cls =
    Part.divideSteps a.stream cls 8 p { pieces := [], lba := a.start, left := a.len, starved := false } :=
  if_pos (Bool.and_eq_true_iff.2 ⟨hs, hd⟩)

theorem divide_of_staged (h : ¬(p.streamed a.stream = true ∧ p.goesDirect a = true)) :
    p.divide a cls = ({ pieces := [], lba := a.start, left := a.len, starved := false }, p) :=
  if_neg fun hc => h (Bool.and_eq_true_iff.1 hc)

/-- The division with one more piece. -/
def Division.add (d : Division) (b n off : Nat) : Division :=
  { d with pieces := d.pieces ++ [{ lba := d.lba, len := n, band := b, off := off }], lba := d.lba + n, left := d.left - n }

theorem divideSteps_of_done (h : d.left = 0 ∨ k = 0) : Part.divideSteps i cls k p d = (d, p) := by
  cases k with
  | zero => rfl
  | succ k => exact if_pos (h.resolve_right (Nat.succ_ne_zero k))

theorem divideSteps_of_no_band (hl : d.left ≠ 0) (hb : (p.bandRequest (.stream i) cls).1 = none) :
    Part.divideSteps i cls (k + 1) p d = ({ d with starved := true }, (p.bandRequest (.stream i) cls).2.starve i) := by
  rw [Part.divideSteps, if_neg hl]
  split
  · next he => rw [he]
  · next he => rw [he] at hb; exact nomatch hb

theorem divideSteps_of_no_room (hl : d.left ≠ 0) (hb : (p.bandRequest (.stream i) cls).1 = some b)
    (hr : ((p.bandRequest (.stream i) cls).2.reserve (.stream i) b d.left).2.1 = 0) :
    Part.divideSteps i cls (k + 1) p d = ({ d with starved := true },
      ((p.bandRequest (.stream i) cls).2.reserve (.stream i) b d.left).2.2.starve i) := by
  rw [Part.divideSteps, if_neg hl]
  split
  · next he => rw [he] at hb; exact nomatch hb
  · next he =>
    rw [he] at hb hr ⊢
    obtain rfl := Option.some.inj hb
    exact if_pos hr

theorem divideSteps_of_room (hl : d.left ≠ 0) (hb : (p.bandRequest (.stream i) cls).1 = some b) {off got : Nat}
    (hr : (p.bandRequest (.stream i) cls).2.reserve (.stream i) b d.left = (off, got, q)) (hg : got ≠ 0) :
    Part.divideSteps i cls (k + 1) p d = Part.divideSteps i cls k q (d.add b got off) := by
  rw [Part.divideSteps, if_neg hl]
  split
  · next he => rw [he] at hb; exact nomatch hb
  · next he =>
    rw [he] at hb hr
    obtain rfl := Option.some.inj hb
    dsimp only
    dsimp only at hr
    rw [hr]
    exact if_neg hg

/-- A division is left as it is, ends starved, or goes on with a piece of no more than what is left. -/
theorem divideSteps_induction {P : Division → Part → Prop}
    (hstarve : ∀ d p, P d p → P { d with starved := true } ((p.bandRequest (.stream i) cls).2.starve i))
    (hfull : ∀ d p b, P d p → P { d with starved := true }
      (((p.bandRequest (.stream i) cls).2.reserve (.stream i) b d.left).2.2.starve i))
    (hpiece : ∀ d p b, P d p →
      let r := (p.bandRequest (.stream i) cls).2.reserve (.stream i) b d.left
      P (d.add b r.2.1 r.1) r.2.2) :
    ∀ (k : Nat) (d : Division) (p : Part), P d p →
      P (Part.divideSteps i cls k p d).1 (Part.divideSteps i cls k p d).2
  | 0, d, p, h => h
  | k + 1, d, p, h => by
    by_cases hl : d.left = 0
    · rw [divideSteps_of_done (Or.inl hl)]
      exact h
    cases hb : (p.bandRequest (.stream i) cls).1 with
    | none =>
      rw [divideSteps_of_no_band hl hb]
      exact hstarve d p h
    | some b =>
      by_cases hg : ((p.bandRequest (.stream i) cls).2.reserve (.stream i) b d.left).2.1 = 0
      · rw [divideSteps_of_no_room hl hb hg]
        exact hfull d p b h
      · rw [divideSteps_of_room hl hb rfl hg]
        exact divideSteps_induction hstarve hfull hpiece k _ _ (hpiece d p b h)

/-- What holds of a division at its start and is kept by its steps holds of the division of a PLACE. -/
theorem divide_induction {P : Division → Part → Prop}
    (hstarve : ∀ d p, P d p → P { d with starved := true } ((p.bandRequest (.stream a.stream) cls).2.starve a.stream))
    (hfull : ∀ d p b, P d p → P { d with starved := true }
      (((p.bandRequest (.stream a.stream) cls).2.reserve (.stream a.stream) b d.left).2.2.starve a.stream))
    (hpiece : ∀ d p b, P d p →
      let r := (p.bandRequest (.stream a.stream) cls).2.reserve (.stream a.stream) b d.left
      P (d.add b r.2.1 r.1) r.2.2)
    (h : P { pieces := [], lba := a.start, left := a.len, starved := false } p) :
    P (p.divide a cls).1 (p.divide a cls).2 := by
  by_cases hc : p.streamed a.stream = true ∧ p.goesDirect a = true
  · rw [divide_of_direct hc.1 hc.2]
    exact divideSteps_induction hstarve hfull hpiece 8 _ _ h
  · rw [divide_of_staged hc]
    exact h

/-! ### The streams that are not FREE -/

/-- From p to q no stream becomes FREE. -/
def Part.LiveStreams (p q : Part) : Prop := ∀ i, (p.stream i).state ≠ .free → (q.stream i).state ≠ .free

theorem liveStreams_of_su (h : q.su = p.su) : p.LiveStreams q := fun i hi => by
  rwa [Part.stream, h]

theorem Part.LiveStreams.trans {r : Part} (h : p.LiveStreams q) (k : q.LiveStreams r) : p.LiveStreams r :=
  fun i hi => k i (h i hi)

theorem stream_modStream_other {j : Nat} {f : Stream → Stream} (h : i - 1 ≠ j - 1) :
    (p.modStream j f).stream i = p.stream i := by
  unfold Part.stream Part.modStream modAt
  simp only [Part.modSu_su, List.getD_eq_getElem?_getD, List.getElem?_modify, if_neg (Ne.symm h), id_map']

theorem liveStreams_modStream {f : Stream → Stream} (hf : ∀ x, (f x).state ≠ .free) : p.LiveStreams (p.modStream i f) := by
  intro j hj
  by_cases h : j - 1 = i - 1
  · have hself := stream_modStream (f := f) (h ▸ lt_length_of_not_free hj)
    have hsame : (p.modStream i f).stream j = (p.modStream i f).stream i := by
      rw [Part.stream, h, Part.stream]
    rw [hsame, hself]
    exact hf _
  · rwa [stream_modStream_other h]

theorem liveStreams_tellLoss : p.LiveStreams (p.tellLoss w) := by
  cases w with
  | stream i => exact liveStreams_modStream fun x => by simp
  | chan c => exact liveStreams_of_su rfl

theorem liveStreams_loseOwner : p.LiveStreams (p.loseOwner b) := by
  unfold Part.loseOwner
  dsimp only
  split
  · exact liveStreams_of_su rfl
  · exact (liveStreams_of_su (q := p.modBand b _) rfl).trans liveStreams_tellLoss

theorem liveStreams_closeTest : p.LiveStreams (p.closeTest b) := by
  unfold Part.closeTest
  dsimp only
  split
  · refine liveStreams_loseOwner.trans (liveStreams_of_su (p := p.loseOwner b) ?_)
    rw [closeBand_su, loseOwner_su]
  · exact liveStreams_of_su rfl

theorem liveStreams_reserve : p.LiveStreams (p.reserve w b n).2.2 := by
  rcases reserve_cases p w b n with h | h
  · rw [h]
    exact liveStreams_of_su rfl
  · rw [h]
    exact (liveStreams_of_su (q := p.modBand b _) rfl).trans (liveStreams_closeTest.trans liveStreams_closeTest)

theorem Part.Gives.liveStreams {c : Nat} (h : p.Gives q w b c) : p.LiveStreams q := by
  cases w with
  | stream i =>
    exact (liveStreams_modStream (i := i) (f := fun x => { x with state := .active, band := some b })
      fun x => by simp).trans (liveStreams_of_su h.su)
  | chan k => exact liveStreams_of_su h.su

theorem liveStreams_bandRequest {c : Nat} : p.LiveStreams (p.bandRequest w c).2 := by
  cases ho : p.ownBand w with
  | some b =>
    rw [bandRequest_of_own ho]
    exact liveStreams_of_su rfl
  | none =>
    cases hl : p.parkedList c with
    | cons b l =>
      rw [bandRequest_of_parked ho hl]
      exact gives_unpark_give.liveStreams
    | nil =>
      cases hm : p.mayAllocate w c with
      | false =>
        rw [bandRequest_of_none ho hl (Or.inl hm)]
        exact liveStreams_of_su rfl
      | true =>
        cases hb : p.bestBand c with
        | none =>
          rw [bandRequest_of_none ho hl (Or.inr hb)]
          exact liveStreams_of_su rfl
        | some b =>
          rw [bandRequest_of_allocation ho hl hm hb]
          exact gives_allocated.liveStreams

theorem liveStreams_starve : p.LiveStreams (p.starve i) := liveStreams_modStream fun x => by simp

theorem liveStreams_divide : p.LiveStreams (p.divide a cls).2 :=
  divide_induction (P := fun _ q => p.LiveStreams q)
    (fun _ _ h => (h.trans liveStreams_bandRequest).trans liveStreams_starve)
    (fun _ _ _ h => ((h.trans liveStreams_bandRequest).trans liveStreams_reserve).trans liveStreams_starve)
    (fun _ _ _ h => (h.trans liveStreams_bandRequest).trans liveStreams_reserve)
    (liveStreams_of_su rfl)

/-! ### The range that pieces cover -/

/-- Pieces that follow one another from an LBA. -/
def Follows : Nat → List Piece → Prop
  | _, [] => True
  | lba, c :: l => c.lba = lba ∧ Follows (lba + c.len) l

theorem follows_append {l m : List Piece} : Follows start (l ++ m) ↔
    Follows start l ∧ Follows (start + (l.map Piece.len).sum) m := by
  induction l generalizing start with
  | nil => simp [Follows]
  | cons c l ih => simp [Follows, ih, and_assoc, Nat.add_assoc]

theorem Follows.lba {l : List Piece} (h : Follows start l) {c : Piece} (hc : l[i]? = some c) :
    c.lba = start + ((l.take i).map Piece.len).sum := by
  induction l generalizing start i with
  | nil => simp at hc
  | cons x l ih =>
    obtain ⟨hx, hl⟩ := h
    cases i with
    | zero =>
      obtain rfl : x = c := by simpa using hc
      simpa using hx
    | succ i =>
      have htail := ih hl (by simpa using hc)
      simp [htail, Nat.add_assoc]

/-- The pieces of a division follow one another, and with what is left they cover the range. -/
structure Division.Covers (d : Division) (start len u : Nat) : Prop where
  follows : Follows start (bandPieces u d.pieces)
  lba : d.lba = start + ((bandPieces u d.pieces).map Piece.len).sum
  left : ((bandPieces u d.pieces).map Piece.len).sum + d.left = len

theorem bandPieces_append (u : Nat) (l m : List BandPiece) : bandPieces u (l ++ m) = bandPieces u l ++ bandPieces u m :=
  List.map_append

theorem Division.Covers.add {len u off : Nat} (h : d.Covers start len u) (hn : n ≤ d.left) :
    (d.add b n off).Covers start len u := by
  have hsum : ((bandPieces u (d.add b n off).pieces).map Piece.len).sum =
      ((bandPieces u d.pieces).map Piece.len).sum + n := by
    unfold Division.add
    rw [bandPieces_append, List.map_append, List.sum_append]
    simp [bandPieces]
  have hlba := h.lba
  have hleft := h.left
  refine ⟨?_, ?_, ?_⟩
  · unfold Division.add
    rw [bandPieces_append, follows_append]
    exact ⟨h.follows, h.lba, trivial⟩
  · rw [hsum, ← Nat.add_assoc, ← hlba]
    rfl
  · rw [hsum]
    change _ + (d.left - n) = len
    omega

theorem reserve_le : (p.reserve w b n).2.1 ≤ n := by
  rcases reserve_cases p w b n with h | h
  · rw [h]
    exact Nat.zero_le n
  · rw [h]
    exact min_le_left n (room p.bm b)

theorem covers_divide (u : Nat) : (p.divide a cls).1.Covers a.start a.len u :=
  divide_induction (P := fun d _ => d.Covers a.start a.len u)
    (fun _ _ h => ⟨h.follows, h.lba, h.left⟩)
    (fun _ _ _ h => ⟨h.follows, h.lba, h.left⟩)
    (fun _ _ _ h => h.add reserve_le)
    ⟨trivial, rfl, Nat.zero_add _⟩

end Sys2Proof.Machine
end

section
/-! SUPPORT. The admission of a PLACE (R77, R80, R88 to R90, R169, R171): its pieces, its record, the stream context, and
the joins of its first orders. -/

namespace Sys2Proof.Machine

open Sys2Proof Sys2Proof.Spec

variable {s : State} {p q : Part} {h : Queued} {a : PlaceArgs} {at_ : Attrs} {d : Division} {t : Txn} {l : List Order}
  {n tag cls : Nat}

/-! ### A PLACE held for staging space (R90, R94) -/

theorem setHeld_keeps {γ : Type} (g : Part → γ) (hl : ∀ q o, g (q.levelChecks o) = g q) (hs : ∀ f, g (p.modSl f) = g p)
    (b : Bool) : g (p.setHeld b) = g p := by
  unfold Part.setHeld
  split
  · rfl
  · exact (hl _ _).trans (hs _)

theorem setHeld_sl (p : Part) (b : Bool) : (p.setHeld b).sl = { p.sl with held := b } := by
  unfold Part.setHeld
  split
  · next hb => rw [← hb]
  · exact Part.levelChecks_sl _ _

/-- The joins of orders read the queue and what waits for it, which stay. -/
structure MediaPort.SameQueue (m k : MediaPort) : Prop where
  orders : k.orders = m.orders
  writeWait : k.writeWait = m.writeWait
  waiting : k.waiting = m.waiting

theorem Part.SameWork.sameQueue (hw : p.SameWork q) : p.mp.SameQueue q.mp := by
  obtain ⟨f, r, hm⟩ := hw.mp
  rw [hm]
  exact ⟨rfl, rfl, rfl⟩

theorem MediaPort.SameQueue.trans {m k j : MediaPort} (h : m.SameQueue k) (h' : k.SameQueue j) : m.SameQueue j :=
  ⟨h'.orders.trans h.orders, h'.writeWait.trans h.writeWait, h'.waiting.trans h.waiting⟩

theorem sameQueue_setHeld (p : Part) (b : Bool) : p.mp.SameQueue (p.setHeld b).mp := by
  unfold Part.setHeld
  split
  · exact ⟨rfl, rfl, rfl⟩
  · exact (sameWork_levelChecks (.refl (p.modSl fun l => { l with held := b }))).sameQueue

theorem sameQueue_joinedPort {m k : MediaPort} (h : m.SameQueue k) (w : Owner) (l : List Order) :
    (joinedPort m w l).SameQueue (joinedPort k w l) := by
  obtain ⟨ho, hw, ha⟩ := h
  unfold joinedPort
  constructor <;> simp only [ho, hw, ha]

theorem popHead_tx (p : Part) : p.popHead.tx = { p.tx with queue := p.tx.queue.tail } := by
  rw [← List.drop_one]
  exact setHeld_keeps Part.tx (fun _ _ => Part.levelChecks_tx _ _) (fun _ => rfl) false

theorem popHead_sl (p : Part) : p.popHead.sl = { p.sl with held := false } := setHeld_sl _ false

theorem popHead_bm (p : Part) : p.popHead.bm = p.bm :=
  setHeld_keeps Part.bm (fun _ _ => Part.levelChecks_bm _ _) (fun _ => rfl) false

theorem popHead_tu (p : Part) : p.popHead.tu = p.tu :=
  setHeld_keeps Part.tu (fun _ _ => Part.levelChecks_tu _ _) (fun _ => rfl) false

theorem popHead_su (p : Part) : p.popHead.su = p.su :=
  setHeld_keeps Part.su (fun _ _ => Part.levelChecks_su _ _) (fun _ => rfl) false

/-! ### The part when the record of a PLACE is made -/

/-- The staged parts of what a division leaves. -/
def Part.placeParts (p : Part) (d : Division) : List StagedPart :=
  if d.left = 0 then [] else stagedParts (stgCap p.bm) p.sl.head d.left

def Part.placePieces (p : Part) (d : Division) : List Piece :=
  bandPieces p.thisUpdate d.pieces ++ stagedPieces p.thisUpdate (p.placeParts d) d.lba

/-- The record of a PLACE that is admitted. -/
def Part.placeTxn (p : Part) (h : Queued) (a : PlaceArgs) (at_ : Attrs) (n : Nat) (d : Division) : Txn :=
  { newTxn h n with cls := at_.cls, tail := tailOf at_.tail, verify := verifyOn at_.verify,
                    streamed := p.streamed a.stream, pieces := p.placePieces d }

/-- The part with what the division leaves appended to the log. -/
def Part.placeStaged (p : Part) (at_ : Attrs) (d : Division) : Part :=
  if d.left = 0 then p else p.append (p.placeParts d) d.lba at_.cls

/-- The part when the record of a PLACE is made, before the orders join. -/
def Part.placeBegun (p : Part) (h : Queued) (a : PlaceArgs) (at_ : Attrs) (n : Nat) (d : Division) : Part :=
  ((((p.placeStaged at_ d).streamAdmitted a at_ d).takeReserve n).popHead).addTxn (p.placeTxn h a at_ n d)

/-- The orders that write the pieces of a PLACE. -/
def Part.writesOf (p : Part) (t : Txn) (a : PlaceArgs) : List Order :=
  (t.pieces.zipIdx.map fun x => p.placeOrders .write t a x.2 x.1).flatten

theorem admitPlace_eq (p : Part) (h : Queued) (a : PlaceArgs) (at_ : Attrs) (n : Nat) (d : Division) :
    p.admitPlace h a at_ n d = (p.placeBegun h a at_ n d).joinOrders (.txn h.tag)
      ((p.placeBegun h a at_ n d).writesOf (p.placeTxn h a at_ n d) a) := rfl

theorem sameWork_placeStaged : p.SameWork (p.placeStaged at_ d) := by
  unfold Part.placeStaged
  split
  · exact .refl p
  · exact sameWork_append (.refl p)

theorem placeStaged_bm : (p.placeStaged at_ d).bm = p.bm := by
  unfold Part.placeStaged
  split
  · rfl
  · exact Part.levelChecks_bm _ _

theorem placeStaged_su : (p.placeStaged at_ d).su = p.su := by
  unfold Part.placeStaged
  split
  · rfl
  · exact Part.levelChecks_su _ _

theorem streamAdmitted_bm : (p.streamAdmitted a at_ d).bm = p.bm := by
  unfold Part.streamAdmitted
  split <;> rfl

theorem streamAdmitted_sl : (p.streamAdmitted a at_ d).sl = p.sl := by
  unfold Part.streamAdmitted
  split <;> rfl

theorem takeReserve_keeps {γ : Type} (g : Part → γ) (hr : ∀ q f, g (q.raise f) = g q) (ht : ∀ f, g (p.modTu f) = g p)
    (n : Nat) : g (p.takeReserve n) = g p := (mapHighCheck_keeps g hr _ _).trans (ht _)

theorem placeBegun_tx : (p.placeBegun h a at_ n d).tx =
    { p.tx with queue := p.tx.queue.tail, txns := p.tx.txns ++ [p.placeTxn h a at_ n d] } := by
  have hw : p.SameWork ((p.placeStaged at_ d).streamAdmitted a at_ d) := sameWork_streamAdmitted sameWork_placeStaged
  have htx : (((p.placeStaged at_ d).streamAdmitted a at_ d).takeReserve n).popHead.tx =
      { p.tx with queue := p.tx.queue.tail } := by
    rw [popHead_tx, takeReserve_tx, hw.tx]
  exact congrArg (fun x : TxnUnit => { x with txns := x.txns ++ [p.placeTxn h a at_ n d] }) htx

theorem placeBegun_tu : (p.placeBegun h a at_ n d).tu = { p.tu with reserveTotal := p.tu.reserveTotal + n } := by
  have hw : p.SameWork ((p.placeStaged at_ d).streamAdmitted a at_ d) := sameWork_streamAdmitted sameWork_placeStaged
  refine (popHead_tu _).trans ?_
  rw [takeReserve_tu, hw.tu]

theorem placeBegun_mp : p.mp.SameQueue (p.placeBegun h a at_ n d).mp := by
  have hw : p.SameWork ((p.placeStaged at_ d).streamAdmitted a at_ d) := sameWork_streamAdmitted sameWork_placeStaged
  have hmp : (((p.placeStaged at_ d).streamAdmitted a at_ d).takeReserve n).mp =
      ((p.placeStaged at_ d).streamAdmitted a at_ d).mp :=
    takeReserve_keeps Part.mp (fun _ _ => Part.raise_mp _ _) (fun _ => rfl) n
  refine hw.sameQueue.trans ?_
  rw [← hmp]
  exact sameQueue_setHeld (((((p.placeStaged at_ d).streamAdmitted a at_ d).takeReserve n)).modTx fun x =>
    { x with queue := x.queue.drop 1 }) false

theorem placeBegun_bm : (p.placeBegun h a at_ n d).bm = p.bm := by
  refine (popHead_bm _).trans ?_
  rw [takeReserve_keeps Part.bm (fun _ _ => Part.raise_bm _ _) (fun _ => rfl), streamAdmitted_bm, placeStaged_bm]

theorem placeBegun_sl : (p.placeBegun h a at_ n d).sl = { (p.placeStaged at_ d).sl with held := false } := by
  refine (popHead_sl _).trans ?_
  rw [takeReserve_keeps Part.sl (fun _ _ => Part.raise_sl _ _) (fun _ => rfl), streamAdmitted_sl]

theorem placeBegun_su : (p.placeBegun h a at_ n d).su = ((p.placeStaged at_ d).streamAdmitted a at_ d).su := by
  refine (popHead_su _).trans ?_
  exact takeReserve_keeps Part.su (fun _ _ => Part.raise_su _ _) (fun _ => rfl) n

/-! ### The joins of the first orders -/

/-- The part when a transaction that had no orders to join has asked for the joins of its writes. -/
def Part.withJoins (p : Part) (tag : Nat) (l : List Order) : Part :=
  ({ p with mp := joinedPort p.mp (.txn tag) l } : Part).modTxn tag fun x =>
    { x with toJoin := (joins p.mp.writeWait p.mp.orders l).2 }

theorem withJoins_keeps (p : Part) (tag : Nat) (l : List Order) : (p.withJoins tag l).bm = p.bm ∧
    (p.withJoins tag l).tu = p.tu ∧ (p.withJoins tag l).sl = p.sl ∧ (p.withJoins tag l).su = p.su ∧
    (p.withJoins tag l).tx.queue = p.tx.queue ∧ (p.withJoins tag l).mp = joinedPort p.mp (.txn tag) l :=
  ⟨rfl, rfl, rfl, rfl, rfl, rfl⟩

theorem txn_withJoins (ht : p.txn tag = some t) (l : List Order) : (p.withJoins tag l).txn tag =
    some { t with toJoin := (joins p.mp.writeWait p.mp.orders l).2 } := by
  unfold Part.withJoins
  rw [txn_modTxn (f := fun x => { x with toJoin := (joins p.mp.writeWait p.mp.orders l).2 }) fun _ => rfl]
  exact congrArg (Option.map fun x : Txn => { x with toJoin := (joins p.mp.writeWait p.mp.orders l).2 }) ht

theorem joinOrders_of_writes (ht : p.txn tag = some t) (hj : t.toJoin = [])
    (hl : ∀ o ∈ l, o.op ≠ .read ∧ o.owner = .txn tag) : p.joinOrders (.txn tag) l = p.withJoins tag l := by
  have hpass := joinPass_of_writes (l := l) (fun o ho => ⟨(hl o ho).1, tag, (hl o ho).2⟩) p
  have hmp := joinList_mp p (.txn tag) l
  unfold Part.withJoins
  rw [joinOrders_eq, toJoin_txn ht, hj, List.nil_append, ← hmp, joinList_eq, hpass]
  dsimp only
  split <;> rfl

theorem writesOf_writes (p : Part) (t : Txn) (a : PlaceArgs) : ∀ o ∈ p.writesOf t a, o.op ≠ .read ∧ o.owner = .txn t.tag := by
  intro o ho
  obtain ⟨m, hm, ho⟩ := List.mem_flatten.1 ho
  obtain ⟨x, -, rfl⟩ := List.mem_map.1 hm
  obtain ⟨r, -, rfl⟩ := List.mem_map.1 ho
  exact ⟨nofun, rfl⟩

/-! ### What an admission makes of the part -/

/-- The orders that an admission asks to join. -/
def Part.placeWrites (p : Part) (h : Queued) (a : PlaceArgs) (at_ : Attrs) (n : Nat) (d : Division) : List Order :=
  (p.placeBegun h a at_ n d).writesOf (p.placeTxn h a at_ n d) a

theorem txn_placeBegun (hnew : ∀ x ∈ p.tx.txns, x.tag ≠ h.tag) :
    (p.placeBegun h a at_ n d).txn h.tag = some (p.placeTxn h a at_ n d) := by
  rw [txn_congr (p := ({ p with tx := { p.tx with queue := p.tx.queue.tail } } : Part).addTxn (p.placeTxn h a at_ n d))
    placeBegun_tx]
  exact txn_addTxn (t := p.placeTxn h a at_ n d) hnew

theorem admitPlace_joined (hnew : ∀ x ∈ p.tx.txns, x.tag ≠ h.tag) : p.admitPlace h a at_ n d =
    (p.placeBegun h a at_ n d).withJoins h.tag (p.placeWrites h a at_ n d) := by
  rw [admitPlace_eq]
  exact joinOrders_of_writes (txn_placeBegun hnew) rfl (writesOf_writes _ _ _)

theorem txn_admitPlace (hnew : ∀ x ∈ p.tx.txns, x.tag ≠ h.tag) : (p.admitPlace h a at_ n d).txn h.tag =
    some { p.placeTxn h a at_ n d with
      toJoin := (joins p.mp.writeWait p.mp.orders (p.placeWrites h a at_ n d)).2 } := by
  have hq : p.mp.SameQueue (p.placeBegun h a at_ n d).mp := placeBegun_mp
  rw [admitPlace_joined hnew, txn_withJoins (txn_placeBegun hnew), hq.orders, hq.writeWait]

theorem mp_admitPlace (hnew : ∀ x ∈ p.tx.txns, x.tag ≠ h.tag) :
    (joinedPort p.mp (.txn h.tag) (p.placeWrites h a at_ n d)).SameQueue (p.admitPlace h a at_ n d).mp := by
  rw [admitPlace_joined hnew]
  exact sameQueue_joinedPort placeBegun_mp _ _

theorem keeps_admitPlace (hnew : ∀ x ∈ p.tx.txns, x.tag ≠ h.tag) :
    (p.admitPlace h a at_ n d).bm = p.bm ∧
    (p.admitPlace h a at_ n d).tu = { p.tu with reserveTotal := p.tu.reserveTotal + n } ∧
    (p.admitPlace h a at_ n d).sl = { (p.placeStaged at_ d).sl with held := false } ∧
    (p.admitPlace h a at_ n d).su = ((p.placeStaged at_ d).streamAdmitted a at_ d).su ∧
    (p.admitPlace h a at_ n d).tx.queue = p.tx.queue.tail := by
  obtain ⟨hbm, htu, hsl, hsu, hqueue, -⟩ :=
    withJoins_keeps (p.placeBegun h a at_ n d) h.tag (p.placeWrites h a at_ n d)
  rw [admitPlace_joined hnew]
  exact ⟨hbm.trans placeBegun_bm, htu.trans placeBegun_tu, hsl.trans placeBegun_sl, hsu.trans placeBegun_su,
    hqueue.trans (congrArg TxnUnit.queue placeBegun_tx)⟩

end Sys2Proof.Machine
end

section
/-! SUPPORT. A PLACE admitted with pieces that cover its range (R77, R88, R89, R169): the statement's pieces, orders and
stream context. -/

namespace Sys2Proof.Machine

open Sys2Proof Sys2Proof.Spec

variable {s : State} {p q : Part} {h : Queued} {a : PlaceArgs} {at_ : Attrs} {d : Division} {n u lba : Nat}

/-! ### The pieces (R77, R89) -/

/-- A piece that is about to be written. -/
def freshPiece (u lba len : Nat) (pl : Place) : Piece :=
  { lba := lba, len := len, old := none, retryUsed := false, pos := { place := pl, update := u, ended := false }
    verifying := false, succeeded := false }

/-- The pieces of a PLACE: what the division reserved in bands, then what it left, in the log. -/
def piecesOf (u cap head : Nat) (d : Division) : List Piece :=
  (d.pieces.map fun x => freshPiece u x.lba x.len (.band x.band x.off)) ++
    (if d.left = 0 then [] else if head + d.left ≤ cap then [freshPiece u d.lba d.left (.log head)]
      else [freshPiece u d.lba (cap - head) (.log head),
        freshPiece u (d.lba + (cap - head)) (d.left - (cap - head)) (.log 0)])

theorem placePieces_eq (p : Part) (d : Division) :
    p.placePieces d = piecesOf p.thisUpdate (stgCap p.bm) p.sl.head d := by
  unfold Part.placePieces piecesOf Part.placeParts stagedParts
  refine congrArg ((bandPieces p.thisUpdate d.pieces) ++ ·) ?_
  split
  · rfl
  · split <;> rfl

theorem mem_piecesOf {cap head : Nat} {c : Piece} (hc : c ∈ piecesOf u cap head d) : c.old = none ∧ c.pos.update = u := by
  have hfresh : ∃ l m pl, c = freshPiece u l m pl := by
    rcases List.mem_append.1 hc with hb | hl
    · obtain ⟨x, -, rfl⟩ := List.mem_map.1 hb
      exact ⟨_, _, _, rfl⟩
    · split at hl
      · exact absurd hl List.not_mem_nil
      · split at hl
        · exact ⟨_, _, _, List.mem_singleton.1 hl⟩
        · rcases List.mem_cons.1 hl with rfl | hl
          · exact ⟨_, _, _, rfl⟩
          · exact ⟨_, _, _, List.mem_singleton.1 hl⟩
  obtain ⟨l, m, pl, rfl⟩ := hfresh
  exact ⟨rfl, rfl⟩

theorem follows_stagedPieces (u lba : Nat) (l : List StagedPart) : Follows lba (stagedPieces u l lba) := by
  induction l generalizing lba with
  | nil => trivial
  | cons x l ih => exact ⟨rfl, ih _⟩

theorem sum_stagedPieces (u lba : Nat) (l : List StagedPart) :
    ((stagedPieces u l lba).map Piece.len).sum = (l.map StagedPart.len).sum := by
  induction l generalizing lba with
  | nil => rfl
  | cons x l ih => exact congrArg (x.len + ·) (ih _)

theorem sum_stagedParts (cap head n : Nat) : ((stagedParts cap head n).map StagedPart.len).sum = n := by
  unfold stagedParts
  split
  · exact Nat.add_zero n
  · change cap - head + (n - (cap - head) + 0) = n
    omega

theorem sum_placeParts : ((p.placeParts d).map StagedPart.len).sum = d.left := by
  unfold Part.placeParts
  split
  · next hl => exact hl.symm
  · exact sum_stagedParts _ _ _

/-- The pieces of a PLACE follow one another and cover its range. -/
theorem placePieces_cover {start len : Nat} (hd : d.Covers start len p.thisUpdate) :
    Follows start (p.placePieces d) ∧ ((p.placePieces d).map Piece.len).sum = len := by
  unfold Part.placePieces
  rw [follows_append, ← hd.lba, List.map_append, List.sum_append, sum_stagedPieces, sum_placeParts]
  exact ⟨⟨hd.follows, follows_stagedPieces _ _ _⟩, hd.left⟩

/-! ### The orders (R171) -/

/-- The orders that write pieces, by the runs of their places. -/
def ordersOf (m : BandManager) (handle start tag cls u : Nat) (pieces : List Piece) : List Order :=
  (pieces.zipIdx.map fun x => (cut m x.1.pos.place x.1.len).map fun r =>
    ({ id := 0, op := .write, track := r.track, sector := r.sector, dir := r.dir, count := r.count, place := r.place
       handle := handle, bufOff := x.1.lba - start + r.pieceOff, owner := .txn tag, cls := cls
       state := .queued, timer := .stopped, lba := x.1.lba + r.pieceOff, piece := x.2, attempt := 0
       retry := false, update := u } : Order)).flatten

theorem placeWrites_eq : p.placeWrites h a at_ n d =
    ordersOf p.bm a.handle a.start h.tag at_.cls p.thisUpdate (p.placePieces d) := by
  unfold Part.placeWrites Part.writesOf ordersOf
  refine congrArg List.flatten (List.map_congr_left fun x hx => ?_)
  obtain ⟨-, -, hget⟩ := List.mem_zipIdx hx
  have hmem : x.1 ∈ piecesOf p.thisUpdate (stgCap p.bm) p.sl.head d := by
    rw [← placePieces_eq, hget]
    exact List.getElem_mem _
  obtain ⟨hold, hupdate⟩ := mem_piecesOf hmem
  unfold Part.placeOrders Part.ordersFor
  rw [placeBegun_bm, hold, hupdate]
  rfl

/-! ### The log and the stream context (R80, R82, R83, R89) -/

theorem placeStaged_sl : (p.placeStaged at_ d).sl.runs = (if d.left = 0 then p.sl.runs
      else (p.append (stagedParts (stgCap p.bm) p.sl.head d.left) d.lba at_.cls).sl.runs) ∧
    (p.placeStaged at_ d).sl.head = (if d.left = 0 then p.sl.head else (p.sl.head + d.left) % stgCap p.bm) := by
  unfold Part.placeStaged Part.placeParts
  by_cases hl : d.left = 0
  · simp only [if_pos hl, and_self]
  · simp only [if_neg hl, true_and]
    rw [append_sl, sum_stagedParts]

/-- What an admission makes of the stream of a streamed PLACE. -/
def streamAfter (a : PlaceArgs) (tail : Nat) (d : Division) (x : Stream) : Stream :=
  { x with
    nextLba := if d.pieces ≠ [] ∨ (d.starved = true ∧ x.nextLba = some a.start) then some (a.start + a.len) else x.nextLba
    park := if d.pieces = [] then x.park else if tail = 1 then .pad else .cont
    idle := if x.idleLimit = 0 then x.idle else { state := .running, elapsed := 0, limit := x.idleLimit } }

theorem streamAfter_eq (x : Stream) : streamAfter a at_.tail d x = { x with
    nextLba := nextLbaAfter x.nextLba a d
    park := if d.pieces.isEmpty then x.park else tailOf at_.tail
    idle := idleAfter x.idleLimit x.idle } := by
  have hnext : nextLbaAfter x.nextLba a d = if d.pieces ≠ [] ∨ (d.starved = true ∧ x.nextLba = some a.start) then
      some (a.start + a.len) else x.nextLba := by
    unfold nextLbaAfter
    simp only [Bool.or_eq_true, Bool.not_eq_true', List.isEmpty_eq_false_iff, Bool.and_eq_true, decide_eq_true_eq]
  have hpark : (if d.pieces.isEmpty then x.park else tailOf at_.tail) =
      if d.pieces = [] then x.park else if at_.tail = 1 then .pad else .cont := by
    simp only [List.isEmpty_iff]
    rfl
  rw [hnext, hpark]
  rfl

theorem stream_admitPlace (hnew : ∀ x ∈ p.tx.txns, x.tag ≠ h.tag) (hs : p.streamed a.stream = true) :
    (p.admitPlace h a at_ n d).stream a.stream = streamAfter a at_.tail d (p.stream a.stream) := by
  obtain ⟨-, -, -, hsu, -⟩ := keeps_admitPlace (a := a) (at_ := at_) (n := n) (d := d) hnew
  have hstaged : (p.placeStaged at_ d).streamed a.stream = true := by
    unfold Part.streamed Part.stream at *
    rwa [placeStaged_su]
  have hsame : (p.placeStaged at_ d).stream a.stream = p.stream a.stream := by
    rw [Part.stream, placeStaged_su, Part.stream]
  have hlive : ((p.placeStaged at_ d).stream a.stream).state ≠ .free := (streamed_eq_true.1 hstaged).2.2
  have hadmitted : (p.admitPlace h a at_ n d).stream a.stream =
      ((p.placeStaged at_ d).streamAdmitted a at_ d).stream a.stream := congrArg (fun l => l.getD (a.stream - 1) Stream.blank) hsu
  rw [hadmitted, Part.streamAdmitted, if_pos hstaged, stream_modStream (lt_length_of_not_free hlive), hsame, streamAfter_eq]

/-! ### The head of the Request Queue -/

theorem admitHead_place (hh : Heads s h) (hreq : h.req = .place a)
    (hroom : s.part.tu.extents.length + s.part.tu.reserveTotal + s.part.reserveFor h.req ≤ 262144) :
    let r := s.part.divide a (s.part.resolve a).cls
    ((r.1.left = 0 ∨ r.2.stagingTest r.1.left = .take) → s.part.admitHead .place =
      r.2.admitPlace h a (s.part.resolve a) (s.part.reserveFor h.req) r.1) ∧
    (r.1.left ≠ 0 → r.2.stagingTest r.1.left = .hold → s.part.admitHead .place = s.part.setHeld true) := by
  have htest := headTest_of_heads hh
  rw [hreq] at htest
  dsimp only at htest
  have hkind : h.req.kind = .place := by rw [hreq]; rfl
  obtain ⟨haccept, hhold, -⟩ := placeTest_of_room (h := h) (a := a) hroom
  refine ⟨fun hl => ?_, fun hl ht => ?_⟩
  · rw [← hkind]
    exact admitHead_of_accept hh (htest.trans (haccept hl))
  · unfold Part.admitHead
    rw [if_neg (by simp [admits_of_heads hh]), hh.front]
    dsimp only
    rw [if_pos hkind, htest, hhold hl ht]

end Sys2Proof.Machine
end

section
/-! SUPPORT. A PLACE admitted with pieces that cover its range: the statement. -/

namespace Sys2Proof.Machine

open Sys2Proof Sys2Proof.Spec

variable {s : State} {p q : Part} {h : Queued} {a : PlaceArgs} {d : Division} {n b c : Nat} {w : Requester}

theorem reserveFor_place {n : Nat} (hreq : h.req = .place a) (hs : p.streamed a.stream = true → n = min 10 a.len + 2)
    (hn : ¬p.streamed a.stream = true → n = min 2 a.len + 2) : n = p.reserveFor h.req := by
  rw [hreq]
  unfold Part.reserveFor
  dsimp only
  split
  · next hst => exact hs hst
  · next hst => exact hn hst

/-- Settles O40. -/
theorem placeAdmittedWithPiecesThatCoverItsRange : Obligations.PlaceAdmittedWithPiecesThatCoverItsRange := by
  refine ⟨?_, ?_, ?_, ?_, ?_⟩
  · intro s h a hh hreq hnew p streamed attrs d n hstreamed hstaged hroom
    obtain rfl : n = s.part.reserveFor h.req := reserveFor_place hreq
      (fun hs => hstreamed (streamed_eq_true.1 hs)) (fun hs => hstaged fun hc => hs (streamed_eq_true.2 hc))
    have hwork : s.part.SameWork d.2 := sameWork_divide (.refl _)
    have hnew' : ∀ x ∈ d.2.tx.txns, x.tag ≠ h.tag := by rwa [hwork.tx]
    obtain ⟨haccept, hhold⟩ := admitHead_place hh hreq hroom
    have htxn := txn_admitPlace (a := a) (at_ := attrs) (n := s.part.reserveFor h.req) (d := d.1) hnew'
    obtain ⟨hbm, htu, hsl, hsu, hqueue⟩ :=
      keeps_admitPlace (a := a) (at_ := attrs) (n := s.part.reserveFor h.req) (d := d.1) hnew'
    have hexec (hl : d.1.left = 0 ∨ d.2.stagingTest d.1.left = .take) : exec .placeAdmission s =
        .next (after s (d.2.admitPlace h a attrs (s.part.reserveFor h.req) d.1)) :=
      (taken_eq_after hh.hears _).trans (congrArg (fun p => Host.Outcome.next (after s p)) (haccept hl))
    refine ⟨fun hst hl => ?_, fun hl ht => ?_, fun hl => ?_⟩
    · have hstill : (d.2.admitPlace h a attrs (s.part.reserveFor h.req) d.1).Still := still_admitPlace (still_divide hst)
      have hsame := sameOwners_after (s := s) hstill
      obtain ⟨hfollows, hsum⟩ := placePieces_cover (p := d.2) (d := d.1)
        (covers_divide (p := s.part) (a := a) (cls := attrs.cls) d.2.thisUpdate)
      refine ⟨_, hexec hl, ?_, ?_, ?_, _, (txn_congr hsame.tx _).trans htxn, rfl, rfl, rfl, rfl, rfl, rfl, hsum,
        fun i c hc => hfollows.lba hc⟩
      · rw [hsame.tx, hqueue, hwork.tx]
      · rw [hsame.tu, htu, hwork.tu]
      · rw [hsame.tu, htu, hwork.tu]
    · exact (taken_eq_after hh.hears _).trans (congrArg (fun p => Host.Outcome.next (after s p)) (hhold hl ht))
    · intro m C head left fresh pieces orders q
      have hupdate : d.2.thisUpdate = s.part.store.next := congrArg Store.next hwork.store
      have hpieces : d.2.placePieces d.1 = pieces := (placePieces_eq _ _).trans (by rw [hupdate]; rfl)
      have horders : d.2.placeWrites h a attrs (s.part.reserveFor h.req) d.1 = orders :=
        placeWrites_eq.trans (by rw [hupdate, hpieces]; rfl)
      have hport : (joinedPort s.part.mp (.txn h.tag) orders).SameQueue q.mp := by
        rw [← horders]
        exact (sameQueue_joinedPort hwork.sameQueue _ _).trans (mp_admitPlace hnew')
      obtain ⟨hruns, hhead⟩ := placeStaged_sl (p := d.2) (at_ := attrs) (d := d.1)
      refine ⟨hexec hl, ⟨_, htxn, rfl, hpieces, ?_, rfl, rfl⟩, hport.orders, hport.writeWait, hport.waiting, hbm,
        congrArg LogUnit.held hsl, (congrArg LogUnit.runs hsl).trans hruns, (congrArg LogUnit.head hsl).trans hhead,
        fun hs => ?_⟩
      · rw [horders, hwork.sameQueue.orders, hwork.sameQueue.writeWait]
      · exact stream_admitPlace hnew' (streamed_eq_true.2 ⟨hs.1, hs.2.1, liveStreams_divide _ hs.2.2⟩)
  · intro p a cls none' streamed direct
    refine ⟨fun hn => divide_of_staged fun ⟨hs, hd⟩ => ?_, fun hs hd =>
      divide_of_direct (streamed_eq_true.2 hs) (goesDirect_eq_true.2 hd)⟩
    rcases hn with hn | hn
    · exact hn (streamed_eq_true.1 hs)
    · exact hn (goesDirect_eq_true.1 hd)
  · intro p i cls k d r starved
    exact ⟨divideSteps_of_done, divideSteps_of_no_band, fun x hl hx =>
      ⟨divideSteps_of_no_room hl hx, divideSteps_of_room hl hx rfl⟩⟩
  · intro p w c held owns g top zone unused fits best may q given
    have howns (b : Nat) : owns b ↔ p.ownBand w = some b := ownBand_eq_some.symm
    have hfits (b : Nat) : p.Fits c b ↔ fits b := and_congr_right fun _ => allocatable_eq_true
    have hmay : p.mayAllocate w c = true ↔ may := mayAllocate_eq_true
    have hgiven {b cls : Nat} {r : Part} (hq : q = (some b, r)) (hg : p.Gives r w b cls) : given b cls := by
      refine ⟨congrArg Prod.fst hq, ?_⟩
      rw [hq]
      cases w <;> exact ⟨hg.self, hg.other, hg.su, hg.chans⟩
    refine ⟨fun b hb => bandRequest_of_own ((howns b).1 hb), fun hnone => ?_⟩
    have hown : p.ownBand w = none := Option.eq_none_iff_forall_ne_some.2 fun b hb => hnone b ((howns b).2 hb)
    refine ⟨fun b more hl => ?_, fun hl => ⟨fun b hm hbest => ?_, fun hn => ?_⟩⟩
    · have hq : q = _ := bandRequest_of_parked hown hl
      refine ⟨hgiven hq gives_unpark_give, ?_⟩
      rw [hq]
      exact unpark_give_parked
    · have hb : BestOf p.bm (p.freeBands c) b :=
        ⟨mem_freeBands.2 ((hfits b).2 hbest.1), fun x hx => hbest.2 x ((hfits x).1 (mem_freeBands.1 hx))⟩
      have hq : q = _ := bandRequest_of_allocation hown hl (hmay.2 hm) (bestBand_of_best hb)
      refine ⟨hgiven hq gives_allocated, ?_⟩
      rw [hq]
      exact allocated_parked
    · refine bandRequest_of_none hown hl (hn.imp (fun hn => ?_) fun hn => ?_)
      · exact Bool.eq_false_iff.2 fun ht => hn (hmay.1 ht)
      · exact bestBand_of_none fun b hb => hn b ((hfits b).1 hb)
  · intro p w b n hb r got m
    refine ⟨reserve_of_refused, fun hs ho hg => ⟨reserve_of_taken hs ho hg, ?_⟩⟩
    exact pairLaw_of_room hb hg (min_le_right _ _)

end Sys2Proof.Machine
end
